-- ==== Sys2Proof/Word.lean ====
section
/-! DEFINITION. The word types of the part: what the manual treats as bits. -/

namespace Sys2Proof

/-- One byte of the control port or of a frame. -/
abbrev Byte := BitVec 8

/-- A coil identifier: any 32-bit value (00_scope, Identifiers). -/
abbrev CoilId := BitVec 32

/-- A count of the internal 1 ms tick since pin reset, wrapping (section 6.2, reserved-since). -/
abbrev Tick := BitVec 32

end Sys2Proof
end

