-- ==== Sys2Proof/Syntax.lean ====
section
/-! DEFINITION. The commands of the part: one constructor of `Instr` for each row of the opcode
table, with the operands its rule needs, and the types those operands are made of. -/

namespace Sys2Proof

/-- The three axes of the position unit (section 1.1). -/
inductive Axis where
  | bridge | trolley | hoist
  deriving DecidableEq, Repr

/-- The two axes that have a reference-mark input (section 1.5). -/
inductive MarkedAxis where
  | bridge | trolley
  deriving DecidableEq, Repr

/-- Trust in a position (section 1.4). -/
inductive PosState where
  | unreferenced | valid | suspect
  deriving DecidableEq, Repr

/-- Whether a coil hangs on the hook (section 2.5). -/
inductive LoadState where
  | unloaded | loaded
  deriving DecidableEq, Repr

/-- The task summary of a STATUS frame (R44). -/
inductive TaskSummary where
  | idle | claiming | carrying | other
  deriving DecidableEq, Repr

/-- A slot reference or a cradle reference (00_scope, References; section 3.3). -/
inductive Ref where
  | slot (row column : Nat)
  | cradle (bay index : Nat)
  deriving DecidableEq, Repr

/-- The direction of a claim entry; OUT carries the expected coil identifier (section 3.3). -/
inductive ClaimDir where
  | inward
  | outward (coil : CoilId)
  deriving DecidableEq, Repr

/-- One entry of a CLAIM (section 3.3, section 7.1). -/
structure ClaimEntry where
  ref : Ref
  dir : ClaimDir
  deriving DecidableEq, Repr

/-- What a STATUS frame reports of its sender (section 3.1), but for the farewell flag and the signature. -/
structure Report where
  bridgePos : Nat
  bridgeSpeed : Int
  plusExtent : Nat
  minusExtent : Nat
  trolleyPos : Nat
  hookHeight : Nat
  load : LoadState
  posState : PosState
  summary : TaskSummary
  stableNet : Option Int
  deriving DecidableEq, Repr

/-- The fields of a STATUS frame but for the farewell flag (section 3.1). -/
structure StatusReport where
  report : Report
  signature : Nat
  deriving DecidableEq, Repr

/-- Which way a trailer's bed runs from the kingpin (section 9.1). -/
inductive Orientation where
  | plus | minus
  deriving DecidableEq, Repr

/-- The numbers of a trailer announced with ARRIVE (section 9.2). -/
structure Trailer where
  L : Nat
  K0 : Nat
  A0 : Nat
  Kmax : Nat
  Amax : Nat
  Gmax : Nat
  Kmin : Nat
  deriving DecidableEq, Repr

/-- The six values of the store geometry (section 6.1). -/
structure Geometry where
  rows : Nat
  lower : Nat
  rowBase : Nat
  rowPitch : Nat
  posBase : Nat
  posPitch : Nat
  deriving DecidableEq, Repr

/-- The configuration items of the weighing unit (items 27 to 35 of section 10.3). -/
inductive WeighItem where
  | fsA | fsB | tare | ratedLoad | overloadPercent | liftThreshold | releaseThreshold | stabilityBand | slackThreshold
  deriving DecidableEq, Repr

/-- The arguments of ZONE_WRITE after its index, as the payload carries them (section 10.2). -/
structure ZoneArgs where
  valid : Nat
  bridgeMin : Nat
  bridgeMax : Nat
  trolleyMin : Nat
  trolleyMax : Nat
  kind : Nat
  clearance : Nat
  condition : Nat
  number : Nat
  deriving DecidableEq, Repr

/-- The commands: one constructor for each row of the opcode table. Request operands are the payload
fields of section 10.2, so that a value outside its list or range reaches the rule that refuses it. -/
inductive Instr where
  -- the reset pin (R208)
  | pinResetAssert
  | pinResetRelease
  -- the sensors (R1, R7, R3, R16)
  | encoderTransition (axis : Axis) (a b : Bool)
  | markEdge (axis : MarkedAxis)
  | positionSample
  | weighingCycle (coarseA fineA coarseB fineB : Int)
  -- events of the yard line (R37 to R53)
  | lineFault (reported receiving : Bool)
  | frameStart
  | arbitrationLost
  | frameSent
  | transmitError
  | receiveError
  | ownIdentifierFrame
  -- frames received (R52)
  | statusReceived (sender : Nat) (status : StatusReport)
  | farewellReceived (sender : Nat) (status : StatusReport)
  | claimReceived (sender round priority : Nat) (entries : List ClaimEntry)
  | objectReceived (sender claimant round : Nat) (ref : Ref)
  | releaseReceived (sender round : Nat) (refs : List Ref)
  | pickedReceived (sender round : Nat) (ref : Ref) (coil : CoilId)
  | placedReceived (sender round : Nat) (ref : Ref) (coil : CoilId) (weight : Nat) (width : Option Nat)
  | truckArriveReceived (sender bay truckRef : Nat) (orientation : Orientation) (trailer : Trailer) (offsets : List Nat)
  | truckCloseReceived (sender bay truckRef : Nat)
  | truckDepartReceived (sender bay truckRef : Nat)
  -- internal steps
  | beatExpiry
  | deferredStatusCompose
  | farewellCompose
  | releaseRequestRetry
  | bookingResumed
  | claimWindowExpiry
  | peerReservationHeld (ref : Ref)
  | entryStale (id : Nat)
  | neighbourLost (id : Nat)
  | untrackedClear
  -- the control port (R196 to R200)
  | chipSelectRise (bytes : List Byte) (partialByte : Bool)
  | readReply (clocks : Nat)
  | unknownRequest
  -- requests (section 10.2)
  | cfgWrite (item : Nat) (values : List Nat)
  | cfgWriteStationId (value : Nat)
  | cfgWriteBeat (value : Nat)
  | cfgWriteGeometry (geometry : Geometry)
  | cfgWriteWeighing (item : WeighItem) (value : Nat)
  | cfgWriteBay (bay kingpin line orientation : Nat)
  | cfgRead (item : Nat)
  | zoneWrite (index : Nat) (zone : ZoneArgs)
  | join
  | leave
  | restart
  | posReference (axis position : Nat)
  | zeroSet
  | zoneEnable (change on : BitVec 8)
  | stateRead
  | mapWrite (ref : Ref) (state : Nat) (coil : Option CoilId) (weight width : Option Nat)
  | mapRead (ref : Ref)
  | mapFind (coil : CoilId)
  | taskStart (id kind : Nat) (source target : Ref) (coil : CoilId) (priority : Nat)
  | taskConfirm
  | taskCancel
  | taskRetarget (target : Ref)
  | taskRead
  | truckArrive (bay truckRef orientation : Nat) (trailer : Trailer) (offsets : List Nat)
  | truckClose (bay : Nat)
  | truckDepart (bay : Nat)
  | truckRead (bay : Nat)
  | neighbourRead (id : Nat)
  | neighbourDrop (id : Nat)
  | noticeRead
  | noticeClear (mask : BitVec 32)
  | noticeEnable (sources : BitVec 32) (groups : BitVec 8) (global : Nat)
  deriving DecidableEq, Repr

end Sys2Proof
end

