-- ==== Sys2Proof/Config.lean ====
section
/-! DEFINITION. What the manual leaves open and the model leaves free. -/

namespace Sys2Proof

/-- The free choice of the order in which events that come together are taken. The manual says of such
events that "either may be taken first" (R61, R66, R69, R137, R141). The value is applied to the count
of idle steps and read as the code of a permutation; nothing constrains it (assumption 2). -/
opaque Config.tickOrder : Nat → Nat

end Sys2Proof
end

