-- ==== Sys2Proof/Machine/State.lean ====
section
/-! DEFINITION. The state of the part as plain data, one record for each block of the manual, the
reasons a step can stop, and the state right after a pin reset. -/

namespace Sys2Proof.Machine

/-- Reasons a command could stop the machine with a fault. The manual describes none: every error is an
effect on the state (a reply status, a count, a condition, a DISPUTED slot). No constructor, hence safe. -/
inductive Fault where
  deriving DecidableEq, Repr

/-- Reasons a command is refused by the model. -/
inductive Refusal where
  /-- Raised by `exec` for a command that has no meaning yet, by its mnemonic in the opcode table.
  Safe: the model stops where the hardware goes on. No arm of `exec` raises it now. -/
  | notModelled (mnemonic : String)
  deriving DecidableEq, Repr

/-! ### Position unit (section 1.1) -/

/-- What the position unit holds for one axis. The hoist has no speed and no remembered error: its
`speed` stays 0 and its `remembered` stays absent. `lineA` and `lineB` are the encoder's input pins. -/
structure AxisUnit where
  counter : BitVec 32
  offset : Int
  current : Int
  previous : Int
  speed : Int
  state : PosState
  remembered : Option Int
  lineA : Bool
  lineB : Bool
  deriving DecidableEq, Repr

/-- The position unit: three axes and the time since the last position sample, in ms (R3). -/
structure PositionUnit where
  bridge : AxisUnit
  trolley : AxisUnit
  hoist : AxisUnit
  sampleElapsed : Nat
  deriving DecidableEq, Repr

/-! ### Weighing unit (section 2.1) -/

/-- One weighing channel. `input` is the load-cell pin's quantity in whole counts (R17, R19 use no more of
it than its floor), as it stood at the last fine conversion. -/
structure Channel where
  input : Int
  coarse : Nat
  railRun : Nat
  clearRun : Nat
  value : Nat
  weight : Nat
  fault : Bool
  deriving DecidableEq, Repr

/-- A condition judged over runs of cycles (R28, R29). -/
structure Condition where
  set : Bool
  setRun : Nat
  clearRun : Nat
  deriving DecidableEq, Repr

/-- The weighing unit. The window is oldest first; the window is stable when the stable net is present
(R24). The tare stands in the configuration store (item 29). -/
structure WeighingUnit where
  a : Channel
  b : Channel
  gross : Nat
  net : Option Int
  window : List Int
  stableNet : Option Int
  lastStable : Option Int
  load : LoadState
  overload : Condition
  slack : Condition
  cycleElapsed : Nat
  deriving DecidableEq, Repr

/-! ### Reservations and records (sections 6.2 and 9.2) -/

/-- Who holds a reservation, or placed a coil: the station itself or a peer. -/
inductive Holder where
  | own
  | peer (id : Nat)
  deriving DecidableEq, Repr

/-- The claim phase of a reservation (R134, R140). -/
inductive Phase where
  | pending | held
  deriving DecidableEq, Repr

/-- The five reservation fields (section 6.2). -/
structure Reservation where
  holder : Holder
  round : Nat
  priority : Nat
  phase : Phase
  since : Tick
  deriving DecidableEq, Repr

/-- The coil recorded in a slot, with its weight and width class where known (section 6.2). -/
structure CoilInfo where
  coil : CoilId
  weight : Option Nat
  width : Option Nat
  deriving DecidableEq, Repr

/-- The seven slot states, each with exactly the fields R104 gives it. -/
inductive SlotContent where
  | unknown
  | empty
  | reservedIn (r : Reservation)
  | occupied (c : CoilInfo)
  | reservedOut (c : CoilInfo) (r : Reservation)
  | disputed
  | closed
  deriving DecidableEq, Repr

/-- Where the station learned what a record holds (R105). -/
inductive ChangeSource where
  | own
  | peer (id : Nat)
  | crane
  deriving DecidableEq, Repr

/-- One slot record (section 6.2). -/
structure SlotRecord where
  content : SlotContent
  source : ChangeSource
  deriving DecidableEq, Repr

/-- The three cradle states, each with exactly the fields R177 gives it. -/
inductive CradleContent where
  | free
  | reserved (r : Reservation)
  | occupied (coil : CoilId) (weight : Nat) (placer : Holder)
  deriving DecidableEq, Repr

/-- One cradle: its offset from the kingpin and its state (section 9.2). -/
structure Cradle where
  offset : Nat
  content : CradleContent
  deriving DecidableEq, Repr

/-- A truck record in LOADING (`closed` clear) or CLOSED (`closed` set); an ABSENT record is no `Truck`
(R177). -/
structure Truck where
  closed : Bool
  truckRef : Nat
  announcer : Nat
  orientation : Orientation
  trailer : Trailer
  cradles : List Cradle
  K : Int
  A : Int
  overLimit : Bool
  deriving DecidableEq, Repr

/-- The truck unit: the record of each bay (none is ABSENT), and whether the offer of R191 stands. -/
structure TruckUnit where
  bay0 : Option Truck
  bay1 : Option Truck
  checkStop : Bool
  deriving DecidableEq, Repr

/-! ### Link controller (sections 3.5 to 3.8) -/

/-- The link states, in the order of section 3.8. -/
inductive LinkState where
  | config | listen | active | muted | halted | idclash
  deriving DecidableEq, Repr

/-- A STATUS frame waiting to be sent. -/
structure StatusFrame where
  status : StatusReport
  farewell : Bool
  deriving DecidableEq, Repr

/-- A CLAIM waiting to be sent. -/
structure ClaimFrame where
  round : Nat
  priority : Nat
  entries : List ClaimEntry
  deriving DecidableEq, Repr

/-- A RELEASE, as a waiting frame or as a request held by the claim engine (R46, R145). -/
structure ReleaseFrame where
  round : Nat
  refs : List Ref
  deriving DecidableEq, Repr

/-- A frame of the BOOK mailbox (section 3.3). -/
inductive BookFrame where
  | picked (round : Nat) (ref : Ref) (coil : CoilId)
  | placed (round : Nat) (ref : Ref) (coil : CoilId) (weight : Nat) (width : Option Nat)
  deriving DecidableEq, Repr

/-- A TRUCK frame (section 3.3). -/
inductive TruckFrame where
  | arrive (bay truckRef : Nat) (orientation : Orientation) (trailer : Trailer) (offsets : List Nat)
  | close (bay truckRef : Nat)
  | depart (bay truckRef : Nat)
  deriving DecidableEq, Repr

/-- An OBJECT (section 3.3). -/
structure ObjectFrame where
  claimant : Nat
  round : Nat
  ref : Ref
  deriving DecidableEq, Repr

/-- The kinds of mailbox, in order of class; the two OBJECT mailboxes are one kind (R39). -/
inductive Mailbox where
  | object | status | release | claim | book | truck
  deriving DecidableEq, Repr

/-- The seven mailboxes. The two OBJECT mailboxes are a list of at most two, the older first (R48). -/
structure Mailboxes where
  status : Option StatusFrame
  claim : Option ClaimFrame
  release : Option ReleaseFrame
  book : Option BookFrame
  truck : Option TruckFrame
  objects : List ObjectFrame
  deriving DecidableEq, Repr

/-- The link controller. `beats` counts the beat expiries since the link state was entered, `afterMuted`
marks a listen period that follows MUTED (R57), `withdrawal` is the withdrawal of the CLAIM being sent (R45). -/
structure Link where
  state : LinkState
  txErr : Nat
  rxErr : Nat
  leaving : Bool
  signature : Nat
  beatElapsed : Nat
  beatPeriod : Nat
  beats : Nat
  afterMuted : Bool
  boxes : Mailboxes
  sending : Option Mailbox
  receiving : Bool
  lineFault : Bool
  statusDeferred : Bool
  withdrawal : Option ReleaseFrame
  deriving DecidableEq, Repr

/-! ### Neighbour table (section 4.1) -/

/-- The permission levels, from lowest to highest. -/
inductive Level where
  | stop | creep | slow | full
  deriving DecidableEq, Repr

/-- The entry states (section 4.1). -/
inductive EntryState where
  | fresh | stale | lost
  deriving DecidableEq, Repr

/-- One entry of the neighbour table (section 4.1). -/
structure Entry where
  id : Nat
  state : EntryState
  age : Nat
  report : Report
  foreign : Bool
  heldPlus : Level
  heldMinus : Level
  deriving DecidableEq, Repr

/-- The neighbour table, its entries by ascending identifier (R60, R72). -/
structure NeighbourTable where
  entries : List Entry
  untracked : Bool
  untrackedAge : Nat
  deriving DecidableEq, Repr

/-! ### Permission unit (chapter 5) -/

/-- The six axis-directions (R75). -/
inductive Dir where
  | bridgePlus | bridgeMinus | trolleyPlus | trolleyMinus | hoistUp | hoistDown
  deriving DecidableEq, Repr

/-- One level for each axis-direction. -/
structure Levels where
  bridgePlus : Level
  bridgeMinus : Level
  trolleyPlus : Level
  trolleyMinus : Level
  hoistUp : Level
  hoistDown : Level
  deriving DecidableEq, Repr

/-- The zone kinds (section 5.9). -/
inductive ZoneKind where
  | keepOut | loadedKeepOut | clearance | slowArea
  deriving DecidableEq, Repr

/-- The zone conditions (R87). -/
inductive ZoneCond where
  | always
  | switch (n : Nat)
  | truck (bay : Nat)
  deriving DecidableEq, Repr

/-- One entry of the zone table, as written (R87). -/
structure ZoneEntry where
  valid : Bool
  bridgeMin : Nat
  bridgeMax : Nat
  trolleyMin : Nat
  trolleyMax : Nat
  kind : ZoneKind
  clearance : Nat
  cond : ZoneCond
  deriving DecidableEq, Repr

/-- A zone: its entry, its five held levels (R94), and whether it is in the inside case (R91). -/
structure Zone where
  entry : ZoneEntry
  heldBridgePlus : Level
  heldBridgeMinus : Level
  heldTrolleyPlus : Level
  heldTrolleyMinus : Level
  heldHoistDown : Level
  inside : Bool
  deriving DecidableEq, Repr

/-- One change of the two lines of an output (R75). -/
structure LineChange where
  dir : Dir
  lineA : Bool
  lineB : Bool
  deriving DecidableEq, Repr

/-- The permission unit. `outputs` are the levels being driven, `lineTrace` (assumption 8) the line changes of the last
change of any output, in order (the model's record of R75). -/
structure PermissionUnit where
  zones : List Zone
  switches : BitVec 8
  limits : Levels
  hoistNow : Int
  hoistPrev : Int
  hoistSpeed : Int
  outputs : Levels
  lineTrace : List LineChange
  deriving DecidableEq, Repr

/-! ### Claim engine (section 7.1) -/

/-- What a round is for. -/
inductive Purpose where
  | start | retarget | reassert
  deriving DecidableEq, Repr

/-- The stage of a round. -/
inductive Stage where
  | queued | opened
  deriving DecidableEq, Repr

/-- The round record (section 7.1). -/
structure Round where
  number : Nat
  purpose : Purpose
  priority : Nat
  entries : List ClaimEntry
  stage : Stage
  windowTime : Nat
  deriving DecidableEq, Repr

/-- The claim engine. -/
structure ClaimEngine where
  counter : Nat
  round : Option Round
  heldRequests : List ReleaseFrame
  deriving DecidableEq, Repr

/-! ### Task tracker (sections 8.1 and 8.2) -/

/-- The task states other than IDLE (section 8.3); IDLE is the absence of a task record. -/
inductive TaskState where
  | claiming | toSource | liftPending | verifyHold | toTarget | targetLost | retargeting | placePending
  | returning | done | cancelled | claimLost | aborted
  deriving DecidableEq, Repr

/-- The kinds of task. -/
inductive TaskKind where
  | move | load
  deriving DecidableEq, Repr

/-- The reasons of section 8.13, in its order. -/
inductive Reason where
  | request | returned | outranked | objected | removed | notActive | targetTaken | earlyLift | wrongLift
  | wrongSetdown | sourceLost
  deriving DecidableEq, Repr

/-- A booking that waits for the BOOK mailbox (R169). -/
inductive Booking where
  | takeOut | putIn | returnIn
  deriving DecidableEq, Repr

/-- The task record (section 8.1). The source is a slot, (`sourceRow`, `sourceColumn`). -/
structure Task where
  id : Nat
  kind : TaskKind
  sourceRow : Nat
  sourceColumn : Nat
  target : Option Ref
  coil : CoilId
  weight : Option Nat
  width : Option Nat
  priority : Nat
  state : TaskState
  measured : Option Nat
  reason : Option Reason
  round : Nat
  waiting : Option Booking
  deriving DecidableEq, Repr

/-- The origin of what hangs on the hook. -/
inductive Origin where
  | task | unknown
  deriving DecidableEq, Repr

/-- The hook record, present while LOADED (section 8.2). -/
structure Hook where
  coil : Option CoilId
  weight : Nat
  width : Option Nat
  origin : Origin
  deriving DecidableEq, Repr

/-- The task tracker: the task record (absent in IDLE) and the hook record (absent while empty). -/
structure Tracker where
  task : Option Task
  hook : Option Hook
  deriving DecidableEq, Repr

/-! ### Configuration store (section 10.3) -/

/-- The two bookkeeping modes. -/
inductive BookMode where
  | auto | manual
  deriving DecidableEq, Repr

/-- The configuration item of one bay (R175). -/
structure BayItem where
  kingpin : Nat
  line : Nat
  orientation : Orientation
  deriving DecidableEq, Repr

/-- The configuration store, items 1 to 43 of section 10.3. An item that may be unset is present once it
has been written (R206). -/
structure Cfg where
  stationId : Option Nat
  beat : Nat
  claimWindow : Nat
  vmax : Nat
  aBridge : Nat
  aTrolley : Nat
  aHoist : Nat
  tReact : Nat
  margin : Nat
  slowBand : Nat
  hysteresis : Nat
  lostDriftCap : Nat
  plusExtent : Nat
  minusExtent : Nat
  runwayMin : Nat
  runwayMax : Nat
  trolleyMin : Nat
  trolleyMax : Nat
  hoistBottom : Nat
  hoistTop : Nat
  scaleBridge : Nat
  scaleTrolley : Nat
  scaleHoist : Nat
  marksBridge : List Nat
  marksTrolley : List Nat
  tolerance : Nat
  fsA : Nat
  fsB : Nat
  tare : Nat
  ratedLoad : Nat
  overloadPercent : Nat
  liftThreshold : Nat
  releaseThreshold : Nat
  stabilityBand : Nat
  slackThreshold : Nat
  radiusLoaded : Nat
  radiusUnloaded : Nat
  bookMode : BookMode
  geometry : Option Geometry
  slotWindow : Nat
  bay0 : Option BayItem
  bay1 : Option BayItem
  cradleWindow : Nat
  deriving DecidableEq, Repr

/-! ### Control port and notice unit (chapter 10) -/

/-- The reply statuses, in the order of section 10.2. -/
inductive Status where
  | ok | badState | busy | badArg | notActive | hookLoaded | notStable | moving | linkBusy | bayBusy
  | cradleReserved | notLost | reserved | tier | duplicate | refused
  deriving DecidableEq, Repr

/-- The refusal reasons of status REFUSED, in the order of section 10.2. -/
inductive RefusalReason where
  | sourceMismatch | sourceCovered | sourceReserved | sourceState | targetState | targetReserved | tierRule
  | weightRule | widthRule | truckNotLoading | loadLimit
  deriving DecidableEq, Repr

/-- A reply (R201): the reason is present with status REFUSED. -/
structure Reply where
  status : Status
  reason : Option RefusalReason
  payload : List Byte
  deriving DecidableEq, Repr

/-- A request transaction in the request buffer (R196). -/
structure Transaction where
  bytes : List Byte
  partialByte : Bool
  deriving DecidableEq, Repr

/-- The control port. `dataOut` are the bytes shifted out in the last transaction (R196, R199; assumption 8). -/
structure Port where
  ready : Bool
  request : Option Transaction
  reply : Option Reply
  dataOut : List Byte
  deriving DecidableEq, Repr

/-- The notice unit (section 10.5). -/
structure NoticeUnit where
  sources : BitVec 32
  groups : BitVec 8
  sourceEnable : BitVec 32
  groupEnable : BitVec 8
  global : Bool
  attn : Bool
  deriving DecidableEq, Repr

/-- The clock and the reset pin. `now` is the internal tick since pin reset, `idleCount` the model's own
count of idle steps, read by the free value `Config.tickOrder` (assumption 2). -/
structure Clock where
  resetHeld : Bool
  now : Tick
  idleCount : Nat
  deriving DecidableEq, Repr

end Sys2Proof.Machine

namespace Sys2Proof.Machine

/-- The state of the part: one record for each block, and the queue of commands that wait. -/
structure State where
  clock : Clock
  cfg : Cfg
  pos : PositionUnit
  weigh : WeighingUnit
  link : Link
  table : NeighbourTable
  perm : PermissionUnit
  map : List SlotRecord
  claims : ClaimEngine
  tracker : Tracker
  trucks : TruckUnit
  port : Port
  notices : NoticeUnit
  pending : List Instr
  deriving DecidableEq, Repr

/-! ### The state right after a pin reset -/

/-- An axis after pin reset (R14); the encoder lines are the design choice of assumption 3. -/
def AxisUnit.reset : AxisUnit :=
  { counter := 0, offset := 0, current := 0, previous := 0, speed := 0, state := .unreferenced,
    remembered := none, lineA := false, lineB := false }

/-- The position unit after pin reset (R14). -/
def PositionUnit.reset : PositionUnit :=
  { bridge := .reset, trolley := .reset, hoist := .reset, sampleElapsed := 0 }

/-- A channel after pin reset (R35; the values no rule names are assumptions 4 and 5). -/
def Channel.reset : Channel :=
  { input := 0, coarse := 0, railRun := 0, clearRun := 0, value := 0, weight := 0, fault := false }

/-- A cleared condition with both runs 0. -/
def Condition.reset : Condition := { set := false, setRun := 0, clearRun := 0 }

/-- The weighing unit after pin reset (R35). -/
def WeighingUnit.reset : WeighingUnit :=
  { a := .reset, b := .reset, gross := 0, net := some 0, window := [], stableNet := none, lastStable := none,
    load := .unloaded, overload := .reset, slack := .reset, cycleElapsed := 0 }

/-- Seven empty mailboxes (R59). -/
def Mailboxes.reset : Mailboxes :=
  { status := none, claim := none, release := none, book := none, truck := none, objects := [] }

/-- The link controller after pin reset (R59); the geometry signature is the design choice of assumption 6. -/
def Link.reset : Link :=
  { state := .config, txErr := 0, rxErr := 0, leaving := false, signature := 0, beatElapsed := 0,
    beatPeriod := 100, beats := 0, afterMuted := false, boxes := .reset, sending := none, receiving := false,
    lineFault := false, statusDeferred := false, withdrawal := none }

/-- The neighbour table after pin reset and RESTART (R73). -/
def NeighbourTable.reset : NeighbourTable := { entries := [], untracked := false, untrackedAge := 0 }

/-- The same level for all six directions. -/
def Levels.all (l : Level) : Levels :=
  { bridgePlus := l, bridgeMinus := l, trolleyPlus := l, trolleyMinus := l, hoistUp := l, hoistDown := l }

/-- An invalid zone entry (R100; its other fields are assumption 7). -/
def ZoneEntry.reset : ZoneEntry :=
  { valid := false, bridgeMin := 0, bridgeMax := 0, trolleyMin := 0, trolleyMax := 0, kind := .keepOut,
    clearance := 0, cond := .always }

/-- A zone with a given entry whose held levels are FULL and which is not in the inside case (R94). -/
def Zone.fresh (e : ZoneEntry) : Zone :=
  { entry := e, heldBridgePlus := .full, heldBridgeMinus := .full, heldTrolleyPlus := .full,
    heldTrolleyMinus := .full, heldHoistDown := .full, inside := false }

/-- The permission unit after pin reset (R100). -/
def PermissionUnit.reset : PermissionUnit :=
  { zones := List.replicate 16 (Zone.fresh .reset), switches := 0, limits := .all .full, hoistNow := 0,
    hoistPrev := 0, hoistSpeed := 0, outputs := .all .stop, lineTrace := [] }

/-- The claim engine after pin reset (R148). -/
def ClaimEngine.reset : ClaimEngine := { counter := 0, round := none, heldRequests := [] }

/-- The task tracker after pin reset and RESTART: IDLE and an empty hook (R173, R174). -/
def Tracker.reset : Tracker := { task := none, hook := none }

/-- The truck unit after pin reset (R194). -/
def TruckUnit.reset : TruckUnit := { bay0 := none, bay1 := none, checkStop := false }

/-- The configuration defaults (section 10.3, R208). -/
def Cfg.reset : Cfg :=
  { stationId := none, beat := 100, claimWindow := 300, vmax := 1500, aBridge := 300, aTrolley := 300,
    aHoist := 200, tReact := 400, margin := 1000, slowBand := 3000, hysteresis := 200, lostDriftCap := 10000,
    plusExtent := 6000, minusExtent := 6000, runwayMin := 0, runwayMax := 400000, trolleyMin := 0,
    trolleyMax := 60000, hoistBottom := 0, hoistTop := 40000, scaleBridge := 1000, scaleTrolley := 1000,
    scaleHoist := 1000, marksBridge := [], marksTrolley := [], tolerance := 50, fsA := 2000, fsB := 2000,
    tare := 0, ratedLoad := 3200, overloadPercent := 110, liftThreshold := 200, releaseThreshold := 80,
    stabilityBand := 4, slackThreshold := 50, radiusLoaded := 1200, radiusUnloaded := 300, bookMode := .auto,
    geometry := none, slotWindow := 250, bay0 := none, bay1 := none, cradleWindow := 300 }

/-- The control port after pin reset (R208). -/
def Port.reset : Port := { ready := true, request := none, reply := none, dataOut := [] }

/-- The notice unit after pin reset (R208). -/
def NoticeUnit.reset : NoticeUnit :=
  { sources := 0, groups := 0, sourceEnable := 0, groupEnable := 0, global := false, attn := false }

/-- The clock at the release of pin reset (R208). -/
def Clock.reset : Clock := { resetHeld := false, now := 0, idleCount := 0 }

/-- The machine right after a pin reset (R208). -/
def State.reset : State :=
  { clock := .reset, cfg := .reset, pos := .reset, weigh := .reset, link := .reset, table := .reset,
    perm := .reset, map := [], claims := .reset, tracker := .reset, trucks := .reset, port := .reset,
    notices := .reset, pending := [] }

end Sys2Proof.Machine
end

