-- ==== Sys2Proof/Machine/Update.lean ====
section
/-! DEFINITION. The named updates of the state, one for each block; every change goes through them. -/

namespace Sys2Proof.Machine

/-- The state with another `clock`. -/
def State.withClock (s : State) (x : Clock) : State := { s with clock := x }

/-- The state with another `cfg`. -/
def State.withCfg (s : State) (x : Cfg) : State := { s with cfg := x }

/-- The state with another `pos`. -/
def State.withPos (s : State) (x : PositionUnit) : State := { s with pos := x }

/-- The state with another `weigh`. -/
def State.withWeigh (s : State) (x : WeighingUnit) : State := { s with weigh := x }

/-- The state with another `link`. -/
def State.withLink (s : State) (x : Link) : State := { s with link := x }

/-- The state with another `table`. -/
def State.withTable (s : State) (x : NeighbourTable) : State := { s with table := x }

/-- The state with another `perm`. -/
def State.withPerm (s : State) (x : PermissionUnit) : State := { s with perm := x }

/-- The state with another `map`. -/
def State.withMap (s : State) (x : List SlotRecord) : State := { s with map := x }

/-- The state with another `claims`. -/
def State.withClaims (s : State) (x : ClaimEngine) : State := { s with claims := x }

/-- The state with another `tracker`. -/
def State.withTracker (s : State) (x : Tracker) : State := { s with tracker := x }

/-- The state with another `trucks`. -/
def State.withTrucks (s : State) (x : TruckUnit) : State := { s with trucks := x }

/-- The state with another `port`. -/
def State.withPort (s : State) (x : Port) : State := { s with port := x }

/-- The state with another `notices`. -/
def State.withNotices (s : State) (x : NoticeUnit) : State := { s with notices := x }

/-- The state with another `pending`. -/
def State.withPending (s : State) (x : List Instr) : State := { s with pending := x }

end Sys2Proof.Machine
end

