-- ==== Sys2Proof/Machine/Flags.lean ====
section
/-! DEFINITION. The notice flags: their bits and groups, the raise of a notice, and ATTN (section 10.5). -/

namespace Sys2Proof.Machine

/-- The notice sources (section 10.5). -/
inductive Notice where
  | joined | muted | idclash | linkNoisy | untracked | neighbourLost | objectionDropped | geometryMismatch
  | portOverrun | posSuspect | zoneInside | overload | slack | channelFault | weightMismatch | disputed
  | hookUnknown | claimHeld | claimLost | liftPending | placePending | taskDone | targetLost | cancelled
  | aborted | truckArrived | truckDeparted | truckConflict | truckOver | loadLimit
  deriving DecidableEq, Repr

/-- The bit of a source flag (section 10.5). -/
def Notice.bit : Notice → Nat
  | .joined => 0 | .muted => 1 | .idclash => 2 | .linkNoisy => 3 | .untracked => 4 | .neighbourLost => 5
  | .objectionDropped => 6 | .geometryMismatch => 7 | .portOverrun => 8 | .posSuspect => 9
  | .zoneInside => 10 | .overload => 11 | .slack => 12 | .channelFault => 13 | .weightMismatch => 14
  | .disputed => 15 | .hookUnknown => 16 | .claimHeld => 17 | .claimLost => 18 | .liftPending => 19
  | .placePending => 20 | .taskDone => 21 | .targetLost => 22 | .cancelled => 23 | .aborted => 24
  | .truckArrived => 25 | .truckDeparted => 26 | .truckConflict => 27 | .truckOver => 28 | .loadLimit => 29

/-- The group bit of a source: LINK 0, MOTION 1, WEIGH 2, STORE 3, TASK 4, TRUCK 5 (section 10.5). -/
def Notice.group : Notice → Nat
  | .joined | .muted | .idclash | .linkNoisy | .untracked | .neighbourLost | .objectionDropped
  | .geometryMismatch | .portOverrun => 0
  | .posSuspect | .zoneInside => 1
  | .overload | .slack | .channelFault | .weightMismatch => 2
  | .disputed | .hookUnknown => 3
  | .claimHeld | .claimLost | .liftPending | .placePending | .taskDone | .targetLost | .cancelled | .aborted => 4
  | .truckArrived | .truckDeparted | .truckConflict | .truckOver | .loadLimit => 5

/-- The word with one bit set. -/
def bitMask (w : Nat) (i : Nat) : BitVec w := BitVec.ofNat w (2 ^ i)

/-- R209: the source flag is set, and the group flag with it where the source is enabled. -/
def NoticeUnit.raise (n : Notice) (u : NoticeUnit) : NoticeUnit :=
  { u with
    sources := u.sources ||| bitMask 32 n.bit
    groups := if u.sourceEnable &&& bitMask 32 n.bit = 0 then u.groups else u.groups ||| bitMask 8 n.group }

/-- A raise of a notice by the rule that names it (R209). ATTN follows at the end of the step (`driveAttn`). -/
def raise (n : Notice) (s : State) : State := s.withNotices (s.notices.raise n)

/-- R210: ATTN is asserted while the global enable is on and an enabled group's flag is set; R208: it is
deasserted while the reset input is held. -/
def attnLevel (s : State) : Bool :=
  !s.clock.resetHeld && s.notices.global && decide (s.notices.groups &&& s.notices.groupEnable ≠ 0)

/-- ATTN follows at once each change of what it depends on (R210). -/
def driveAttn (s : State) : State := s.withNotices { s.notices with attn := attnLevel s }

end Sys2Proof.Machine
end

