-- ==== Sys2Proof/Machine/Operands.lean ====
section
/-! DEFINITION. What the operands of commands must satisfy: the whole-number arithmetic of the manual
(00_scope, Arithmetic), the checks of R42 on a received frame, and the clamps of the configuration. -/

namespace Sys2Proof.Machine

/-- A value clamped to a range (00_scope, Arithmetic). -/
def clampInt (lo hi v : Int) : Int := max lo (min hi v)

/-- A number clamped to a range. -/
def clampNat (lo hi v : Nat) : Nat := max lo (min hi v)

/-- The quotient rounded toward minus infinity, for a positive divisor (00_scope, Arithmetic). -/
def floorDiv (n d : Int) : Int := n / d

/-- The quotient rounded toward plus infinity, for a positive divisor (00_scope, Arithmetic). -/
def ceilDiv (n d : Int) : Int := -((-n) / d)

/-- The magnitude of a value. -/
def magnitude (v : Int) : Int := (v.natAbs : Int)

/-- R42: a reference lies in the ranges of the line. -/
def refOnLine : Ref → Bool
  | .slot row column => decide (row ≤ 31) && decide (column ≤ 30)
  | .cradle bay index => decide (bay ≤ 1) && decide (index ≤ 5)

/-- Whether a reference is a cradle. -/
def refIsCradle : Ref → Bool
  | .slot _ _ => false
  | .cradle _ _ => true

/-- R42: the sender of a frame is 1 to 30. -/
def senderOk (sender : Nat) : Bool := decide (1 ≤ sender) && decide (sender ≤ 30)

/-- R42: the fields of a STATUS lie in the ranges of the layout table (section 3.1). -/
def statusOk (r : StatusReport) : Bool :=
  decide (r.report.bridgePos ≤ 400000) && decide (-8000 ≤ r.report.bridgeSpeed) &&
  decide (r.report.bridgeSpeed ≤ 8000) && decide (r.report.plusExtent ≤ 20000) &&
  decide (r.report.minusExtent ≤ 20000) && decide (r.report.trolleyPos ≤ 60000) &&
  decide (r.report.hookHeight ≤ 40000)

/-- R42: a CLAIM entry names no cradle with direction OUT. -/
def claimEntryOk (e : ClaimEntry) : Bool :=
  refOnLine e.ref &&
  match e.dir with
  | .inward => true
  | .outward _ => !refIsCradle e.ref

/-- R42: no reference is named twice. -/
def refsDistinct : List Ref → Bool
  | [] => true
  | r :: rs => !rs.contains r && refsDistinct rs

/-- R42 for a CLAIM: 1 or 2 good entries, none named twice, a priority of at most 7. -/
def claimOk (priority : Nat) (entries : List ClaimEntry) : Bool :=
  decide (priority ≤ 7) && decide (1 ≤ entries.length) && decide (entries.length ≤ 2) &&
  entries.all claimEntryOk && refsDistinct (entries.map ClaimEntry.ref)

/-- R42 for a RELEASE: 1 to 4 good references, none named twice. -/
def releaseOk (refs : List Ref) : Bool :=
  decide (1 ≤ refs.length) && decide (refs.length ≤ 4) && refs.all refOnLine && refsDistinct refs

/-- R42 for a PICKED: it names a slot. -/
def pickedOk (ref : Ref) : Bool := refOnLine ref && !refIsCradle ref

/-- A bay of the part: 0 or 1 (00_scope, References; R178, R182, R184). -/
def bayOk (bay : Nat) : Bool := decide (bay ≤ 1)

/-- R42, R178: a cradle count of 1 to 6. R42 names no bay, so a TRUCK frame of a bay above 1 is handed on (DEDUCED,
assumption 10). -/
def cradleCountOk (offsets : List Nat) : Bool := decide (1 ≤ offsets.length) && decide (offsets.length ≤ 6)

/-- R178: a bay of the part and a cradle count of 1 to 6. -/
def arriveOk (bay : Nat) (offsets : List Nat) : Bool := bayOk bay && cradleCountOk offsets

/-- R179: the trailer's numbers clamped to the ranges of section 9.2, and Kmin to Kmax. -/
def clampTrailer (t : Trailer) : Trailer :=
  let kmax := clampNat 0 20000 t.Kmax
  { L := clampNat 3000 14000 t.L
    K0 := clampNat 0 10000 t.K0
    A0 := clampNat 0 10000 t.A0
    Kmax := kmax
    Amax := clampNat 0 20000 t.Amax
    Gmax := clampNat 0 20000 t.Gmax
    Kmin := min kmax (clampNat 0 20000 t.Kmin) }

/-- R179: a cradle offset clamped to 0 to 16,000. -/
def clampOffset (x : Nat) : Nat := clampNat 0 16000 x

/-- R103: the geometry values clamped to the ranges of section 6.1. -/
def clampGeometry (g : Geometry) : Geometry :=
  { rows := clampNat 1 32 g.rows
    lower := clampNat 2 16 g.lower
    rowBase := clampNat 0 400000 g.rowBase
    rowPitch := clampNat 1000 40000 g.rowPitch
    posBase := clampNat 0 60000 g.posBase
    posPitch := clampNat 1000 20000 g.posPitch }

/-- R202: the beat is set to the nearest of its three values. -/
def clampBeat (v : Nat) : Nat := if v < 76 then 50 else if v ≤ 150 then 100 else 200

/-- Orientation codes of a request: 0 is +, 1 is − (section 10.2). -/
def orientationOf : Nat → Option Orientation
  | 0 => some .plus
  | 1 => some .minus
  | _ => none

end Sys2Proof.Machine
end

