-- ==== Sys2Proof/Machine/Ops.lean ====
section
/-! DEFINITION. The shared operations: access to the slot and cradle records and their reservations
(R102, R104, section 7.1), the transmit mailboxes (section 3.5), and the reply of a request (R197, R201). -/

namespace Sys2Proof.Machine

/-! ### Store geometry (R102) -/

/-- The columns of a row: N lower slots and N − 1 upper slots (R102). -/
def columns (g : Geometry) : Nat := 2 * g.lower - 1

/-- The place of a slot in the map's list, if the reference names a slot of the geometry (R102). -/
def slotIndex (g : Geometry) (row column : Nat) : Option Nat :=
  if row < g.rows ∧ column < columns g then some (row * columns g + column) else none

/-- The bridge position of a row (R102). -/
def rowPos (g : Geometry) (row : Nat) : Int := g.rowBase + row * g.rowPitch

/-- The trolley position of a column (R102). -/
def columnPos (g : Geometry) (column : Nat) : Int := g.posBase + floorDiv (column * g.posPitch) 2

/-- An odd column is an upper slot (R102). -/
def isUpper (column : Nat) : Bool := decide (column % 2 = 1)

/-- The columns of the upper slots that rest on a lower column and exist (R102). -/
def uppersOn (g : Geometry) (column : Nat) : List Nat :=
  if isUpper column then []
  else (if column = 0 then [] else [column - 1]) ++ (if column + 1 < columns g then [column + 1] else [])

/-! ### Slot records -/

/-- The record of a slot, if the reference names one (R102). -/
def slotAt (s : State) (row column : Nat) : Option SlotRecord :=
  match s.cfg.geometry with
  | none => none
  | some g =>
    match slotIndex g row column with
    | none => none
    | some i => s.map[i]?

/-- The content of a slot; a slot that does not exist counts as EMPTY (R102). -/
def contentAt (s : State) (row column : Nat) : SlotContent :=
  match slotAt s row column with
  | none => .empty
  | some r => r.content

/-- The state with another record for one slot; a reference that names no slot changes nothing. -/
def setSlot (row column : Nat) (r : SlotRecord) (s : State) : State :=
  match s.cfg.geometry with
  | none => s
  | some g =>
    match slotIndex g row column with
    | none => s
    | some i => s.withMap (s.map.set i r)

/-- The reservation a slot holds (R104). -/
def slotResv : SlotContent → Option Reservation
  | .reservedIn r => some r
  | .reservedOut _ r => some r
  | _ => none

/-- The coil a slot holds (R104). -/
def slotCoil : SlotContent → Option CoilInfo
  | .occupied c => some c
  | .reservedOut c _ => some c
  | _ => none

/-- Whether a slot is OCCUPIED. -/
def isOccupied : SlotContent → Bool
  | .occupied _ => true
  | _ => false

/-- Whether a slot is OCCUPIED or RESERVED_OUT. -/
def holdsCoil (c : SlotContent) : Bool := (slotCoil c).isSome

/-- Whether a slot is EMPTY or RESERVED_IN. -/
def holdsNothing : SlotContent → Bool
  | .empty => true
  | .reservedIn _ => true
  | _ => false

/-- Whether a slot holds a coil as OCCUPIED or RESERVED_OUT (R111). -/
def holdsCoilId (coil : CoilId) (c : SlotContent) : Bool :=
  match slotCoil c with
  | some i => i.coil == coil
  | none => false

/-- R107's question, of a lower slot: an upper slot resting on it is OCCUPIED or RESERVED_OUT. -/
def coveredByCoil (s : State) (row column : Nat) : Bool :=
  match s.cfg.geometry with
  | none => false
  | some g => (uppersOn g column).any (fun k => holdsCoil (contentAt s row k))

/-- R107's question, of an upper slot: a lower slot beneath it is EMPTY or RESERVED_IN. -/
def overNothing (s : State) (row column : Nat) : Bool :=
  isUpper column && (holdsNothing (contentAt s row (column - 1)) || holdsNothing (contentAt s row (column + 1)))

/-- R109: both lower slots beneath an upper slot are OCCUPIED. -/
def bothLowersOccupied (s : State) (row column : Nat) : Bool :=
  isOccupied (contentAt s row (column - 1)) && isOccupied (contentAt s row (column + 1))

/-- The reference of a place in the map's list. -/
def refOfIndex (s : State) (i : Nat) : Nat × Nat :=
  match s.cfg.geometry with
  | none => (0, 0)
  | some g => (i / columns g, i % columns g)

/-- The slots that hold a coil as OCCUPIED or RESERVED_OUT, in row order (R111). -/
def slotsHolding (coil : CoilId) (s : State) : List (Nat × Nat) :=
  s.map.zipIdx.filterMap fun (r, i) => if holdsCoilId coil r.content then some (refOfIndex s i) else none

/-! ### Truck records -/

/-- The record of a bay; ABSENT is none. -/
def bayRecord (s : State) : Nat → Option Truck
  | 0 => s.trucks.bay0
  | 1 => s.trucks.bay1
  | _ => none

/-- The configuration item of a bay; unset is none (R175). -/
def bayItem (c : Cfg) : Nat → Option BayItem
  | 0 => c.bay0
  | 1 => c.bay1
  | _ => none

/-- The state with another record for a bay. -/
def setBay (bay : Nat) (t : Option Truck) (s : State) : State :=
  match bay with
  | 0 => s.withTrucks { s.trucks with bay0 := t }
  | 1 => s.withTrucks { s.trucks with bay1 := t }
  | _ => s

/-- One cradle, if the record of its bay has it. -/
def cradleAt (s : State) (bay index : Nat) : Option Cradle :=
  match bayRecord s bay with
  | none => none
  | some t => t.cradles[index]?

/-- A truck record with another content for one cradle. -/
def Truck.setCradle (t : Truck) (index : Nat) (c : CradleContent) : Truck :=
  { t with cradles := t.cradles.modify index fun k => { k with content := c } }

/-- The state with another content for one cradle. -/
def setCradle (bay index : Nat) (c : CradleContent) (s : State) : State :=
  match bayRecord s bay with
  | none => s
  | some t => setBay bay (some (t.setCradle index c)) s

/-- The reservation a cradle holds (R177). -/
def cradleResv : CradleContent → Option Reservation
  | .reserved r => some r
  | _ => none

/-- Whether a cradle is OCCUPIED with a coil. -/
def cradleHolds (coil : CoilId) : CradleContent → Bool
  | .occupied c _ _ => c == coil
  | _ => false

/-- Whether a truck record has an OCCUPIED cradle with a coil. -/
def truckHolds (coil : CoilId) : Option Truck → Bool
  | none => false
  | some t => t.cradles.any fun k => cradleHolds coil k.content

/-- Whether an OCCUPIED cradle of either truck record holds a coil (R111). -/
def inCradles (coil : CoilId) (s : State) : Bool := truckHolds coil s.trucks.bay0 || truckHolds coil s.trucks.bay1

/-- Whether the hook record holds a coil (R150). -/
def onHook (coil : CoilId) (s : State) : Bool :=
  match s.tracker.hook with
  | none => false
  | some h => h.coil == some coil

/-! ### Reservations (section 7.1) -/

/-- The reservation a reference holds, if any. -/
def resvAt (s : State) : Ref → Option Reservation
  | .slot row column => slotResv (contentAt s row column)
  | .cradle bay index =>
    match cradleAt s bay index with
    | none => none
    | some k => cradleResv k.content

/-- The own reservation a reference holds, if any. -/
def ownResvAt (s : State) (ref : Ref) : Option Reservation :=
  match resvAt s ref with
  | none => none
  | some r => if r.holder = .own then some r else none

/-- A slot content with its reservation changed and its state kept. -/
def SlotContent.mapResv (f : Reservation → Reservation) : SlotContent → SlotContent
  | .reservedIn r => .reservedIn (f r)
  | .reservedOut c r => .reservedOut c (f r)
  | c => c

/-- A cradle content with its reservation changed and its state kept. -/
def CradleContent.mapResv (f : Reservation → Reservation) : CradleContent → CradleContent
  | .reserved r => .reserved (f r)
  | c => c

/-- A slot content with its reservation ended: RESERVED_IN to EMPTY, RESERVED_OUT to OCCUPIED (R136). -/
def SlotContent.release : SlotContent → SlotContent
  | .reservedIn _ => .empty
  | .reservedOut c _ => .occupied c
  | c => c

/-- A cradle content with its reservation ended: RESERVED to FREE (R136). -/
def CradleContent.release : CradleContent → CradleContent
  | .reserved _ => .free
  | c => c

/-- All cradles of both records changed by one function. -/
def TruckUnit.mapCradles (f : CradleContent → CradleContent) (u : TruckUnit) : TruckUnit :=
  { u with
    bay0 := u.bay0.map fun t => { t with cradles := t.cradles.map fun k => { k with content := f k.content } }
    bay1 := u.bay1.map fun t => { t with cradles := t.cradles.map fun k => { k with content := f k.content } } }

/-- Every reservation of the records changed by one function, the states kept. -/
def mapReservations (f : Reservation → Reservation) (s : State) : State :=
  (s.withMap (s.map.map fun r => { r with content := r.content.mapResv f })).withTrucks
    (s.trucks.mapCradles (CradleContent.mapResv f))

/-- A slot record released where its reservation is one of those named, with the source of the change (R105). -/
def SlotRecord.releaseIf (p : Reservation → Bool) (source : ChangeSource) (r : SlotRecord) : SlotRecord :=
  match slotResv r.content with
  | none => r
  | some v => if p v then { content := r.content.release, source := source } else r

/-- A cradle released where its reservation is one of those named. -/
def CradleContent.releaseIf (p : Reservation → Bool) (c : CradleContent) : CradleContent :=
  match cradleResv c with
  | none => c
  | some v => if p v then c.release else c

/-- Every reservation that satisfies a test is ended, in the slots and in the cradles (R128, R143, R144, R195). -/
def releaseWhere (p : Reservation → Bool) (source : ChangeSource) (s : State) : State :=
  (s.withMap (s.map.map (SlotRecord.releaseIf p source))).withTrucks
    (s.trucks.mapCradles (CradleContent.releaseIf p))

/-- R144: every reservation held by a peer is released, with own as source of last change. -/
def releasePeer (id : Nat) (s : State) : State := releaseWhere (fun r => r.holder == .peer id) .own s

/-- The reservation of one reference is ended where it satisfies a test (R136, R143). -/
def releaseRef (p : Reservation → Bool) (source : ChangeSource) (ref : Ref) (s : State) : State :=
  match ref with
  | .slot row column =>
    match slotAt s row column with
    | none => s
    | some r => setSlot row column (r.releaseIf p source) s
  | .cradle bay index =>
    match cradleAt s bay index with
    | none => s
    | some k => setCradle bay index (k.content.releaseIf p) s

/-- The reservation of one reference is changed, its state kept. -/
def updateResv (f : Reservation → Reservation) (ref : Ref) (s : State) : State :=
  match ref with
  | .slot row column =>
    match slotAt s row column with
    | none => s
    | some r => setSlot row column { r with content := r.content.mapResv f } s
  | .cradle bay index =>
    match cradleAt s bay index with
    | none => s
    | some k => setCradle bay index (k.content.mapResv f) s

/-- A reference that is free for a reservation takes it: OUT makes an OCCUPIED slot RESERVED_OUT, IN makes an
EMPTY slot RESERVED_IN and a FREE cradle RESERVED (R133, R139). Anything else is not changed. -/
def reserveRef (dir : ClaimDir) (r : Reservation) (source : ChangeSource) (ref : Ref) (s : State) : State :=
  match ref with
  | .slot row column =>
    match contentAt s row column, dir with
    | .occupied c, .outward _ => setSlot row column { content := .reservedOut c r, source := source } s
    | .empty, .inward => setSlot row column { content := .reservedIn r, source := source } s
    | _, _ => s
  | .cradle bay index =>
    match cradleAt s bay index, dir with
    | some k, .inward =>
      match k.content with
      | .free => setCradle bay index (.reserved r) s
      | _ => s
    | _, _ => s

/-- The own reservations of a truck record, with their round numbers, by cradle number. -/
def ownCradles (bay : Nat) : Option Truck → List (ReleaseFrame)
  | none => []
  | some t => t.cradles.zipIdx.filterMap fun (k, i) =>
      match cradleResv k.content with
      | some r => if r.holder = .own then some { round := r.round, refs := [.cradle bay i] } else none
      | none => none

/-- The own reservations in the records, each with its round number: slots in row order, then cradles. -/
def ownReservations (s : State) : List ReleaseFrame :=
  (s.map.zipIdx.filterMap fun (r, i) =>
      match slotResv r.content with
      | some v =>
        if v.holder = .own then
          some { round := v.round, refs := [.slot (refOfIndex s i).1 (refOfIndex s i).2] }
        else none
      | none => none)
    ++ ownCradles 0 s.trucks.bay0 ++ ownCradles 1 s.trucks.bay1

/-- One more reference put into a list of RELEASE requests, one request for each round number (R145). -/
def addRequest (acc : List ReleaseFrame) (f : ReleaseFrame) : List ReleaseFrame :=
  match acc with
  | [] => [f]
  | a :: rest =>
    if a.round = f.round then { a with refs := a.refs ++ f.refs.filter fun x => !a.refs.contains x } :: rest
    else a :: addRequest rest f

/-! ### The transmit mailboxes (section 3.5) -/

/-- The state with other mailboxes. -/
def setBoxes (b : Mailboxes) (s : State) : State := s.withLink { s.link with boxes := b }

/-- The references of two RELEASE frames together, each counted once (R46). -/
def mergedRefs (a b : List Ref) : List Ref := a ++ b.filter fun x => !a.contains x

/-- R46: a RELEASE request is taken by an empty mailbox, or merged into a waiting frame of the same round that
is not being sent where both name no more than four references; else it is not taken. -/
def putRelease (f : ReleaseFrame) (s : State) : Option State :=
  match s.link.boxes.release with
  | none => some (setBoxes { s.link.boxes with release := some f } s)
  | some w =>
    if s.link.sending ≠ some .release ∧ w.round = f.round ∧ (mergedRefs w.refs f.refs).length ≤ 4 then
      some (setBoxes { s.link.boxes with release := some { w with refs := mergedRefs w.refs f.refs } } s)
    else none

/-- R145: a RELEASE is asked for; a request the mailbox does not take is held, oldest first. -/
def askRelease (f : ReleaseFrame) (s : State) : State :=
  if f.refs.isEmpty then s
  else
    match putRelease f s with
    | some s' => s'
    | none => s.withClaims { s.claims with heldRequests := s.claims.heldRequests ++ [f] }

/-- Several RELEASE requests, in their order (DEDUCED, assumption 24). -/
def askReleases (fs : List ReleaseFrame) (s : State) : State := fs.foldl (fun s f => askRelease f s) s

/-- R48: an OBJECT already waiting is not added again; an OBJECT that finds both mailboxes full is dropped. -/
def askObject (f : ObjectFrame) (s : State) : State :=
  if s.link.boxes.objects.contains f then s
  else if s.link.boxes.objects.length < 2 then
    setBoxes { s.link.boxes with objects := s.link.boxes.objects ++ [f] } s
  else raise .objectionDropped s

/-- R45: the CLAIM is withdrawn: at once where it waits, at the end of the attempt where it is being sent. -/
def withdrawClaim (f : ReleaseFrame) (s : State) : State :=
  if s.link.sending = some .claim then s.withLink { s.link with withdrawal := some f }
  else setBoxes { s.link.boxes with claim := none } s

/-- R49: why a TRUCK request is refused by the link controller, if it is. -/
def truckRefusal (s : State) : Option Status :=
  if s.link.state = .config ∨ s.link.leaving then some .notActive
  else if s.link.boxes.truck.isSome then some .linkBusy
  else none

/-- The end of an attempt that did not end cleanly: a withdrawn CLAIM leaves its mailbox unsent (R45)
(DEDUCED, assumption 22). -/
def endAttempt (s : State) : State :=
  if s.link.sending = some .claim ∧ s.link.withdrawal.isSome then
    s.withLink { s.link with
      sending := none, withdrawal := none, boxes := { s.link.boxes with claim := none } }
  else s.withLink { s.link with sending := none }

/-! ### Task state -/

/-- Whether the task is running: neither IDLE nor terminal (section 8.3). -/
def TaskState.running : TaskState → Bool
  | .done | .cancelled | .claimLost | .aborted => false
  | _ => true

/-- Whether a task is running. -/
def taskRunning (s : State) : Bool :=
  match s.tracker.task with
  | none => false
  | some t => t.state.running

/-- The task state; none is IDLE. -/
def taskState (s : State) : Option TaskState := s.tracker.task.map Task.state

/-- The source of a task as a reference. -/
def Task.source (t : Task) : Ref := .slot t.sourceRow t.sourceColumn

/-- The task record changed by a function; IDLE stays IDLE. -/
def updateTask (f : Task → Task) (s : State) : State := s.withTracker { s.tracker with task := s.tracker.task.map f }

/-- The state with another hook record. -/
def setHook (h : Option Hook) (s : State) : State := s.withTracker { s.tracker with hook := h }

/-! ### Replies (R201) -/

/-- A reply with status OK. -/
def Reply.okWith (payload : List Byte) : Reply := { status := .ok, reason := none, payload := payload }

/-- A reply with a status other than OK or REFUSED. -/
def Reply.err (status : Status) : Reply := { status := status, reason := none, payload := [] }

/-- A reply REFUSED with a reason. -/
def Reply.refusedWith (reason : RefusalReason) : Reply := { status := .refused, reason := some reason, payload := [] }

/-- R197: the reply is held, the request buffer is free and READY goes high. -/
def respond (r : Reply) (s : State) : State :=
  s.withPort { s.port with ready := true, request := none, reply := some r }

/-- A request that only reads: its reply is a picture of the records (R214). No transaction is taken while the
reset input is held (R208). -/
def readRequest (f : State → Reply) (s : State) : State := if s.clock.resetHeld then s else respond (f s) s

/-! ### Looking up a sender (R71) -/

/-- The entry of a station, if it has one. -/
def entryOf (s : State) (id : Nat) : Option Entry := s.table.entries.find? fun e => e.id == id

/-- R52: the sender's entry is marked geometry-foreign. -/
def senderForeign (s : State) (id : Nat) : Bool :=
  match entryOf s id with
  | none => false
  | some e => e.foreign

/-- R71: a sender may hold a reservation while its entry is FRESH or STALE. -/
def mayReserve (s : State) (id : Nat) : Bool :=
  match entryOf s id with
  | none => false
  | some e => decide (e.state ≠ .lost)

/-- The station's own identifier (item 1); 0 while unset, which no frame or claim meets (R206). -/
def ownId (s : State) : Nat := s.cfg.stationId.getD 0

end Sys2Proof.Machine
end

