-- ==== Sys2Proof/Machine/Layout.lean ====
section
/-! DEFINITION. The byte layouts of replies and of payload fields (sections 10.2 and 10.6). -/

namespace Sys2Proof.Machine

/-! ### Fields -/

/-- A field of n bytes, most significant byte first (section 10.1). -/
def be : Nat → Nat → List Byte
  | 0, _ => []
  | n + 1, v => be n (v / 256) ++ [BitVec.ofNat 8 v]

/-- A signed field of n bytes, in two's complement (section 10.1). -/
def beInt (n : Nat) (v : Int) : List Byte := be n (v % (256 ^ n : Nat)).toNat

/-- The number a field of bytes spells, most significant byte first. -/
def beValue (bs : List Byte) : Nat := bs.foldl (fun v b => v * 256 + b.toNat) 0

/-- A flag as one byte. -/
def flagByte (b : Bool) : List Byte := be 1 (if b then 1 else 0)

/-- A field that may be absent: a presence byte, and zeros where it is absent (section 10.2). -/
def optField (n : Nat) : Option Nat → List Byte
  | none => be 1 0 ++ be n 0
  | some v => be 1 1 ++ be n v

/-- A signed field that may be absent. -/
def optInt (n : Nat) : Option Int → List Byte
  | none => be 1 0 ++ be n 0
  | some v => be 1 1 ++ beInt n v

/-- A reference: a mark, then row and column or bay and cradle (section 10.2). -/
def layoutRef : Ref → List Byte
  | .slot row column => be 1 0 ++ be 1 row ++ be 1 column
  | .cradle bay index => be 1 1 ++ be 1 bay ++ be 1 index

/-- A reference that may be absent. -/
def optRef : Option Ref → List Byte
  | none => be 1 0 ++ be 3 0
  | some r => be 1 1 ++ layoutRef r

/-! ### Named values, by their place in the list where the manual first gives them (section 10.2) -/

/-- The code of a reply status (section 10.2). -/
def Status.code : Status → Nat
  | .ok => 0 | .badState => 1 | .busy => 2 | .badArg => 3 | .notActive => 4 | .hookLoaded => 5 | .notStable => 6
  | .moving => 7 | .linkBusy => 8 | .bayBusy => 9 | .cradleReserved => 10 | .notLost => 11 | .reserved => 12
  | .tier => 13 | .duplicate => 14 | .refused => 15

/-- The code of a refusal reason (section 10.2). -/
def RefusalReason.code : RefusalReason → Nat
  | .sourceMismatch => 1 | .sourceCovered => 2 | .sourceReserved => 3 | .sourceState => 4 | .targetState => 5
  | .targetReserved => 6 | .tierRule => 7 | .weightRule => 8 | .widthRule => 9 | .truckNotLoading => 10
  | .loadLimit => 11

/-- The code of a position state (section 1.4). -/
def posStateCode : PosState → Nat
  | .unreferenced => 0 | .valid => 1 | .suspect => 2

/-- The code of a load state (section 2.5). -/
def loadStateCode : LoadState → Nat
  | .unloaded => 0 | .loaded => 1

/-- The code of a link state (section 3.8). -/
def LinkState.code : LinkState → Nat
  | .config => 0 | .listen => 1 | .active => 2 | .muted => 3 | .halted => 4 | .idclash => 5

/-- The code of a permission level. -/
def Level.code : Level → Nat
  | .stop => 0 | .creep => 1 | .slow => 2 | .full => 3

/-- The code of an entry state (section 4.1). -/
def EntryState.code : EntryState → Nat
  | .fresh => 0 | .stale => 1 | .lost => 2

/-- The code of a task summary (section 4.1). -/
def summaryCode : TaskSummary → Nat
  | .idle => 0 | .claiming => 1 | .carrying => 2 | .other => 3

/-- The code of a slot state (section 6.2). -/
def SlotContent.code : SlotContent → Nat
  | .unknown => 0 | .empty => 1 | .reservedIn _ => 2 | .occupied _ => 3 | .reservedOut _ _ => 4 | .disputed => 5
  | .closed => 6

/-- The code of a cradle state (section 9.2). -/
def CradleContent.code : CradleContent → Nat
  | .free => 0 | .reserved _ => 1 | .occupied _ _ _ => 2

/-- The code of a holder or placer: 0 for the station itself. -/
def Holder.code : Holder → Nat
  | .own => 0 | .peer id => id

/-- The code of a source of last change: 0 own, 1 to 30 peer, 31 crane controller. -/
def ChangeSource.code : ChangeSource → Nat
  | .own => 0 | .peer id => id | .crane => 31

/-- The code of a claim phase (section 6.2). -/
def Phase.code : Phase → Nat
  | .pending => 0 | .held => 1

/-- The code of an orientation (section 9.1). -/
def orientationCode : Orientation → Nat
  | .plus => 0 | .minus => 1

/-- The code of a task kind (section 8.1). -/
def TaskKind.code : TaskKind → Nat
  | .move => 0 | .load => 1

/-- The code of a task state; IDLE is 0 (section 8.3). -/
def TaskState.code : TaskState → Nat
  | .claiming => 1 | .toSource => 2 | .liftPending => 3 | .verifyHold => 4 | .toTarget => 5 | .targetLost => 6
  | .retargeting => 7 | .placePending => 8 | .returning => 9 | .done => 10 | .cancelled => 11 | .claimLost => 12
  | .aborted => 13

/-- The code of a task's reason (section 8.13). -/
def Reason.code : Reason → Nat
  | .request => 0 | .returned => 1 | .outranked => 2 | .objected => 3 | .removed => 4 | .notActive => 5
  | .targetTaken => 6 | .earlyLift => 7 | .wrongLift => 8 | .wrongSetdown => 9 | .sourceLost => 10

/-- The code of a waiting booking (section 8.1). -/
def Booking.code : Booking → Nat
  | .takeOut => 0 | .putIn => 1 | .returnIn => 2

/-- The code of an origin (section 8.2). -/
def Origin.code : Origin → Nat
  | .task => 0 | .unknown => 1

/-- The code of a zone kind (section 5.9). -/
def ZoneKind.code : ZoneKind → Nat
  | .keepOut => 0 | .loadedKeepOut => 1 | .clearance => 2 | .slowArea => 3

/-- The code of a zone condition and its number (R87); ALWAYS has none and shows 0 (assumption 15). -/
def ZoneCond.code : ZoneCond → Nat × Nat
  | .always => (0, 0) | .switch n => (1, n) | .truck b => (2, b)

/-- The code of a bookkeeping mode (item 38). -/
def BookMode.code : BookMode → Nat
  | .auto => 0 | .manual => 1

/-! ### Records -/

/-- A reservation with its presence byte: holder, round number, priority, phase, reserved-since (section 10.2). -/
def layoutResv : Option Reservation → List Byte
  | none => be 1 0 ++ be 8 0
  | some r => be 1 1 ++ be 1 r.holder.code ++ be 1 r.round ++ be 1 r.priority ++ be 1 r.phase.code ++ be 4 r.since.toNat

/-- A coil identifier with its presence byte. -/
def optCoil (c : Option CoilId) : List Byte := optField 4 (c.map BitVec.toNat)

/-- The reply of MAP_READ (R114). -/
def layoutSlot (r : SlotRecord) : List Byte :=
  let c := slotCoil r.content
  be 1 r.content.code ++ optCoil (c.map CoilInfo.coil) ++ optField 2 (c.bind CoilInfo.weight)
    ++ optField 1 (c.bind CoilInfo.width) ++ layoutResv (slotResv r.content) ++ be 1 r.source.code

/-- The task record fields in the order of section 8.1. Every field but the state is optional, since IDLE holds the
state alone (R149), and has a presence byte (assumption 16). -/
def layoutTaskRecord (t : Option Task) : List Byte :=
  optField 2 (t.map Task.id) ++ optField 1 (t.map fun t => t.kind.code) ++ optRef (t.map Task.source)
    ++ optRef (t.bind Task.target) ++ optCoil (t.map Task.coil) ++ optField 2 (t.bind Task.weight)
    ++ optField 1 (t.bind Task.width) ++ optField 1 (t.map Task.priority)
    ++ be 1 ((t.map fun t => t.state.code).getD 0) ++ optField 2 (t.bind Task.measured)
    ++ optField 1 (t.bind fun t => t.reason.map Reason.code) ++ optField 1 (t.map Task.round)
    ++ optField 1 (t.bind fun t => t.waiting.map Booking.code)

/-- The hook record fields in the order of section 8.2. -/
def layoutHook (h : Option Hook) : List Byte :=
  optCoil (h.bind Hook.coil) ++ optField 2 (h.map Hook.weight) ++ optField 1 (h.bind Hook.width)
    ++ optField 1 (h.map fun h => h.origin.code)

/-- The reply of TASK_READ (R172). -/
def layoutTask (s : State) : List Byte := layoutTaskRecord s.tracker.task ++ layoutHook s.tracker.hook

/-- One cradle of the reply of TRUCK_READ. -/
def layoutCradle (k : Cradle) : List Byte :=
  be 2 k.offset ++ be 1 k.content.code ++ layoutResv (cradleResv k.content) ++
  match k.content with
  | .occupied coil weight placer => optCoil (some coil) ++ be 2 weight ++ be 1 placer.code
  | _ => optCoil none ++ be 2 0 ++ be 1 0

/-- The state code of a truck record (section 9.2). -/
def truckCode : Option Truck → Nat
  | none => 0
  | some t => if t.closed then 2 else 1

/-- The reply of TRUCK_READ (R193). -/
def layoutTruck (t : Option Truck) : List Byte :=
  be 1 (truckCode t) ++
  match t with
  | none => []
  | some t =>
    be 2 t.truckRef ++ be 1 t.announcer ++ be 1 (orientationCode t.orientation)
      ++ be 2 t.trailer.L ++ be 2 t.trailer.K0 ++ be 2 t.trailer.A0
      ++ be 2 t.trailer.Kmax ++ be 2 t.trailer.Amax ++ be 2 t.trailer.Gmax ++ be 2 t.trailer.Kmin
      ++ be 1 t.cradles.length ++ beInt 4 t.K ++ beInt 4 t.A ++ flagByte t.overLimit
      ++ (t.cradles.map layoutCradle).flatten

/-- One line of the reply of NEIGHBOUR_READ with argument 0. -/
def layoutEntryLine (e : Entry) : List Byte := be 1 e.id ++ be 1 e.state.code ++ flagByte e.foreign

/-- The reply of NEIGHBOUR_READ with argument 0 (R72). -/
def layoutTable (t : NeighbourTable) : List Byte :=
  be 1 t.entries.length ++ flagByte t.untracked ++ be 2 t.untrackedAge ++ (t.entries.map layoutEntryLine).flatten

/-- The number of bytes of an entry. -/
def entryBytes : Nat := 29

/-- The fields of section 4.1 in order; the age is a time, of four bytes, and the extents take two bytes each (DESIGN
CHOICE, assumption 16). -/
def layoutEntryFields (e : Entry) : List Byte :=
  be 1 e.id ++ be 1 e.state.code ++ be 4 e.age ++ be 4 e.report.bridgePos ++ beInt 2 e.report.bridgeSpeed
    ++ be 2 e.report.plusExtent ++ be 2 e.report.minusExtent ++ be 2 e.report.trolleyPos ++ be 2 e.report.hookHeight
    ++ be 1 (loadStateCode e.report.load) ++ be 1 (posStateCode e.report.posState)
    ++ be 1 (summaryCode e.report.summary) ++ optInt 2 e.report.stableNet ++ flagByte e.foreign
    ++ be 1 e.heldPlus.code ++ be 1 e.heldMinus.code

/-- The reply of NEIGHBOUR_READ with an identifier (R72); an absent entry is zeros. -/
def layoutEntry : Option Entry → List Byte
  | none => be 1 0 ++ be entryBytes 0
  | some e => be 1 1 ++ layoutEntryFields e

/-- The place MAP_FIND reports: 0 not present, 1 slot, 2 cradle, 3 hook, with the reference and the slot state. -/
def layoutPlace (place : Nat) (ref : Option Ref) (slotState : Nat) : List Byte :=
  be 1 place ++ (match ref with | none => be 3 0 | some r => layoutRef r) ++ be 1 slotState

/-- The condition bits of STATE_READ (section 10.6). -/
def conditionBits (w : WeighingUnit) : Nat :=
  (if w.overload.set then 1 else 0) + (if w.slack.set then 2 else 0) + (if w.a.fault then 4 else 0)
    + (if w.b.fault then 8 else 0)

/-- The four link bytes of STATE_READ. -/
def layoutLink (l : Link) : List Byte :=
  be 1 l.state.code ++ flagByte l.leaving ++ be 1 l.txErr ++ be 1 l.rxErr

/-- The axis bytes of STATE_READ for a marked axis; n is the width of its position. A remembered error outside 32 bits is
sent modulo 2^32 (DESIGN CHOICE, assumption 52). -/
def layoutAxis (n : Nat) (u : AxisUnit) : List Byte :=
  beInt n u.current ++ be 1 (posStateCode u.state) ++ beInt 2 u.speed ++ optInt 4 u.remembered

/-- The weighing bytes of STATE_READ. -/
def layoutWeigh (tare : Nat) (w : WeighingUnit) : List Byte :=
  be 2 w.a.weight ++ be 2 w.b.weight ++ be 2 w.gross ++ optInt 2 w.net ++ be 2 tare ++ optInt 2 w.stableNet
    ++ optInt 2 w.lastStable ++ be 1 (loadStateCode w.load) ++ be 1 (conditionBits w)

/-- The six levels of STATE_READ. -/
def layoutLevels (l : Levels) : List Byte :=
  be 1 l.bridgePlus.code ++ be 1 l.bridgeMinus.code ++ be 1 l.trolleyPlus.code ++ be 1 l.trolleyMinus.code
    ++ be 1 l.hoistUp.code ++ be 1 l.hoistDown.code

/-- The 54 bytes of STATE_READ (section 10.6). -/
def layoutState (s : State) : List Byte :=
  layoutLink s.link ++ layoutAxis 4 s.pos.bridge ++ layoutAxis 2 s.pos.trolley
    ++ beInt 2 s.pos.hoist.current ++ be 1 (posStateCode s.pos.hoist.state)
    ++ layoutWeigh s.cfg.tare s.weigh ++ layoutLevels s.perm.outputs

/-- The bytes of NOTICE_READ (R211). -/
def layoutNotices (n : NoticeUnit) : List Byte :=
  be 4 n.sources.toNat ++ be 1 n.groups.toNat ++ be 4 n.sourceEnable.toNat ++ be 1 n.groupEnable.toNat
    ++ flagByte n.global

/-- A zone entry as the ZONE_WRITE payload after its index (section 10.2). -/
def layoutZone (z : ZoneEntry) : List Byte :=
  flagByte z.valid ++ be 4 z.bridgeMin ++ be 4 z.bridgeMax ++ be 2 z.trolleyMin ++ be 2 z.trolleyMax
    ++ be 1 z.kind.code ++ be 2 z.clearance ++ be 1 z.cond.code.1 ++ be 1 z.cond.code.2

/-- A reply as the bytes a reply read shifts out: status, reason, length and payload (R199). -/
def Reply.bytes (r : Reply) : List Byte :=
  be 1 r.status.code ++ be 1 ((r.reason.map RefusalReason.code).getD 0) ++ be 2 r.payload.length ++ r.payload

/-- The no-reply mark (R199). -/
def noReply : List Byte := be 1 255 ++ be 1 0 ++ be 2 0

end Sys2Proof.Machine
end

