-- ==== Sys2Proof/Machine/Places.lean ====
section
/-! DEFINITION. Places on the floor and loads on a trailer: the hook point, the windows of slots and
cradles (R95, R151, R176), the lever rule (R186) and the planned-placement check (R190). -/

namespace Sys2Proof.Machine

/-- R86: the hook point is (bridge position, trolley position) of the current samples. -/
def hookPoint (s : State) : Int × Int := (s.pos.bridge.current, s.pos.trolley.current)

/-- R95: a point lies within the slot window of a slot of the geometry. -/
def inSlotWindow (c : Cfg) (point : Int × Int) (row column : Nat) : Bool :=
  match c.geometry with
  | none => false
  | some g =>
    (slotIndex g row column).isSome &&
    decide (magnitude (point.1 - rowPos g row) ≤ c.slotWindow) &&
    decide (magnitude (point.2 - columnPos g column) ≤ c.slotWindow)

/-- R176: the bridge position of a cradle, by the record's orientation. -/
def cradleBridge (b : BayItem) (t : Truck) (k : Cradle) : Int :=
  match t.orientation with
  | .plus => b.kingpin + k.offset
  | .minus => b.kingpin - k.offset

/-- R176: a point lies within the cradle window of a cradle of a bay. -/
def inCradleWindow (s : State) (point : Int × Int) (bay index : Nat) : Bool :=
  match bayItem s.cfg bay, bayRecord s bay with
  | some b, some t =>
    match t.cradles[index]? with
    | none => false
    | some k =>
      decide (magnitude (point.1 - cradleBridge b t k) ≤ s.cfg.cradleWindow) &&
      decide (magnitude (point.2 - b.line) ≤ s.cfg.cradleWindow)
  | _, _ => false

/-- R151: the hook point lies within the window of a slot or a cradle. -/
def hookOver (s : State) : Ref → Bool
  | .slot row column => inSlotWindow s.cfg (hookPoint s) row column
  | .cradle bay index => inCradleWindow s (hookPoint s) bay index

/-- R151: the hook point lies within the target window; a task with no target has none. -/
def hookOverTarget (s : State) (t : Task) : Bool :=
  match t.target with
  | none => false
  | some ref => hookOver s ref

/-- R186: the rear share of a coil of weight W at offset x, a half rounding up. -/
def rearShare (L : Nat) (W : Int) (x : Nat) : Int := floorDiv (W * x + floorDiv L 2) L

/-- R186: the front share is the remainder. -/
def frontShare (L : Nat) (W : Int) (x : Nat) : Int := W - rearShare L W x

/-- R190: the planned-placement check of a weight at a cradle. -/
def plannedPasses (t : Truck) (k : Cradle) (W : Int) : Bool :=
  let K := t.K + frontShare t.trailer.L W k.offset
  let A := t.A + rearShare t.trailer.L W k.offset
  (match k.content with
    | .occupied _ _ _ => false
    | _ => true) &&
  decide (K ≤ t.trailer.Kmax) && decide (A ≤ t.trailer.Amax) && decide (K + A ≤ t.trailer.Gmax) &&
  decide (t.trailer.Kmin ≤ K)

/-- R190 asked of a cradle reference; a cradle that does not exist fails. -/
def plannedPassesAt (s : State) (bay index : Nat) (W : Int) : Bool :=
  match bayRecord s bay, cradleAt s bay index with
  | some t, some k => plannedPasses t k W
  | _, _ => false

/-- R110, weight part: each lower coil beneath an upper slot has a recorded weight of at least W. -/
def lowerBears (c : SlotContent) (W : Nat) : Bool :=
  match slotCoil c with
  | none => false
  | some i =>
    match i.weight with
    | none => false
    | some w => decide (W ≤ w)

/-- R110, the weight part for an upper slot; an absent weight fails (R152). -/
def weightRulePasses (s : State) (row column : Nat) (W : Option Nat) : Bool :=
  match W with
  | none => false
  | some W => lowerBears (contentAt s row (column - 1)) W && lowerBears (contentAt s row (column + 1)) W

/-- R110, width part: each lower coil has a recorded width class that differs by no more than 1. -/
def lowerFits (c : SlotContent) (w : Nat) : Bool :=
  match slotCoil c with
  | none => false
  | some i =>
    match i.width with
    | none => false
    | some v => decide (v ≤ w + 1) && decide (w ≤ v + 1)

/-- R110, the width part for an upper slot; an absent width class fails. -/
def widthRulePasses (s : State) (row column : Nat) (w : Option Nat) : Bool :=
  match w with
  | none => false
  | some w => lowerFits (contentAt s row (column - 1)) w && lowerFits (contentAt s row (column + 1)) w

end Sys2Proof.Machine
end

