-- ==== Sys2Proof/Machine/Permissions.lean ====
section
/-! DEFINITION. The permission unit: stopping distance and held levels (R77, R78), the contributors and
their offers (R54, R68, R79 to R98), the lowest offer (R74) and the output lines (R75). -/

namespace Sys2Proof.Machine

/-! ### Levels -/

/-- The place of a level, STOP lowest. -/
def Level.rank : Level → Nat
  | .stop => 0 | .creep => 1 | .slow => 2 | .full => 3

/-- The lower of two levels. -/
def Level.lower (a b : Level) : Level := if a.rank ≤ b.rank then a else b

/-- R74: the lowest of some offers; with no offer the output is FULL. -/
def lowest (offers : List Level) : Level := offers.foldl Level.lower .full

/-- The level of one axis-direction. -/
def Levels.get (l : Levels) : Dir → Level
  | .bridgePlus => l.bridgePlus
  | .bridgeMinus => l.bridgeMinus
  | .trolleyPlus => l.trolleyPlus
  | .trolleyMinus => l.trolleyMinus
  | .hoistUp => l.hoistUp
  | .hoistDown => l.hoistDown

/-- The six axis-directions in the order of their pairs (R75). -/
def allDirs : List Dir := [.bridgePlus, .bridgeMinus, .trolleyPlus, .trolleyMinus, .hoistUp, .hoistDown]

/-- Whether a direction is of the bridge. -/
def Dir.isBridge : Dir → Bool
  | .bridgePlus | .bridgeMinus => true
  | _ => false

/-- Whether a direction is a travel direction, of the bridge or the trolley. -/
def Dir.isTravel : Dir → Bool
  | .hoistUp | .hoistDown => false
  | _ => true

/-! ### Stopping distance and held levels -/

/-- R77: the stopping distance from a speed v, never negative, with deceleration a. -/
def stoppingDistance (c : Cfg) (a : Nat) (v : Int) : Int :=
  ceilDiv (v * v) (2 * a) + ceilDiv (v * c.tReact) 1000

/-- R78: the plain level of a gap and a required distance. -/
def plainLevel (c : Cfg) (gap required : Int) : Level :=
  if gap ≤ required then .stop else if gap ≤ required + c.slowBand then .slow else .full

/-- R78: the held level after an evaluation. It falls to the plain level at once, and rises to the highest
level whose rising threshold the gap exceeds. -/
def heldStep (c : Cfg) (held : Level) (gap required : Int) : Level :=
  let plain := plainLevel c gap required
  if plain.rank ≤ held.rank then plain
  else if required + c.slowBand + c.hysteresis < gap then .full
  else if held = .stop ∧ required + c.hysteresis < gap then .slow
  else held

/-! ### Neighbour entries (R79 to R82) -/

/-- R79: the entry is on the plus side. -/
def onPlusSide (s : State) (e : Entry) : Bool := decide (s.pos.bridge.current < (e.report.bridgePos : Int))

/-- R80: the travel the peer may have made since its report; capped for a LOST entry. -/
def drift (c : Cfg) (e : Entry) : Int :=
  let d := ceilDiv (c.vmax * (e.age + 20)) 1000
  if e.state = .lost then min d c.lostDriftCap else d

/-- R80: the gap of an entry on its side. -/
def entryGap (s : State) (e : Entry) : Int :=
  let own := s.pos.bridge.current
  if onPlusSide s e then
    ((e.report.bridgePos : Int) - e.report.minusExtent) - (own + s.cfg.plusExtent) - drift s.cfg e
  else (own - s.cfg.minusExtent) - ((e.report.bridgePos : Int) + e.report.plusExtent) - drift s.cfg e

/-- R79: the own speed toward the peer. -/
def ownSpeedToward (s : State) (e : Entry) : Int :=
  if onPlusSide s e then max 0 s.pos.bridge.speed else max 0 (-s.pos.bridge.speed)

/-- R79: the peer's speed toward the own crane; vmax for a STALE or LOST entry. -/
def peerSpeedToward (s : State) (e : Entry) : Int :=
  if e.state = .fresh then
    if onPlusSide s e then max 0 (-e.report.bridgeSpeed) else max 0 e.report.bridgeSpeed
  else s.cfg.vmax

/-- R80: the required distance of an entry. -/
def entryRequired (s : State) (e : Entry) : Int :=
  stoppingDistance s.cfg s.cfg.aBridge (ownSpeedToward s e) +
  stoppingDistance s.cfg s.cfg.aBridge (peerSpeedToward s e) + s.cfg.margin

/-- R80, R82: an evaluation of an entry writes the held level of its side and sets the other to FULL. -/
def evalEntry (s : State) (e : Entry) : Entry :=
  if onPlusSide s e then
    { e with heldPlus := heldStep s.cfg e.heldPlus (entryGap s e) (entryRequired s e), heldMinus := .full }
  else
    { e with heldMinus := heldStep s.cfg e.heldMinus (entryGap s e) (entryRequired s e), heldPlus := .full }

/-- Every entry is evaluated: at a position sample, a moved position, a write of an item of R76 (R13, R81)
(DEDUCED, assumption 9). -/
def evalEntries (s : State) : State := s.withTable { s.table with entries := s.table.entries.map (evalEntry s) }

/-- One entry is evaluated, as the table hands it on (R70, R81). -/
def evalEntryOf (id : Nat) (s : State) : State :=
  s.withTable { s.table with
    entries := s.table.entries.map fun e => if e.id = id then evalEntry s e else e }

/-- R81: the caps on the offer of an entry. -/
def entryCap (e : Entry) : Level :=
  Level.lower (match e.state with | .fresh => .full | .stale => .slow | .lost => .creep)
    (if e.report.posState = .valid then .full else .creep)

/-- R79, R81: the offer of an entry on one direction. -/
def entryOffer (s : State) (d : Dir) (e : Entry) : Level :=
  match d with
  | .bridgePlus => if onPlusSide s e then Level.lower e.heldPlus (entryCap e) else .full
  | .bridgeMinus => if onPlusSide s e then .full else Level.lower e.heldMinus (entryCap e)
  | _ => .full

/-! ### Own axes and end limits (R83 to R85) -/

/-- The axis of a direction. -/
def axisOf (s : State) : Dir → AxisUnit
  | .bridgePlus | .bridgeMinus => s.pos.bridge
  | .trolleyPlus | .trolleyMinus => s.pos.trolley
  | .hoistUp | .hoistDown => s.pos.hoist

/-- R83: an axis that is not VALID offers at most CREEP on both its directions. -/
def axisOffer (s : State) (d : Dir) : Level := if (axisOf s d).state = .valid then .full else .creep

/-- R84, R85: the gap to the end limit of a direction. -/
def limitGap (s : State) : Dir → Int
  | .bridgePlus => s.cfg.runwayMax - (s.pos.bridge.current + s.cfg.plusExtent)
  | .bridgeMinus => (s.pos.bridge.current - s.cfg.minusExtent) - s.cfg.runwayMin
  | .trolleyPlus => s.cfg.trolleyMax - s.pos.trolley.current
  | .trolleyMinus => s.pos.trolley.current - s.cfg.trolleyMin
  | .hoistUp => s.cfg.hoistTop - s.pos.hoist.current
  | .hoistDown => s.pos.hoist.current - s.cfg.hoistBottom

/-- The speed in one direction, never negative; the hoist speed is that of R77. -/
def speedToward (s : State) : Dir → Int
  | .bridgePlus => max 0 s.pos.bridge.speed
  | .bridgeMinus => max 0 (-s.pos.bridge.speed)
  | .trolleyPlus => max 0 s.pos.trolley.speed
  | .trolleyMinus => max 0 (-s.pos.trolley.speed)
  | .hoistUp => max 0 s.perm.hoistSpeed
  | .hoistDown => max 0 (-s.perm.hoistSpeed)

/-- The deceleration of the axis of a direction (R77). -/
def decelerationOf (c : Cfg) : Dir → Nat
  | .bridgePlus | .bridgeMinus => c.aBridge
  | .trolleyPlus | .trolleyMinus => c.aTrolley
  | .hoistUp | .hoistDown => c.aHoist

/-- The own stopping distance in one direction. -/
def ownStopping (s : State) (d : Dir) : Int := stoppingDistance s.cfg (decelerationOf s.cfg d) (speedToward s d)

/-- R84, R85: the held level of an end limit after an evaluation; FULL while the axis is not VALID. -/
def limitHeld (s : State) (d : Dir) : Level :=
  if (axisOf s d).state = .valid then heldStep s.cfg (s.perm.limits.get d) (limitGap s d) (ownStopping s d)
  else .full

/-- The end-limit tests of all six directions (R84, R85), at the end of every event and accepted request (DEDUCED,
assumption 9). -/
def evalLimits (s : State) : State :=
  s.withPerm { s.perm with
    limits := { bridgePlus := limitHeld s .bridgePlus, bridgeMinus := limitHeld s .bridgeMinus,
                trolleyPlus := limitHeld s .trolleyPlus, trolleyMinus := limitHeld s .trolleyMinus,
                hoistUp := limitHeld s .hoistUp, hoistDown := limitHeld s .hoistDown } }

/-- The offer of an end limit. -/
def limitOffer (s : State) (d : Dir) : Level :=
  if (axisOf s d).state = .valid then s.perm.limits.get d else .full

/-! ### The hook envelope and the zones (R86 to R94) -/

/-- R86: the envelope radius, by the load state. -/
def radius (s : State) : Int :=
  match s.weigh.load with
  | .loaded => s.cfg.radiusLoaded
  | .unloaded => s.cfg.radiusUnloaded

/-- The hook height of a clearance test: 0 while the hoist is not VALID (R89, R92). -/
def clearanceHeight (s : State) : Int := if s.pos.hoist.state = .valid then s.pos.hoist.current else 0

/-- R89: a zone is active while its valid flag is set and its condition holds. -/
def zoneActive (s : State) (z : ZoneEntry) : Bool :=
  z.valid &&
  match z.cond with
  | .always => true
  | .switch n => s.perm.switches.getLsbD n
  | .truck b => (bayRecord s b).isSome

/-- R89: a zone acts as a keep-out. -/
def zoneActs (s : State) (z : ZoneEntry) : Bool :=
  zoneActive s z &&
  match z.kind with
  | .keepOut => true
  | .loadedKeepOut => decide (s.weigh.load = .loaded)
  | .clearance => decide (s.weigh.load = .loaded) && decide (clearanceHeight s < z.clearance)
  | .slowArea => false

/-- R86: the envelope's bridge span overlaps the rectangle's. -/
def overlapsBridge (s : State) (z : ZoneEntry) : Bool :=
  decide (s.pos.bridge.current - radius s ≤ z.bridgeMax) && decide ((z.bridgeMin : Int) ≤ s.pos.bridge.current + radius s)

/-- R86: the envelope's trolley span overlaps the rectangle's. -/
def overlapsTrolley (s : State) (z : ZoneEntry) : Bool :=
  decide (s.pos.trolley.current - radius s ≤ z.trolleyMax) && decide ((z.trolleyMin : Int) ≤ s.pos.trolley.current + radius s)

/-- R86: the envelope overlaps the rectangle. -/
def overlaps (s : State) (z : ZoneEntry) : Bool := overlapsBridge s z && overlapsTrolley s z

/-- R91: the inside case: a zone acts as a keep-out and the envelope overlaps it. -/
def zoneInside (s : State) (z : ZoneEntry) : Bool := zoneActs s z && overlaps s z

/-- R90, R92: the gap of a direction that a zone tests now, or none. -/
def zoneGap (s : State) (z : ZoneEntry) (d : Dir) : Option Int :=
  if zoneInside s z then none
  else
    match d with
    | .bridgePlus =>
      let gap := (z.bridgeMin : Int) - (s.pos.bridge.current + radius s)
      if zoneActs s z ∧ overlapsTrolley s z ∧ 0 < gap then some gap else none
    | .bridgeMinus =>
      let gap := (s.pos.bridge.current - radius s) - z.bridgeMax
      if zoneActs s z ∧ overlapsTrolley s z ∧ 0 < gap then some gap else none
    | .trolleyPlus =>
      let gap := (z.trolleyMin : Int) - (s.pos.trolley.current + radius s)
      if zoneActs s z ∧ overlapsBridge s z ∧ 0 < gap then some gap else none
    | .trolleyMinus =>
      let gap := (s.pos.trolley.current - radius s) - z.trolleyMax
      if zoneActs s z ∧ overlapsBridge s z ∧ 0 < gap then some gap else none
    | .hoistUp => none
    | .hoistDown =>
      if zoneActive s z ∧ z.kind = .clearance ∧ s.weigh.load = .loaded ∧ overlaps s z then
        some (clearanceHeight s - z.clearance)
      else none

/-- R94: the held level of one direction of a zone after an evaluation; FULL while it is not under test. -/
def zoneHeld (s : State) (z : ZoneEntry) (d : Dir) (held : Level) : Level :=
  match zoneGap s z d with
  | none => .full
  | some gap => heldStep s.cfg held gap (ownStopping s d + s.cfg.margin)

/-- An evaluation of a zone: its five held levels and its inside case. -/
def evalZone (s : State) (z : Zone) : Zone :=
  { entry := z.entry
    heldBridgePlus := zoneHeld s z.entry .bridgePlus z.heldBridgePlus
    heldBridgeMinus := zoneHeld s z.entry .bridgeMinus z.heldBridgeMinus
    heldTrolleyPlus := zoneHeld s z.entry .trolleyPlus z.heldTrolleyPlus
    heldTrolleyMinus := zoneHeld s z.entry .trolleyMinus z.heldTrolleyMinus
    heldHoistDown := zoneHeld s z.entry .hoistDown z.heldHoistDown
    inside := zoneInside s z.entry }

/-- R91: some zone enters the inside case at this evaluation. -/
def zoneEntered (s : State) : Bool := s.perm.zones.any fun z => zoneInside s z.entry && !z.inside

/-- Every zone is evaluated; ZONE_INSIDE is raised where one enters the inside case (R86, R91). -/
def evalZones (s : State) : State :=
  let s' := s.withPerm { s.perm with zones := s.perm.zones.map (evalZone s) }
  if zoneEntered s then raise .zoneInside s' else s'

/-- The held level of a zone on one direction. -/
def Zone.held (z : Zone) : Dir → Level
  | .bridgePlus => z.heldBridgePlus
  | .bridgeMinus => z.heldBridgeMinus
  | .trolleyPlus => z.heldTrolleyPlus
  | .trolleyMinus => z.heldTrolleyMinus
  | .hoistUp => .full
  | .hoistDown => z.heldHoistDown

/-- R90 to R93: the offer of a zone on one direction. -/
def zoneOffer (s : State) (d : Dir) (z : Zone) : Level :=
  if zoneInside s z.entry then
    match d with
    | .hoistUp => .full
    | .hoistDown => .stop
    | _ => .creep
  else if zoneActive s z.entry ∧ z.entry.kind = .slowArea ∧ overlaps s z.entry ∧ d.isTravel then .slow
  else z.held d

/-! ### Link state, UNTRACKED, weighing conditions -/

/-- The task states in which a coil is carried (R54, R97). -/
def TaskState.carrying : TaskState → Bool
  | .liftPending | .verifyHold | .toTarget | .targetLost | .retargeting | .placePending | .returning => true
  | _ => false

/-- The hook is LOADED and the task carries its coil (R54, R97). -/
def carryingCoil (s : State) : Bool :=
  decide (s.weigh.load = .loaded) &&
  match s.tracker.task with
  | none => false
  | some t => t.state.carrying

/-- R54: the offer of the link state. In LISTEN it stops the bridge alone, also after a RESTART, of which R101 says that all
six outputs are STOP until the station is ACTIVE (DESIGN CHOICE, assumption 56). -/
def linkOffer (s : State) (d : Dir) : Level :=
  match s.link.state with
  | .config => .stop
  | .active => .full
  | .muted => if d.isBridge then .creep else .full
  | .listen | .halted => if d.isBridge then .stop else .full
  | .idclash => if d.isBridge then (if carryingCoil s then .creep else .stop) else .full

/-- R68: while UNTRACKED is set, at most CREEP on the bridge. -/
def untrackedOffer (s : State) (d : Dir) : Level := if s.table.untracked ∧ d.isBridge then .creep else .full

/-- R31: the offers of OVERLOAD, SLACK and CHANNEL_FAULT. -/
def conditionOffer (s : State) (d : Dir) : Level :=
  let load : Level := if s.weigh.overload.set then
    (match d with | .hoistUp => .stop | .hoistDown => .full | _ => .slow) else .full
  let slack : Level := if s.weigh.slack.set ∧ d = .hoistDown then .stop else .full
  let fault : Level := if (s.weigh.a.fault ∨ s.weigh.b.fault) ∧ ¬ d.isTravel then .creep else .full
  Level.lower load (Level.lower slack fault)

/-! ### The loaded store rule, the task hold and the truck check (R95 to R98) -/

/-- R95: a slot is forbidden for lowering. -/
def slotForbidden (s : State) (row column : Nat) (c : SlotContent) : Bool :=
  (match c with
    | .occupied _ | .reservedOut _ _ | .disputed | .closed => true
    | .reservedIn r => decide (r.holder ≠ .own)
    | .unknown | .empty => false) ||
  (isUpper column && !bothLowersOccupied s row column)

/-- R96: the task states in which the target slot is exempt. -/
def TaskState.exemptsTarget : TaskState → Bool
  | .claiming | .toSource | .liftPending | .verifyHold | .toTarget | .placePending => true
  | _ => false

/-- R96: the slots named in the task record are exempt in the states where the task holds them. -/
def slotExempt (s : State) (row column : Nat) : Bool :=
  match s.tracker.task with
  | none => false
  | some t =>
    (t.state.running && decide (t.source = .slot row column)) ||
    (t.state.exemptsTarget && decide (t.target = some (.slot row column)))

/-- R95, R96: the hook point lies within the window of a forbidden slot that is not exempt. -/
def storeStops (s : State) : Bool :=
  decide (s.weigh.load = .loaded) &&
  s.map.zipIdx.any fun (r, i) =>
    inSlotWindow s.cfg (hookPoint s) (refOfIndex s i).1 (refOfIndex s i).2 &&
    slotForbidden s (refOfIndex s i).1 (refOfIndex s i).2 r.content &&
    !slotExempt s (refOfIndex s i).1 (refOfIndex s i).2

/-- R97: the task states held in every link state. -/
def TaskState.held : TaskState → Bool
  | .verifyHold | .targetLost | .retargeting | .returning => true
  | _ => false

/-- R97: the task hold, which offers nothing within the source window. -/
def taskHolds (s : State) : Bool :=
  match s.tracker.task with
  | none => false
  | some t =>
    decide (s.weigh.load = .loaded) &&
    (t.state.held || (t.state.carrying && decide (s.link.state ≠ .active))) &&
    !hookOver s t.source

/-- R191: the weight of the check under the hook: the stable net, or the last stable net. -/
def hookNet (s : State) : Int :=
  match s.weigh.stableNet with
  | some n => n
  | none => s.weigh.lastStable.getD 0

/-- R191: the hook point lies within the window of a cradle of this bay whose check fails. -/
def bayStops (s : State) (bay : Nat) : Bool :=
  match bayRecord s bay with
  | none => false
  | some t =>
    t.cradles.zipIdx.any fun (k, i) => inCradleWindow s (hookPoint s) bay i && !plannedPasses t k (hookNet s)

/-- R191: the truck unit offers STOP on HOIST_DOWN. -/
def truckStops (s : State) : Bool := decide (s.weigh.load = .loaded) && (bayStops s 0 || bayStops s 1)

/-- R191: LOAD_LIMIT is raised each time the offer begins. -/
def evalTruckCheck (s : State) : State :=
  let s' := s.withTrucks { s.trucks with checkStop := truckStops s }
  if truckStops s && !s.trucks.checkStop then raise .loadLimit s' else s'

/-- STOP on HOIST_DOWN where a condition holds, no offer otherwise. -/
def stopDown (b : Bool) (d : Dir) : Level := if b ∧ d = .hoistDown then .stop else .full

/-! ### The outputs (R74, R75) -/

/-- The offers of all contributors to one output (section 5.3). -/
def offers (s : State) (d : Dir) : List Level :=
  [linkOffer s d, untrackedOffer s d, axisOffer s d, limitOffer s d, conditionOffer s d, stopDown (storeStops s) d,
    stopDown (taskHolds s) d, stopDown (truckStops s) d] ++
  s.table.entries.map (entryOffer s d) ++ s.perm.zones.map (zoneOffer s d)

/-- R74: the level of one output; R208: STOP while the reset input is held. -/
def levelOf (s : State) (d : Dir) : Level := if s.clock.resetHeld then .stop else lowest (offers s d)

/-- The six levels. -/
def levelsOf (s : State) : Levels :=
  { bridgePlus := levelOf s .bridgePlus, bridgeMinus := levelOf s .bridgeMinus,
    trolleyPlus := levelOf s .trolleyPlus, trolleyMinus := levelOf s .trolleyMinus,
    hoistUp := levelOf s .hoistUp, hoistDown := levelOf s .hoistDown }

/-- R75: lines A and B of a level. -/
def Level.lines : Level → Bool × Bool
  | .stop => (false, false)
  | .creep => (true, false)
  | .slow => (false, true)
  | .full => (true, true)

/-- R75: the line states an output passes through from one level to another, the last being the new level.
Where both lines change, the one that goes inactive is first; A is first where both go active, B where
both go inactive. -/
def lineSteps (old new : Level) : List (Bool × Bool) :=
  if old = new then []
  else
    match old, new with
    | .creep, .slow | .slow, .creep => [(false, false), new.lines]
    | .stop, .full | .full, .stop => [(true, false), new.lines]
    | _, _ => [new.lines]

/-- The line changes of one output. -/
def lineChanges (old new : Levels) (d : Dir) : List LineChange :=
  (lineSteps (old.get d) (new.get d)).map fun p => { dir := d, lineA := p.1, lineB := p.2 }

/-- The outputs follow the offers (R74), and their lines change in the order of R75, pair by pair from pair 1 to pair 6
(DESIGN CHOICE, assumption 54). -/
def driveOutputs (s : State) : State :=
  let new := levelsOf s
  if new = s.perm.outputs then s
  else s.withPerm { s.perm with
    outputs := new, lineTrace := (allDirs.map (lineChanges s.perm.outputs new)).flatten }

/-- The end of a step that may change an offer: the end-limit, zone and truck tests are evaluated, the outputs
and ATTN follow (R74, R76, R84, R86, R191, R210). -/
def settle (s : State) : State := driveAttn (driveOutputs (evalTruckCheck (evalZones (evalLimits s))))

/-- A request that may change the part: an accepted one is settled, a refused one changes nothing (R197, R201).
No transaction is taken while the reset input is held (R208) (DESIGN CHOICE, assumption 30). -/
def request (body : State → State × Reply) (s : State) : State :=
  if s.clock.resetHeld then s
  else
    let p := body s
    respond p.2 (if p.2.status = .ok then settle p.1 else p.1)

/-- An event of the part: it acts and the outputs follow; nothing acts while the reset input is held (R208). -/
def event (body : State → State) (s : State) : State := if s.clock.resetHeld then s else settle (body s)

end Sys2Proof.Machine
end

