-- ==== Sys2Proof/Machine/Engine.lean ====
section
/-! DEFINITION. The claim engine's shared operations and what it tells the task tracker: rounds and their
ends (R129 to R137), losses (R142, R147, R165, R166), releases (R145) and the checks before a round (R131, R132). -/

namespace Sys2Proof.Machine

/-! ### Releases of own reservations (R145) -/

/-- Whether a reservation is the station's own. -/
def Reservation.isOwn (r : Reservation) : Bool := decide (r.holder = .own)

/-- Whether a reservation is the station's own, held under a round number (section 7.1). -/
def Reservation.isOwnUnder (n : Nat) (r : Reservation) : Bool := r.isOwn && decide (r.round = n)

/-- A REASSERT round ends; its CLAIM, if still queued, is withdrawn and no RELEASE follows from it (R147)
(DEDUCED, assumption 25). -/
def endReassert (r : Round) (s : State) : State :=
  let s := s.withClaims { s.claims with round := none }
  match r.stage with
  | .queued => withdrawClaim { round := r.number, refs := [] } s
  | .opened => s

/-- R147: a reference leaves a REASSERT round; with no reference left the round ends. With one left, a CLAIM that still
waits is sent as composed (DESIGN CHOICE, assumption 55). -/
def dropFromRound (ref : Ref) (s : State) : State :=
  match s.claims.round with
  | none => s
  | some r =>
    if r.purpose = .reassert ∧ r.entries.any (fun e => e.ref == ref) then
      let rest := r.entries.filter fun e => e.ref != ref
      if rest.isEmpty then endReassert r s
      else s.withClaims { s.claims with round := some { r with entries := rest } }
    else s

/-- A REASSERT round ends because no own reservation is left. -/
def dropReassert (s : State) : State :=
  match s.claims.round with
  | none => s
  | some r => if r.purpose = .reassert then endReassert r s else s

/-- Every own reservation is released and a RELEASE asked for naming each, one request for each round number;
`extra` names references already removed that the RELEASE names all the same (R142, R145). -/
def releaseAllOwn (extra : List ReleaseFrame) (s : State) : State :=
  let requests := (extra ++ ownReservations s).foldl addRequest []
  askReleases requests (dropReassert (releaseWhere Reservation.isOwn .own s))

/-- An own reservation of one reference is released and a RELEASE asked for (R142, R145). -/
def releaseOwn (ref : Ref) (s : State) : State :=
  match ownResvAt s ref with
  | none => s
  | some v =>
    askRelease { round := v.round, refs := [ref] } (dropFromRound ref (releaseRef Reservation.isOwn .own ref s))

/-- The release of the task's target at the task tracker's request (R145). -/
def releaseTarget (s : State) : State :=
  match s.tracker.task with
  | none => s
  | some t =>
    match t.target with
    | none => s
    | some ref => releaseOwn ref s

/-! ### What the tracker is told (R165, R166, R170) -/

/-- R170: the entry to a terminal state sets the reason, drops a waiting booking, raises the notice of the
state and releases any own reservation still in the records. -/
def enterTerminal (st : TaskState) (reason : Option Reason) (notice : Notice) (s : State) : State :=
  releaseAllOwn [] (raise notice
    (updateTask (fun t => { t with state := st, reason := reason, waiting := none }) s))

/-- The hook record takes origin unknown with no coil identifier, and HOOK_UNKNOWN is raised (R155, R165). -/
def hookUnknown (s : State) : State :=
  raise .hookUnknown
    (setHook (s.tracker.hook.map fun h => { h with coil := none, width := none, origin := .unknown }) s)

/-- The task ends in CLAIM_LOST; a take-out that waits leaves an unknown coil on the hook (R165). -/
def endClaimLost (reason : Reason) (t : Task) (s : State) : State :=
  let s := if t.waiting = some .takeOut then hookUnknown s else s
  enterTerminal .claimLost (some reason) .claimLost s

/-- R165: a claim loss told in CLAIMING or TO_SOURCE ends the task in CLAIM_LOST. -/
def tellClaimLost (reason : Reason) (s : State) : State :=
  match s.tracker.task with
  | none => s
  | some t =>
    match t.state with
    | .claiming | .toSource => endClaimLost reason t s
    | _ => s

/-- R149, R166: a target loss, by the task state; the target becomes absent. -/
def tellTargetLost (s : State) : State :=
  match s.tracker.task with
  | none => s
  | some t =>
    match t.state with
    | .toSource => endClaimLost .targetTaken t (updateTask (fun t => { t with target := none }) s)
    | .liftPending | .verifyHold => raise .targetLost (updateTask (fun t => { t with target := none }) s)
    | .toTarget | .retargeting =>
      raise .targetLost (updateTask (fun t => { t with target := none, state := .targetLost }) s)
    | _ => s

/-! ### Ends of a round (R134, R136, R137) -/

/-- A START or RETARGET round that is lost or abandoned: its reservations are released, its CLAIM is withdrawn
where it is still in the mailbox, and a RELEASE is asked for where it had been sent (R136, R137). -/
def closeRound (r : Round) (s : State) : State :=
  let s := s.withClaims { s.claims with round := none }
  let s := r.entries.foldl (fun s e => releaseRef (Reservation.isOwnUnder r.number) .own e.ref s) s
  let f : ReleaseFrame := { round := r.number, refs := r.entries.map ClaimEntry.ref }
  match r.stage with
  | .queued => withdrawClaim f s
  | .opened => askRelease f s

/-- R136: the current START or RETARGET round is lost and the task is told, with the cause. -/
def loseRound (cause : Reason) (s : State) : State :=
  match s.claims.round with
  | none => s
  | some r =>
    match r.purpose with
    | .start => tellClaimLost cause (closeRound r s)
    | .retarget => tellTargetLost (closeRound r s)
    | .reassert => s

/-- R137: the task tracker abandons the current round and is told nothing. -/
def abandonRound (s : State) : State :=
  match s.claims.round with
  | none => s
  | some r => if r.purpose = .reassert then s else closeRound r s

/-! ### Late objections and removals (R142, R147) -/

/-- R142: the target is before SET_DOWN in these states. -/
def TaskState.beforeSetDown : TaskState → Bool
  | .toSource | .liftPending | .verifyHold | .toTarget => true
  | _ => false

/-- R142, first column: a late objection against an own reservation (also R147's loss of a reference). A reference that is
both source and target is taken for the source (DESIGN CHOICE, assumption 60). -/
def lateObjection (cause : Reason) (ref : Ref) (s : State) : State :=
  match s.tracker.task with
  | none => s
  | some t =>
    if t.source = ref then
      if t.state = .toSource then tellClaimLost cause (releaseAllOwn [] s) else s
    else if t.target = some ref then
      if t.state.beforeSetDown then tellTargetLost (releaseOwn ref s) else s
    else s

/-- R142, second column: an own reservation has been removed; the RELEASE names it all the same. A reference that is both
source and target is taken for the source (DESIGN CHOICE, assumption 60). -/
def reservationRemoved (round : Nat) (ref : Ref) (s : State) : State :=
  match s.tracker.task with
  | none => s
  | some t =>
    if t.source = ref then
      if t.state = .toSource then
        tellClaimLost .removed (releaseAllOwn [{ round := round, refs := [ref] }] s)
      else askRelease { round := round, refs := [ref] } s
    else if t.target = some ref then
      if t.state.beforeSetDown then tellTargetLost (askRelease { round := round, refs := [ref] } s)
      else askRelease { round := round, refs := [ref] } s
    else askRelease { round := round, refs := [ref] } s

/-- The engine deals with an own reservation that was removed from a record: R136 for a reference of the current
START or RETARGET round, R147 for one of a REASSERT round, R142 for one that is HELD. -/
def ownRemoved (ref : Ref) (v : Reservation) (s : State) : State :=
  match s.claims.round with
  | none => reservationRemoved v.round ref s
  | some r =>
    if r.number = v.round ∧ r.entries.any (fun e => e.ref == ref) then
      if r.purpose = .reassert then reservationRemoved v.round ref (dropFromRound ref s)
      else loseRound .removed s
    else reservationRemoved v.round ref s

/-- The own reservations under a round number take phase HELD; a change of phase alone sets no source (R134). -/
def holdRound (n : Nat) (s : State) : State :=
  mapReservations (fun v => if v.isOwnUnder n then { v with phase := .held } else v) s

/-- R147: a REASSERT round whose every reference is lost because the link state is not ACTIVE; each is dealt with
by R142, and what the table leaves takes phase HELD (DEDUCED, assumption 25). They are dealt with in the order of the
round's entries, which is record order; with the source and the target lost together this decides between NOT_ACTIVE and
TARGET_TAKEN (R165, R166) (DESIGN CHOICE, assumption 49). -/
def failReassert (r : Round) (s : State) : State :=
  let s := match r.stage with
    | .queued => withdrawClaim { round := r.number, refs := [] } s
    | .opened => s
  let s := r.entries.foldl (fun s e =>
    match ownResvAt s e.ref with
    | none => s
    | some v => if v.round = r.number then lateObjection .notActive e.ref s else s) s
  holdRound r.number (s.withClaims { s.claims with round := none })

/-- R135: an entry to a link state other than ACTIVE; a QUEUED round is lost, an OPEN round keeps its window. -/
def linkDown (s : State) : State :=
  match s.claims.round with
  | none => s
  | some r =>
    match r.stage with
    | .opened => s
    | .queued => if r.purpose = .reassert then failReassert r s else loseRound .notActive s

/-- R134, R153, R167: the tracker is told that its round is held. -/
def tellHeld (p : Purpose) (s : State) : State :=
  match p with
  | .start => updateTask (fun t => if t.state = .claiming then { t with state := .toSource } else t) s
  | .retarget => updateTask (fun t => if t.state = .retargeting then { t with state := .toTarget } else t) s
  | .reassert => s

/-- R134: the window of the current round expires. -/
def windowExpired (r : Round) (s : State) : State :=
  if s.link.state = .active then
    tellHeld r.purpose (raise .claimHeld (holdRound r.number (s.withClaims { s.claims with round := none })))
  else if r.purpose = .reassert then failReassert r s
  else loseRound .notActive s

/-! ### Starting a round (R131 to R133, R146) -/

/-- The number of the next round: the counter plus 1, 0 following 255 (R129). -/
def nextRound (s : State) : Nat := (s.claims.counter + 1) % 256

/-- The round record and its CLAIM are made; the round is QUEUED (R133, R146). -/
def queueRound (purpose : Purpose) (priority : Nat) (entries : List ClaimEntry) (s : State) : State :=
  let n := nextRound s
  let s := s.withClaims { s.claims with
    counter := n
    round := some { number := n, purpose := purpose, priority := priority, entries := entries,
                    stage := .queued, windowTime := 0 } }
  setBoxes { s.link.boxes with claim := some { round := n, priority := priority, entries := entries } } s

/-- The reservation a new round makes: own, PENDING, from now (R133). -/
def newReservation (s : State) (priority : Nat) : Reservation :=
  { holder := .own, round := nextRound s, priority := priority, phase := .pending, since := s.clock.now }

/-- R133: a START or RETARGET round reserves its references and queues its CLAIM. -/
def startRound (purpose : Purpose) (priority : Nat) (entries : List ClaimEntry) (s : State) : State :=
  let v := newReservation s priority
  queueRound purpose priority entries (entries.foldl (fun s e => reserveRef e.dir v .own e.ref s) s)

/-- The own reservations in the records as the entries of a REASSERT round (R146). -/
def ownEntries (s : State) : List ClaimEntry :=
  (ownReservations s).flatMap fun f => f.refs.map fun ref =>
    { ref := ref
      dir := match ref with
        | .slot row column =>
          match contentAt s row column with
          | .reservedOut c _ => .outward c.coil
          | _ => .inward
        | .cradle _ _ => .inward }

/-- R146: a REASSERT round claims all own reservations anew; the tracker takes the new round number. -/
def reassert (s : State) : State :=
  let entries := ownEntries s
  if entries.isEmpty then s
  else
    let n := nextRound s
    let priority := (s.tracker.task.map Task.priority).getD 0
    let s := mapReservations (fun v =>
      if v.isOwn then { v with round := n, phase := .pending, since := s.clock.now } else v) s
    updateTask (fun t => { t with round := n }) (queueRound .reassert priority entries s)

/-- R131: a START or RETARGET round is refused while the CLAIM mailbox or the list of release requests is not free. It is
refused as well while a round runs, since the engine runs at most one (R129): so a TASK_RETARGET during an OPEN REASSERT
round (DESIGN CHOICE, assumption 48). -/
def engineBusy (s : State) : Bool :=
  s.link.boxes.claim.isSome || !s.claims.heldRequests.isEmpty || s.claims.round.isSome

/-- R108: a slot may be picked as far as the tier goes. -/
def mayPick (s : State) (row column : Nat) : Bool :=
  isUpper column ||
  match s.cfg.geometry with
  | none => true
  | some g => (uppersOn g column).all fun k => decide (contentAt s row k = .empty)

/-- R131: the tests of a START round's source, in their order. -/
def sourceRefusal (s : State) (source : Ref) (coil : CoilId) : Option Reply :=
  match source with
  | .cradle _ _ => some (.err .badArg)
  | .slot row column =>
    match slotAt s row column with
    | none => some (.err .badArg)
    | some r =>
      match r.content with
      | .occupied c =>
        if c.coil ≠ coil then some (.refusedWith .sourceMismatch)
        else if mayPick s row column then none
        else some (.refusedWith .sourceCovered)
      | .reservedOut _ _ => some (.refusedWith .sourceReserved)
      | _ => some (.refusedWith .sourceState)

/-- R132: an upper target that rests on the task's own source. -/
def restsOn (source : Ref) (row column : Nat) : Bool :=
  isUpper column && (decide (source = .slot row (column - 1)) || decide (source = .slot row (column + 1)))

/-- R132: the tests of a target, in their order. -/
def targetRefusal (s : State) (source target : Ref) (weight width : Option Nat) : Option Reply :=
  match target with
  | .slot row column =>
    match slotAt s row column with
    | none => some (.err .badArg)
    | some r =>
      match r.content with
      | .empty =>
        if isUpper column then
          if !bothLowersOccupied s row column || restsOn source row column then some (.refusedWith .tierRule)
          else if !weightRulePasses s row column weight then some (.refusedWith .weightRule)
          else if !widthRulePasses s row column width then some (.refusedWith .widthRule)
          else none
        else none
      | .reservedIn _ => some (.refusedWith .targetReserved)
      | _ => some (.refusedWith .targetState)
  | .cradle bay index =>
    if 1 < bay ∨ 5 < index then some (.err .badArg)
    else
      match bayRecord s bay with
      | none => some (.refusedWith .truckNotLoading)
      | some t =>
        if t.closed then some (.refusedWith .truckNotLoading)
        else
          match t.cradles[index]? with
          | none => some (.refusedWith .targetState)
          | some k =>
            match k.content with
            | .occupied _ _ _ => some (.refusedWith .targetState)
            | .reserved _ => some (.refusedWith .targetReserved)
            | .free =>
              match weight with
              | none => some (.refusedWith .loadLimit)
              | some w => if plannedPasses t k w then none else some (.refusedWith .loadLimit)

/-- R130: the claim key: the higher priority wins, at equal priority the lower station identifier. -/
def keyBeats (p1 id1 p2 id2 : Nat) : Bool := decide (p2 < p1) || (decide (p1 = p2) && decide (id1 < id2))

end Sys2Proof.Machine
end

