-- ==== Sys2Proof/Machine/LinkControl.lean ====
section
/-! DEFINITION. The link controller: attempts, errors, link states, STATUS composition, JOIN and LEAVE, and what
every received frame passes before its owner takes it (R37 to R58). -/

namespace Sys2Proof.Machine

/-! ### Errors (R50, R51) -/

/-- The link record changed by a function. -/
def updateLink (f : Link → Link) (s : State) : State := s.withLink (f s.link)

/-- R51: a receive error is counted, saturating at 255; the rise from 8 to 9 raises LINK_NOISY. In CONFIG the station
receives nothing and counts nothing (R52). -/
def countReceiveError (s : State) : State :=
  if s.link.state = .config then s
  else
    let s' := updateLink (fun l => { l with rxErr := min 255 (l.rxErr + 1) }) s
    if s.link.rxErr = 8 then raise .linkNoisy s' else s'

/-- The end of a reception. -/
def endReception (s : State) : State := updateLink (fun l => { l with receiving := false }) s

/-! ### Link states (R53 to R58) -/

/-- What leaves with the STATUS mailbox: the leave mark is cleared, the waiting STATUS is discarded and a composition
put off is dropped (R53, R57). -/
def dropStatus (s : State) : State :=
  updateLink (fun l => { l with leaving := false, statusDeferred := false, boxes := { l.boxes with status := none } }) s

/-- A link state is entered; its beat expiries are counted from 0 (DESIGN CHOICE, assumption 38). -/
def enterLinkState (st : LinkState) (afterMuted : Bool) (s : State) : State :=
  updateLink (fun l => { l with state := st, beats := 0, afterMuted := afterMuted }) s

/-- R57: the entry to MUTED. -/
def enterMuted (s : State) : State := linkDown (dropStatus (enterLinkState .muted false (raise .muted s)))

/-- R53: the entry to IDCLASH. -/
def enterIdclash (s : State) : State := linkDown (dropStatus (enterLinkState .idclash false (raise .idclash s)))

/-- R58: the STATUS, CLAIM and both OBJECT mailboxes are emptied. -/
def emptyVolatileBoxes (b : Mailboxes) : Mailboxes := { b with status := none, claim := none, objects := [] }

/-- R58: the entry to CONFIG, by LEAVE from LISTEN or by RESTART. -/
def enterConfig (s : State) : State :=
  linkDown (updateLink (fun l => { l with
    leaving := false, statusDeferred := false, receiving := false, sending := none, withdrawal := none
    boxes := emptyVolatileBoxes l.boxes }) (enterLinkState .config false s))

/-- R56, R58: the entry to HALTED, which ends the leave and empties the CLAIM and both OBJECT mailboxes
(DEDUCED, assumption 39). -/
def enterHalted (s : State) : State :=
  linkDown (updateLink (fun l => { l with
    leaving := false, statusDeferred := false
    boxes := { l.boxes with claim := none, objects := [] } }) (enterLinkState .halted false s))

/-- R50: an attempt abandoned by an error; at 96 in ACTIVE the station enters MUTED. -/
def transmitError (s : State) : State :=
  let s := endAttempt (updateLink (fun l => { l with txErr := min 96 (l.txErr + 8) }) s)
  if s.link.state = .active ∧ s.link.txErr = 96 then enterMuted s else s

/-- TRANSMIT_ERROR (R50): a read-back mismatch; the attempt goes on as a reception. -/
def execTransmitError (s : State) : Host.Outcome State Fault Refusal :=
  .next (event (fun s =>
    if s.link.sending.isSome then transmitError (updateLink (fun l => { l with receiving := true }) s) else s) s)

/-- R37: what a line fault does at its begin: an attempt is abandoned as a transmit error (R50), a reception under way
ends as a coding error (R51). -/
def lineFaultBegins (receiving : Bool) (s : State) : State :=
  if s.link.sending.isSome then transmitError s
  else if receiving || s.link.receiving then countReceiveError (endReception s)
  else s

/-- LINE_FAULT (R37): the transceiver reports a line fault or its end. While the reset input is held only the pin
follows (DESIGN CHOICE, assumption 23). -/
def execLineFault (reported receiving : Bool) (s : State) : Host.Outcome State Fault Refusal :=
  let s' := updateLink (fun l => { l with lineFault := reported }) s
  .next (if s.clock.resetHeld then s'
    else settle (if reported && !s.link.lineFault then lineFaultBegins receiving s' else s'))

/-- RECEIVE_ERROR (R51). -/
def execReceiveError (s : State) : Host.Outcome State Fault Refusal :=
  .next (event (fun s => countReceiveError (endReception s)) s)

/-! ### Attempts (R39 to R41) -/

/-- R39: the full mailbox with the lowest class. -/
def lowestBox (b : Mailboxes) : Option Mailbox :=
  if !b.objects.isEmpty then some .object
  else if b.status.isSome then some .status
  else if b.release.isSome then some .release
  else if b.claim.isSome then some .claim
  else if b.book.isSome then some .book
  else if b.truck.isSome then some .truck
  else none

/-- R37, R39: a frame may be started: in ACTIVE, with no attempt running and no line fault reported. -/
def mayStart (l : Link) : Bool := decide (l.state = .active) && l.sending.isNone && !l.lineFault

/-- R39: the frame of the full mailbox with the lowest class is started; the line is idle, so no reception is under
way. -/
def frameStart (s : State) : State :=
  if mayStart s.link then
    match lowestBox s.link.boxes with
    | none => s
    | some m => updateLink (fun l => { l with sending := some m, receiving := false }) s
  else s

/-- FRAME_START (R39). -/
def execFrameStart (s : State) : Host.Outcome State Fault Refusal := .next (event frameStart s)

/-- R40: a lost attempt goes on as a reception and changes no count. -/
def arbitrationLost (s : State) : State :=
  if s.link.sending.isSome then updateLink (fun l => { l with receiving := true }) (endAttempt s) else s

/-- ARBITRATION_LOST (R40). -/
def execArbitrationLost (s : State) : Host.Outcome State Fault Refusal := .next (event arbitrationLost s)

/-- R41: the mailbox of the frame sent is emptied; of two OBJECTs the newer becomes the older (R48). -/
def emptyBox (m : Mailbox) (b : Mailboxes) : Mailboxes :=
  match m with
  | .object => { b with objects := b.objects.tail }
  | .status => { b with status := none }
  | .release => { b with release := none }
  | .claim => { b with claim := none }
  | .book => { b with book := none }
  | .truck => { b with truck := none }

/-- R134: the round whose CLAIM has been sent becomes OPEN with window time 0. -/
def openRound (s : State) : State :=
  s.withClaims { s.claims with round := s.claims.round.map fun r => { r with stage := .opened, windowTime := 0 } }

/-- R41, R45, R134, R136: what follows a CLAIM sent: a withdrawn one asks for its RELEASE, any other opens its round. -/
def claimSent (s : State) : State :=
  match s.link.withdrawal with
  | some f => askRelease f (updateLink (fun l => { l with withdrawal := none }) s)
  | none => openRound s

/-- R41: what follows a frame sent, by its mailbox; `farewell` tells a farewell STATUS (R56). -/
def afterSent (m : Mailbox) (farewell : Bool) (s : State) : State :=
  match m with
  | .claim => claimSent s
  | .status => if farewell then enterHalted s else s
  | .object | .release | .book | .truck => s

/-- Whether the waiting STATUS is a farewell. -/
def farewellWaits (b : Mailboxes) : Bool :=
  match b.status with
  | none => false
  | some f => f.farewell

/-- R41: the frame being sent has been sent. -/
def frameSent (s : State) : State :=
  match s.link.sending with
  | none => s
  | some m =>
    afterSent m (farewellWaits s.link.boxes)
      (updateLink (fun l => { l with sending := none, txErr := l.txErr - 1, boxes := emptyBox m l.boxes }) s)

/-- FRAME_SENT (R41). -/
def execFrameSent (s : State) : Host.Outcome State Fault Refusal := .next (event frameSent s)

/-! ### STATUS (R43, R44, R56) -/

/-- R43: the geometry signature. -/
def signatureOf (g : Geometry) : Nat :=
  (g.rows * 1000 + g.lower * 37 + g.rowPitch + g.posPitch + g.rowBase + g.posBase) % 65536

/-- R44: the task summary. -/
def taskSummary (s : State) : TaskSummary :=
  match s.tracker.task with
  | none => .idle
  | some t =>
    match t.state with
    | .done | .cancelled | .claimLost | .aborted => .idle
    | .claiming => .claiming
    | .toSource => .other
    | .liftPending | .verifyHold | .toTarget | .targetLost | .retargeting | .placePending | .returning => .carrying

/-- R44: a STATUS from the values of the moment. -/
def composedStatus (s : State) : StatusReport :=
  { report :=
      { bridgePos := s.pos.bridge.current.toNat
        bridgeSpeed := s.pos.bridge.speed
        plusExtent := s.cfg.plusExtent
        minusExtent := s.cfg.minusExtent
        trolleyPos := s.pos.trolley.current.toNat
        hookHeight := s.pos.hoist.current.toNat
        load := s.weigh.load
        posState := s.pos.bridge.state
        summary := taskSummary s
        stableNet := s.weigh.stableNet }
    signature := s.link.signature }

/-- R44: the composed STATUS replaces any STATUS waiting. -/
def composeStatus (farewell : Bool) (s : State) : State :=
  setBoxes { s.link.boxes with status := some { status := composedStatus s, farewell := farewell } } s

/-- R44: the composition at a beat expiry in ACTIVE, put off while the waiting STATUS is being sent. -/
def beatStatus (s : State) : State :=
  if s.link.leaving then s
  else if s.link.sending = some .status then updateLink (fun l => { l with statusDeferred := true }) s
  else composeStatus false s

/-- R55, R146: the entry to ACTIVE at the tenth beat expiry in LISTEN. -/
def enterActive (s : State) : State :=
  let s' := composeStatus false (raise .joined (enterLinkState .active false s))
  if s.link.afterMuted then reassert s' else s'

/-- R57: the end of MUTED at its twentieth beat expiry. -/
def endMuted (s : State) : State :=
  updateLink (fun l => { l with txErr := 0, rxErr := 0 }) (enterLinkState .listen true s)

/-- R44, R51, R55, R57, R59, R204: a beat expiry. The next period runs with the beat as it stands. -/
def beatExpiry (s : State) : State :=
  let s := updateLink (fun l => { l with rxErr := 0, beatElapsed := 0, beatPeriod := s.cfg.beat }) s
  match s.link.state with
  | .active => beatStatus s
  | .listen =>
    if 10 ≤ s.link.beats + 1 then enterActive s else updateLink (fun l => { l with beats := l.beats + 1 }) s
  | .muted =>
    if 20 ≤ s.link.beats + 1 then linkDown (endMuted s) else updateLink (fun l => { l with beats := l.beats + 1 }) s
  | .config | .halted | .idclash => s

/-- BEAT_EXPIRY (R44). -/
def execBeatExpiry (s : State) : Host.Outcome State Fault Refusal := .next (event beatExpiry s)

/-- R44: a composition put off is made at the end of the attempt (DEDUCED, assumption 20). -/
def composeDeferred (s : State) : State :=
  if s.link.statusDeferred ∧ s.link.sending ≠ some .status then
    let s' := updateLink (fun l => { l with statusDeferred := false }) s
    if s.link.state = .active ∧ s.link.leaving = false then composeStatus false s' else s'
  else s

/-- DEFERRED_STATUS_COMPOSE (R44). -/
def execDeferredStatusCompose (s : State) : Host.Outcome State Fault Refusal := .next (event composeDeferred s)

/-- R56: the farewell is due: leaving in ACTIVE, with the RELEASE, BOOK and TRUCK mailboxes empty and no release request
held, none composed yet, and no STATUS being sent (R44) (DEDUCED, assumption 21). -/
def farewellDue (s : State) : Bool :=
  decide (s.link.state = .active) && s.link.leaving && s.link.boxes.release.isNone && s.link.boxes.book.isNone &&
  s.link.boxes.truck.isNone && s.claims.heldRequests.isEmpty && !farewellWaits s.link.boxes &&
  decide (s.link.sending ≠ some .status)

/-- FAREWELL_COMPOSE (R56). -/
def execFarewellCompose (s : State) : Host.Outcome State Fault Refusal :=
  .next (event (fun s => if farewellDue s then composeStatus true s else s) s)

/-! ### JOIN and LEAVE (R55, R56) -/

/-- R55: the entry to LISTEN with the beat timer started afresh. -/
def startListen (s : State) : State :=
  linkDown (updateLink (fun l => { l with beatElapsed := 0, beatPeriod := s.cfg.beat }) (enterLinkState .listen false s))

/-- R55: the body of JOIN. -/
def joinBody (s : State) : State × Reply :=
  match s.link.state with
  | .config =>
    match s.cfg.stationId, s.cfg.geometry with
    | some _, some g => (startListen (updateLink (fun l => { l with signature := signatureOf g }) s), .okWith [])
    | _, _ => (s, .err .badState)
  | .halted => (startListen s, .okWith [])
  | _ => (s, .err .badState)

/-- JOIN (R55). -/
def execJoin (s : State) : Host.Outcome State Fault Refusal := .next (request joinBody s)

/-- R56: the body of LEAVE. -/
def leaveBody (s : State) : State × Reply :=
  match s.link.state with
  | .listen => if taskRunning s then (s, .err .busy) else (enterConfig s, .okWith [])
  | .active =>
    if taskRunning s then (s, .err .busy) else (updateLink (fun l => { l with leaving := true }) s, .okWith [])
  | _ => (s, .err .badState)

/-- LEAVE (R56). -/
def execLeave (s : State) : Host.Outcome State Fault Refusal := .next (request leaveBody s)

/-! ### Reception (R42, R52, R53) -/

/-- R53: a clean frame with the station's own identifier, not sent whole by it. -/
def ownIdentifierSeen (s : State) : State :=
  match s.link.state with
  | .listen | .active => enterIdclash s
  | .config | .muted | .halted | .idclash => s

/-- OWN_IDENTIFIER_FRAME (R53). -/
def execOwnIdentifierFrame (s : State) : Host.Outcome State Fault Refusal :=
  .next (event (fun s => ownIdentifierSeen (endReception s)) s)

/-- R42, R52, R53: what a frame received passes before its owner takes it. In CONFIG nothing is received; a malformed
frame is counted; a frame with the station's own identifier is a clash; a frame of a shared record (`shared`) from a
geometry-foreign sender is not handed on (DESIGN CHOICE, assumption 31). -/
def receiveFrame (sender : Nat) (wellFormed shared : Bool) (owner : State → State) (s : State) : State :=
  if s.link.state = .config then s
  else
    let s := endReception s
    if senderOk sender && wellFormed then
      if sender = ownId s then ownIdentifierSeen s
      else if shared && senderForeign s sender then s
      else owner s
    else countReceiveError s

end Sys2Proof.Machine
end

