-- ==== Sys2Proof/Machine/Neighbours.lean ====
section
/-! DEFINITION. The neighbour table: entries made, refreshed, aged and removed, and its requests (R60 to R72). -/

namespace Sys2Proof.Machine

/-- The table's entries changed by a function. -/
def mapEntries (f : List Entry → List Entry) (s : State) : State :=
  s.withTable { s.table with entries := f s.table.entries }

/-- R43: the signature result of a frame. -/
def isForeign (s : State) (signature : Nat) : Bool := decide (signature ≠ s.link.signature)

/-! ### STATUS (R61 to R63, R68) -/

/-- R61: an entry refreshed by a STATUS; the held levels are kept. -/
def Entry.refresh (r : Report) (foreign : Bool) (e : Entry) : Entry :=
  { e with state := .fresh, age := 0, report := r, foreign := foreign }

/-- R62: a new entry. -/
def newEntry (id : Nat) (r : Report) (foreign : Bool) : Entry :=
  { id := id, state := .fresh, age := 0, report := r, foreign := foreign, heldPlus := .full, heldMinus := .full }

/-- An entry put into the list by ascending identifier (R72 lists them so; R60 keeps no order)
(DESIGN CHOICE, assumption 42). -/
def insertEntry (e : Entry) : List Entry → List Entry
  | [] => [e]
  | x :: xs => if e.id < x.id then e :: x :: xs else x :: insertEntry e xs

/-- R63: what follows a flag newly set: the notice, and the release of what the peer holds. -/
def becomeForeign (id : Nat) (s : State) : State := releasePeer id (raise .geometryMismatch s)

/-- R61, R63, R81: a STATUS from a station that has an entry. -/
def refreshEntry (id : Nat) (r : StatusReport) (before : Entry) (s : State) : State :=
  let foreign := isForeign s r.signature
  let s := mapEntries (List.map fun e => if e.id = id then e.refresh r.report foreign else e) s
  evalEntryOf id (if foreign && !before.foreign then becomeForeign id s else s)

/-- R62, R63: a STATUS from a station that has no entry, with a place free. -/
def createEntry (id : Nat) (r : StatusReport) (s : State) : State :=
  let foreign := isForeign s r.signature
  let s := mapEntries (insertEntry (newEntry id r.report foreign)) s
  evalEntryOf id (if foreign then raise .geometryMismatch s else s)

/-- R68: an untracked report. -/
def untrackedReport (s : State) : State :=
  let s' := s.withTable { s.table with untracked := true, untrackedAge := 0 }
  if s.table.untracked then s' else raise .untracked s'

/-- R61, R62, R68: a STATUS with the farewell flag clear. -/
def takeStatus (id : Nat) (r : StatusReport) (s : State) : State :=
  match entryOf s id with
  | some e => refreshEntry id r e s
  | none => if s.table.entries.length < 12 then createEntry id r s else untrackedReport s

/-- STATUS_RECEIVED (R52, R61). -/
def execStatusReceived (sender : Nat) (r : StatusReport) (s : State) : Host.Outcome State Fault Refusal :=
  .next (event (receiveFrame sender (statusOk r) false (takeStatus sender r)) s)

/-! ### Removal (R66, R67) -/

/-- An entry is removed; its offers end with it. -/
def removeEntry (id : Nat) (s : State) : State := mapEntries (List.filter fun e => e.id != id) s

/-- R66: a farewell releases what the peer holds and removes its entry; one from a station with no entry changes
nothing. -/
def takeFarewell (id : Nat) (s : State) : State :=
  match entryOf s id with
  | none => s
  | some _ => removeEntry id (releasePeer id s)

/-- FAREWELL_RECEIVED (R52, R66). -/
def execFarewellReceived (sender : Nat) (r : StatusReport) (s : State) : Host.Outcome State Fault Refusal :=
  .next (event (receiveFrame sender (statusOk r) false (takeFarewell sender)) s)

/-- R67: the body of NEIGHBOUR_DROP. -/
def neighbourDrop (id : Nat) (s : State) : State × Reply :=
  if senderOk id = false then (s, .err .badArg)
  else
    match entryOf s id with
    | none => (s, .err .notLost)
    | some e => if e.state = .lost then (removeEntry id s, .okWith []) else (s, .err .notLost)

/-- NEIGHBOUR_DROP (R67). -/
def execNeighbourDrop (id : Nat) (s : State) : Host.Outcome State Fault Refusal := .next (request (neighbourDrop id) s)

/-! ### Aging (R64, R65, R69) -/

/-- A number of beats in ms, with the configured beat as it stands (R64). -/
def beatsLong (s : State) (n : Nat) : Nat := n * s.cfg.beat

/-- R64: an entry is due to become STALE. -/
def staleDue (s : State) (e : Entry) : Bool :=
  decide (e.state = .fresh) && decide (beatsLong s 3 < e.age) && decide (e.age ≤ beatsLong s 10)

/-- R65: an entry is due to become LOST. -/
def lostDue (s : State) (e : Entry) : Bool := decide (e.state ≠ .lost) && decide (beatsLong s 10 < e.age)

/-- R64: an entry takes a new state; its report and held levels are kept. -/
def setEntryState (id : Nat) (st : EntryState) (s : State) : State :=
  mapEntries (List.map fun e => if e.id = id then { e with state := st } else e) s

/-- R64: the entry becomes STALE (DEDUCED, assumption 37). -/
def becomeStale (id : Nat) (s : State) : State :=
  match entryOf s id with
  | none => s
  | some e => if staleDue s e then evalEntryOf id (setEntryState id .stale s) else s

/-- ENTRY_STALE (R64). -/
def execEntryStale (id : Nat) (s : State) : Host.Outcome State Fault Refusal := .next (event (becomeStale id) s)

/-- R65: the entry becomes LOST, with its notice and its releases. -/
def becomeLost (id : Nat) (s : State) : State :=
  match entryOf s id with
  | none => s
  | some e =>
    if lostDue s e then
      evalEntryOf id (releasePeer id (raise .neighbourLost (setEntryState id .lost s)))
    else s

/-- NEIGHBOUR_LOST (R65). -/
def execNeighbourLost (id : Nat) (s : State) : Host.Outcome State Fault Refusal := .next (event (becomeLost id) s)

/-- R69: UNTRACKED is due to be cleared. -/
def untrackedDue (s : State) : Bool := s.table.untracked && decide (beatsLong s 10 < s.table.untrackedAge)

/-- UNTRACKED_CLEAR (R69). -/
def execUntrackedClear (s : State) : Host.Outcome State Fault Refusal :=
  .next (event (fun s => if untrackedDue s then s.withTable { s.table with untracked := false } else s) s)

/-! ### NEIGHBOUR_READ (R72) -/

/-- R72: the reply of NEIGHBOUR_READ. -/
def neighbourReply (id : Nat) (s : State) : Reply :=
  if id = 0 then .okWith (layoutTable s.table)
  else if 30 < id then .err .badArg
  else .okWith (layoutEntry (entryOf s id))

/-- NEIGHBOUR_READ (R72). -/
def execNeighbourRead (id : Nat) (s : State) : Host.Outcome State Fault Refusal :=
  .next (readRequest (neighbourReply id) s)

end Sys2Proof.Machine
end

