-- ==== Sys2Proof/Machine/Records.lean ====
section
/-! DEFINITION. Changes of the store map's records: DISPUTED (R106), the station's own bookings (R116), a
peer's PICKED and PLACED (R117 to R123), the undermined target (R124), and MAP_WRITE's checks (R112). -/

namespace Sys2Proof.Machine

/-- R106: a slot becomes DISPUTED; it loses its contents and reservation, and an own reservation is handed to the
claim engine. A slot already DISPUTED stays as it is and raises nothing. -/
def makeDisputed (source : ChangeSource) (row column : Nat) (s : State) : State :=
  match slotAt s row column with
  | none => s
  | some r =>
    if r.content = .disputed then s
    else
      let s' := raise .disputed (setSlot row column { content := .disputed, source := source } s)
      match slotResv r.content with
      | none => s'
      | some v => if v.isOwn then ownRemoved (.slot row column) v s' else s'

/-- R120, R123: every slot but one that holds a coil as OCCUPIED or RESERVED_OUT becomes DISPUTED. -/
def searchCoil (coil : CoilId) (except : Option (Nat × Nat)) (source : ChangeSource) (s : State) : State :=
  (slotsHolding coil s).foldl
    (fun s p => if some p = except then s else makeDisputed source p.1 p.2 s) s

/-! ### The undermined target (R124) -/

/-- R124: an own RESERVED_IN upper slot with a lower slot beneath it that is not OCCUPIED is released to EMPTY and
handed to the claim engine as a removal. -/
def checkUpper (row column : Nat) (s : State) : State :=
  match contentAt s row column with
  | .reservedIn v =>
    if v.isOwn ∧ isUpper column ∧ ¬ bothLowersOccupied s row column then
      ownRemoved (.slot row column) v (setSlot row column { content := .empty, source := .own } s)
    else s
  | _ => s

/-- The slots whose records differ between two maps of one geometry. -/
def changedSlots (before s : State) : List (Nat × Nat) :=
  (before.map.zip s.map).zipIdx.filterMap fun (p, i) => if p.1 = p.2 then none else some (refOfIndex s i)

/-- The upper slots that rest on a slot. -/
def restingOn (s : State) (p : Nat × Nat) : List (Nat × Nat) :=
  match s.cfg.geometry with
  | none => []
  | some g => (uppersOn g p.2).map fun k => (p.1, k)

/-- R124: after the changes of a PICKED or PLACED, the upper slots resting on each slot whose record has changed and the
slot named are checked (DEDUCED, assumption 50). -/
def checkUndermined (before : State) (named : Ref) (s : State) : State :=
  let resting := (changedSlots before s).flatMap (restingOn s)
  let named := match named with
    | .slot row column => [(row, column)]
    | .cradle _ _ => []
  (named ++ resting).foldl (fun s p => checkUpper p.1 p.2 s) s

/-! ### The station's own bookings (R116) -/

/-- R116, take-out of a source RESERVED_OUT by the station: it becomes RESERVED_IN with its reservation kept, or
DISPUTED where an upper slot resting on it is OCCUPIED or RESERVED_OUT. In that case the reservation is removed after
the lift: a RELEASE names it and the task is not told (R142, R155; assumption 11). -/
def takeOutSlot (row column : Nat) (v : Reservation) (s : State) : State :=
  if coveredByCoil s row column then
    askRelease { round := v.round, refs := [.slot row column] }
      (dropFromRound (.slot row column)
        (raise .disputed (setSlot row column { content := .disputed, source := .own } s)))
  else setSlot row column { content := .reservedIn v, source := .own } s

/-- R116, put-in and return: a slot RESERVED_IN by the station becomes OCCUPIED and the reservation ends; any other
slot becomes or stays DISPUTED, with own as its source (DEDUCED, assumption 27). No search is made for the coil in other
records (DESIGN CHOICE, assumption 58). -/
def putInSlot (row column : Nat) (c : CoilInfo) (s : State) : State :=
  match ownResvAt s (.slot row column), contentAt s row column with
  | some _, .reservedIn _ =>
    dropFromRound (.slot row column) (setSlot row column { content := .occupied c, source := .own } s)
  | _, .disputed => setSlot row column { content := .disputed, source := .own } s
  | _, _ => makeDisputed .own row column s

/-! ### Peers' reports (R117 to R123) -/

/-- R111: the coil is held by the station's hook record or an OCCUPIED cradle. -/
def heldElsewhere (coil : CoilId) (s : State) : Bool := onHook coil s || inCradles coil s

/-- R119, R140: a reservation that the sender's PICKED can match. -/
def Reservation.matchesPicked (p n : Nat) (v : Reservation) : Bool :=
  decide (v.holder = .peer p) && (decide (v.phase = .held) || decide (v.round = n))

/-- R119, R120: a PICKED that passed R118 applied to the slot it names (DEDUCED, assumption 26). -/
def pickSlot (p n row column : Nat) (coil : CoilId) (r : SlotRecord) (s : State) : State :=
  match r.content with
  | .reservedOut _ v =>
    if v.matchesPicked p n then
      setSlot row column { content := .reservedIn { v with round := n, phase := .held }, source := .peer p } s
    else makeDisputed (.peer p) row column s
  | .reservedIn v =>
    if v.matchesPicked p n then setSlot row column { r with content := .reservedIn { v with round := n } } s
    else makeDisputed (.peer p) row column s
  | .occupied c =>
    if c.coil = coil ∧ mayReserve s p then
      setSlot row column
        { content := .reservedIn { holder := .peer p, round := n, priority := 0, phase := .held, since := s.clock.now },
          source := .peer p } s
    else setSlot row column { content := .empty, source := .peer p } s
  | .unknown => setSlot row column { content := .empty, source := .peer p } s
  | .empty | .disputed | .closed => s

/-- R117 to R120: a peer's PICKED (DEDUCED, assumption 28). The slot it names is dealt with before those the search finds
(DESIGN CHOICE, assumption 59). -/
def applyPicked (p n row column : Nat) (coil : CoilId) (s : State) : State :=
  match slotAt s row column with
  | none => searchCoil coil none (.peer p) s
  | some r =>
    if heldElsewhere coil s then
      match ownResvAt s (.slot row column) with
      | some _ => raise .disputed s
      | none => makeDisputed (.peer p) row column s
    else
      searchCoil coil (some (row, column)) (.peer p)
        (if coveredByCoil s row column then makeDisputed (.peer p) row column s
         else pickSlot p n row column coil r s)

/-- R121: the release step of a PLACED. -/
def releaseStep (p n : Nat) (s : State) : State :=
  releaseWhere (fun v => decide (v.holder = .peer p) && decide (v.round = n)) (.peer p) s

/-- R122: a test by which a PLACED makes the slot DISPUTED. -/
def placedConflict (row column : Nat) (coil : CoilId) (c : SlotContent) (s : State) : Bool :=
  heldElsewhere coil s || overNothing s row column || (slotResv c).isSome || decide (c = .closed)

/-- R117, R122, R123: the placement of a peer's PLACED in a slot, after the release step; the slot it names is dealt with
before those the search finds (DESIGN CHOICE, assumption 59). -/
def applyPlacedSlot (p row column : Nat) (c : CoilInfo) (s : State) : State :=
  match slotAt s row column with
  | none => searchCoil c.coil none (.peer p) s
  | some r =>
    if placedConflict row column c.coil r.content s then makeDisputed (.peer p) row column s
    else
      searchCoil c.coil (some (row, column)) (.peer p)
        (setSlot row column { content := .occupied c, source := .peer p } s)

/-! ### MAP_WRITE's checks (R112) -/

/-- The content a MAP_WRITE asks for: states UNKNOWN 0, EMPTY 1, OCCUPIED 3 and CLOSED 6; an OCCUPIED write needs a
coil identifier (assumption 12), and any other ignores the coil, weight and width sent (DESIGN CHOICE, assumption 61). -/
def writtenContent (state : Nat) (coil : Option CoilId) (weight width : Option Nat) : Option SlotContent :=
  match state, coil with
  | 0, _ => some .unknown
  | 1, _ => some .empty
  | 3, some c => some (.occupied { coil := c, weight := weight, width := width })
  | 6, _ => some .closed
  | _, _ => none

/-- R112: the result would break the law of R107. -/
def breaksTier (s : State) (row column : Nat) (c : SlotContent) : Bool :=
  match c with
  | .occupied _ => overNothing s row column
  | .empty => coveredByCoil s row column
  | _ => false

/-- R112: the coil of an OCCUPIED write is present in another record. -/
def breaksUnique (s : State) (row column : Nat) (c : SlotContent) : Bool :=
  match c with
  | .occupied i => heldElsewhere i.coil s || (slotsHolding i.coil s).any fun p => decide (p ≠ (row, column))
  | _ => false

end Sys2Proof.Machine
end

