-- ==== Sys2Proof/Machine/TruckOps.lean ====
section
/-! DEFINITION. Changes of the truck records: the record made (R179), its reservations removed (R181), a
placement with the reactions and the over-limit flag (R186 to R189). -/

namespace Sys2Proof.Machine

/-- R179: the record made from clamped values. -/
def makeTruck (truckRef announcer : Nat) (o : Orientation) (t : Trailer) (offsets : List Nat) : Truck :=
  { closed := false
    truckRef := truckRef
    announcer := announcer
    orientation := o
    trailer := t
    cradles := offsets.map fun x => { offset := x, content := .free }
    K := t.K0
    A := t.A0
    overLimit := false }

/-- The own reservations of a bay's record, with their cradle numbers. -/
def ownCradleResvs (s : State) (bay : Nat) : List (Nat × Reservation) :=
  match bayRecord s bay with
  | none => []
  | some t => t.cradles.zipIdx.filterMap fun (k, i) =>
      match cradleResv k.content with
      | some v => if v.isOwn then some (i, v) else none
      | none => none

/-- R181: the reservations of a record are removed, and the own ones handed to the claim engine. -/
def removeBayReservations (bay : Nat) (s : State) : State :=
  let owns := ownCradleResvs s bay
  let s := match bayRecord s bay with
    | none => s
    | some t => setBay bay (some { t with
        cradles := t.cradles.map fun k => { k with content := k.content.release } }) s
  owns.foldl (fun s p => ownRemoved (.cradle bay p.1) p.2 s) s

/-- R187: a record is over its limits. -/
def Truck.isOver (t : Truck) : Bool :=
  decide ((t.trailer.Kmax : Int) < t.K) || decide ((t.trailer.Amax : Int) < t.A) ||
  decide ((t.trailer.Gmax : Int) < t.K + t.A) || decide (t.K < t.trailer.Kmin)

/-- R186, R187: a coil placed in a cradle of a record: the reactions change and the flag is judged. -/
def Truck.place (t : Truck) (index offset : Nat) (coil : CoilId) (weight : Nat) (placer : Holder) : Truck :=
  let t := { t.setCradle index (.occupied coil weight placer) with
    K := t.K + frontShare t.trailer.L weight offset
    A := t.A + rearShare t.trailer.L weight offset }
  { t with overLimit := t.isOver }

/-- A placement in a cradle of a bay; TRUCK_OVER is raised where it leaves the flag set (R187). -/
def placeInCradle (bay index : Nat) (coil : CoilId) (weight : Nat) (placer : Holder) (s : State) : State :=
  match bayRecord s bay, cradleAt s bay index with
  | some t, some k =>
    let t' := t.place index k.offset coil weight placer
    let s := setBay bay (some t') s
    if t'.overLimit then raise .truckOver s else s
  | _, _ => s

/-- R188: the station's own put-in to a cradle, by the state of the cradle, with no search for the coil in other records
(DESIGN CHOICE, assumption 58). -/
def ownPlacement (bay index : Nat) (coil : CoilId) (weight : Nat) (s : State) : State :=
  match cradleAt s bay index with
  | none => raise .truckConflict s
  | some k =>
    match k.content with
    | .occupied _ _ _ => raise .truckConflict s
    | .free => raise .truckConflict (placeInCradle bay index coil weight .own s)
    | .reserved v =>
      if v.isOwn then dropFromRound (.cradle bay index) (placeInCradle bay index coil weight .own s)
      else raise .truckConflict (placeInCradle bay index coil weight .own s)

/-- R189: the tests by which a peer's placement is not applied. -/
def peerPlacementFails (s : State) (bay index : Nat) (coil : CoilId) : Bool :=
  (bayItem s.cfg bay).isNone || heldElsewhere coil s ||
  match cradleAt s bay index with
  | none => true
  | some k =>
    match k.content with
    | .occupied _ _ _ => true
    | _ => false

/-- R189: a peer's placement on a cradle, after the release step and the map's search. -/
def peerPlacement (p bay index : Nat) (coil : CoilId) (weight : Nat) (s : State) : State :=
  if peerPlacementFails s bay index coil then raise .truckConflict s
  else
    let s' := match ownResvAt s (.cradle bay index) with
      | none => s
      | some v => ownRemoved (.cradle bay index) v (setCradle bay index .free s)
    placeInCradle bay index coil weight (.peer p) s'

/-- R180: a record whose every field equals the frame's clamped values. -/
def Truck.sameAs (t : Truck) (truckRef : Nat) (o : Orientation) (tr : Trailer) (offsets : List Nat) : Bool :=
  decide (t.truckRef = truckRef) && decide (t.orientation = o) && decide (t.trailer = tr) &&
  decide (t.cradles.map Cradle.offset = offsets)

/-- R180: a record has an OCCUPIED cradle. -/
def Truck.anyOccupied (t : Truck) : Bool :=
  t.cradles.any fun k => match k.content with
    | .occupied _ _ _ => true
    | _ => false

/-- R184: a record has a RESERVED cradle. -/
def Truck.anyReserved (t : Truck) : Bool := t.cradles.any fun k => (cradleResv k.content).isSome

end Sys2Proof.Machine
end

