-- ==== Sys2Proof/Machine/Bookings.lean ====
section
/-! DEFINITION. The task tracker's bookings and its judging of LIFT and SET_DOWN (R149 to R164, R169). -/

namespace Sys2Proof.Machine

/-- R33: the verify service: a pass when the magnitude of N − E is no more than floor(E ÷ 32) + 5. -/
def verifyPasses (expected : Option Nat) (measured : Nat) : Bool :=
  match expected with
  | none => false
  | some E => decide (magnitude ((measured : Int) - E) ≤ floorDiv E 32 + 5)

/-- The BOOK mailbox is full (R47). -/
def bookFull (s : State) : Bool := s.link.boxes.book.isSome

/-- A frame is queued into the BOOK mailbox (R47). -/
def queueBook (f : BookFrame) (s : State) : State := setBoxes { s.link.boxes with book := some f } s

/-- The weight the part has measured for the task; a booking follows a LIFT, which sets it (R149). -/
def Task.measuredWeight (t : Task) : Nat := t.measured.getD 0

/-- R155: a take-out that finds the source no longer held ends the task in ABORTED with reason SOURCE_LOST. -/
def sourceLost (s : State) : State := enterTerminal .aborted (some .sourceLost) .aborted (hookUnknown s)

/-- R155: the records of a take-out: the PICKED is queued, the coil leaves the slot for the hook. -/
def takeOutRecords (t : Task) (v : Reservation) (s : State) : State :=
  let s := takeOutSlot t.sourceRow t.sourceColumn v (queueBook (.picked v.round t.source t.coil) s)
  setHook (s.tracker.hook.map fun h => { h with coil := some t.coil, width := t.width }) s

/-- R155: the task's next state after a take-out, by the verify service and the target. -/
def afterTakeOut (t : Task) (s : State) : State :=
  let enter (st : TaskState) (s : State) := updateTask (fun t => { t with state := st, waiting := none }) s
  if verifyPasses t.weight t.measuredWeight then
    match t.target with
    | some _ => enter .toTarget s
    | none => raise .targetLost (enter .targetLost s)
  else raise .weightMismatch (enter .verifyHold s)

/-- R155: the take-out booking, made when the BOOK mailbox is empty. -/
def takeOut (t : Task) (s : State) : State :=
  match ownResvAt s t.source, contentAt s t.sourceRow t.sourceColumn with
  | some v, .reservedOut _ _ => afterTakeOut t (takeOutRecords t v s)
  | _, _ => sourceLost s

/-- R154, R156: the take-out is booked, or waits for the BOOK mailbox (R169). -/
def bookTakeOut (t : Task) (s : State) : State :=
  if bookFull s then updateTask (fun t => { t with waiting := some .takeOut }) s else takeOut t s

/-- R168: a cancel in LIFT_PENDING makes the take-out without the verify service, releases any target and enters
RETURNING. Where the source is no longer held the task ends as R155 gives, its target absent with its release (DEDUCED,
assumption 51). -/
def cancelTakeOut (t : Task) (s : State) : State :=
  match ownResvAt s t.source, contentAt s t.sourceRow t.sourceColumn with
  | some v, .reservedOut _ _ =>
    updateTask (fun t => { t with target := none, state := .returning }) (releaseTarget (takeOutRecords t v s))
  | _, _ => sourceLost (updateTask (fun t => { t with target := none }) s)

/-- The round number a PLACED carries: that of the reference's own reservation, or the task's (R159, R160). -/
def placedRound (t : Task) (ref : Ref) (s : State) : Nat :=
  match ownResvAt s ref with
  | some v => v.round
  | none => t.round

/-- R159: the put-in at the target: a slot by R116, a cradle by R188. -/
def putInAt (t : Task) (ref : Ref) (s : State) : State :=
  match ref with
  | .slot row column => putInSlot row column { coil := t.coil, weight := some t.measuredWeight, width := t.width } s
  | .cradle bay index => ownPlacement bay index t.coil t.measuredWeight s

/-- R159: the put-in booking, made when the BOOK mailbox is empty; the task enters DONE. -/
def putIn (t : Task) (s : State) : State :=
  match t.target with
  | none => s
  | some ref =>
    enterTerminal .done none .taskDone
      (putInAt t ref (queueBook (.placed (placedRound t ref s) ref t.coil t.measuredWeight t.width) s))

/-- R158, R159: the put-in is booked, or waits in PLACE_PENDING (R169). -/
def bookPutIn (t : Task) (s : State) : State :=
  if bookFull s then updateTask (fun t => { t with state := .placePending, waiting := some .putIn }) s
  else putIn t s

/-- R160: the return booking, made when the BOOK mailbox is empty; the task enters CANCELLED, RETURNED. -/
def returnIn (t : Task) (s : State) : State :=
  enterTerminal .cancelled (some .returned) .cancelled
    (putInSlot t.sourceRow t.sourceColumn { coil := t.coil, weight := some t.measuredWeight, width := t.width }
      (queueBook (.placed (placedRound t t.source s) t.source t.coil t.measuredWeight t.width) s))

/-- R160: a return at a SET_DOWN within the source window. -/
def startReturn (t : Task) (s : State) : State :=
  let s := if t.state = .retargeting then abandonRound s else releaseTarget s
  let s := updateTask (fun t => { t with target := none }) s
  if bookFull s then updateTask (fun t => { t with state := .placePending, waiting := some .returnIn }) s
  else returnIn t s

/-! ### LIFT (R154, R161, R162, R164) -/

/-- The hook takes origin unknown and a weight, with no coil identifier, and HOOK_UNKNOWN is raised (R162, R164). -/
def liftUnknown (n : Nat) (s : State) : State :=
  raise .hookUnknown (setHook (some { coil := none, weight := n, width := none, origin := .unknown }) s)

/-- R162: a wrong lift ends the task in ABORTED. -/
def wrongLift (reason : Reason) (n : Nat) (s : State) : State :=
  enterTerminal .aborted (some reason) .aborted
    (liftUnknown n (updateTask (fun t => { t with measured := some n }) s))

/-- R154: a lift at the source is taken into the task. -/
def liftAtSource (mode : BookMode) (n : Nat) (s : State) : State :=
  let s := updateTask (fun t => { t with measured := some n }) s
  let s := setHook (some { coil := none, weight := n, width := none, origin := .task }) s
  match mode, s.tracker.task with
  | .auto, some t => bookTakeOut t s
  | .manual, _ => raise .liftPending (updateTask (fun t => { t with state := .liftPending }) s)
  | _, none => s

/-- R161: the place set down into: the source for a waiting return, the target for a put-in. -/
def pendingPlace (t : Task) : Option Ref := if t.waiting = some .returnIn then some t.source else t.target

/-- R161: a lift back up before the booking has been made. -/
def liftBack (t : Task) (s : State) : State :=
  let s := setHook (some { coil := some t.coil, weight := t.measuredWeight, width := t.width, origin := .task }) s
  let st : TaskState := if t.waiting = some .returnIn then .returning else .toTarget
  updateTask (fun t => { t with state := st, waiting := none }) s

/-- R151: the hook point lies within the window of a reference, if there is one. -/
def hookOverSome (s : State) (ref : Option Ref) : Bool :=
  match ref with
  | none => false
  | some r => hookOver s r

/-- A LIFT with its stable net, judged by the task state and the hook point (section 8.3). In the states in which
the load state is already LOADED no LIFT reaches the tracker (DEDUCED, assumption 32). -/
def onLift (n : Nat) (s : State) : State :=
  match s.tracker.task with
  | none => liftUnknown n s
  | some t =>
    match t.state with
    | .done | .cancelled | .claimLost | .aborted => liftUnknown n s
    | .claiming => wrongLift .earlyLift n (abandonRound s)
    | .toSource =>
      if hookOver s t.source then liftAtSource s.cfg.bookMode n s else wrongLift .wrongLift n s
    | .placePending =>
      if hookOverSome s (pendingPlace t) then liftBack t s else wrongLift .wrongLift n s
    | .liftPending | .verifyHold | .toTarget | .targetLost | .retargeting | .returning => s

/-! ### SET_DOWN (R156, R158, R160, R163, R164) -/

/-- R163: a wrong set-down ends the task in ABORTED. -/
def wrongSetDown (t : Task) (s : State) : State :=
  enterTerminal .aborted (some .wrongSetdown) .aborted (if t.state = .retargeting then abandonRound s else s)

/-- R156, R169: a set-down at the source undoes a lift that was never booked. -/
def undoLift (s : State) : State :=
  updateTask (fun t => { t with state := .toSource, measured := none, waiting := none }) s

/-- R158: a set-down at the target. -/
def setDownAtTarget (mode : BookMode) (t : Task) (s : State) : State :=
  match mode with
  | .auto => bookPutIn t s
  | .manual => raise .placePending (updateTask (fun t => { t with state := .placePending }) s)

/-- A SET_DOWN judged by the task state and the hook point. The hook record is cleared in every case (R150)
(DEDUCED, assumption 32). -/
def onSetDown (s : State) : State :=
  let origin := s.tracker.hook.map Hook.origin
  let s := setHook none s
  match s.tracker.task with
  | none => if origin = some .unknown then raise .hookUnknown s else s
  | some t =>
    match t.state with
    | .done | .cancelled | .claimLost | .aborted =>
      if origin = some .unknown then raise .hookUnknown s else s
    | .toSource =>
      if t.waiting = some .takeOut then
        if hookOver s t.source then undoLift s else wrongSetDown t s
      else s
    | .liftPending => if hookOver s t.source then undoLift s else wrongSetDown t s
    | .verifyHold | .targetLost | .retargeting | .returning =>
      if hookOver s t.source then startReturn t s else wrongSetDown t s
    | .toTarget =>
      if hookOverTarget s t then setDownAtTarget s.cfg.bookMode t s
      else if hookOver s t.source then startReturn t s
      else wrongSetDown t s
    | .claiming | .placePending => s

end Sys2Proof.Machine
end

