-- ==== Sys2Proof/Machine/Weighing.lean ====
section
/-! DEFINITION. The weighing unit: conversions, weights, the net window, load state and conditions (R16 to R34). -/

namespace Sys2Proof.Machine

/-! ### Conversions (R17 to R20) -/

/-- R17: the coarse code of an input. -/
def coarseCode (input : Int) : Nat := (clampInt 0 1023 (floorDiv input 16)).toNat

/-- R17: the coarse value of a code. -/
def coarseValue (code : Nat) : Nat := code * 16 + 8

/-- R18: the base of the fine window chosen from a coarse value. -/
def windowBase (wc : Nat) : Nat :=
  let step := wc / 1024
  if wc - step * 1024 < 512 then step - 1 else if step = 15 then 14 else step

/-- R19: the fine result of an input in a window. -/
def fineResult (input : Int) (base : Nat) : Nat := (clampInt 0 1023 (floorDiv (input - base * 1024) 2)).toNat

/-- R19: the channel value of a cycle; a fine rail falls back to the coarse value. -/
def channelValue (code : Nat) (input : Int) : Nat :=
  let a := windowBase (coarseValue code)
  let f := fineResult input a
  if f = 0 ∨ f = 1023 then coarseValue code else a * 1024 + 2 * f

/-- R20: the weight of a channel value. -/
def channelWeight (w fs : Nat) : Nat := (w * fs + 8192) / 16384

/-! ### Channel faults (R30) -/

/-- R30: a coarse code on a rail. -/
def onRail (code : Nat) : Bool := decide (code = 0) || decide (code = 1023)

/-- R30: a channel enters CHANNEL_FAULT at this coarse code. -/
def entersFault (code : Nat) (c : Channel) : Bool := !c.fault && onRail code && decide (5 ≤ c.railRun + 1)

/-- R30: the runs and the fault state of a channel after a coarse code. -/
def faultStep (code : Nat) (c : Channel) : Channel :=
  if c.fault then
    if onRail code then { c with clearRun := 0 }
    else if 5 ≤ c.clearRun + 1 then { c with fault := false, clearRun := 0 }
    else { c with clearRun := c.clearRun + 1 }
  else
    if onRail code then
      if 5 ≤ c.railRun + 1 then { c with fault := true, railRun := 0, clearRun := 0 }
      else { c with railRun := c.railRun + 1 }
    else { c with railRun := 0 }

/-- R16 to R20, R30: one channel in a cycle. -/
def convertChannel (fs : Nat) (coarseIn fineIn : Int) (c : Channel) : Channel :=
  let code := coarseCode coarseIn
  let value := channelValue code fineIn
  { faultStep code c with
    input := fineIn, coarse := code, value := value, weight := channelWeight value fs }

/-! ### Gross, net and window (R21, R23, R24) -/

/-- R30: either channel is in CHANNEL_FAULT. -/
def WeighingUnit.faulted (w : WeighingUnit) : Bool := w.a.fault || w.b.fault

/-- R23: the window with a new value, the oldest of nine removed. -/
def appendNet (net : Int) (window : List Int) : List Int :=
  let next := window ++ [net]
  if 8 < next.length then next.tail else next

/-- R23: the largest value of the window less the smallest. -/
def spread : List Int → Int
  | [] => 0
  | n :: ns => ns.foldl max n - ns.foldl min n

/-- R23: the window is stable. -/
def windowStable (band : Nat) (window : List Int) : Bool :=
  decide (window.length = 8) && decide (spread window ≤ band)

/-- R24: the mean of the eight values, a half rounding up. -/
def windowMean (window : List Int) : Int := floorDiv (window.sum + 4) 8

/-- R22, R30: the net window is emptied and the stable net becomes absent. -/
def WeighingUnit.emptyWindow (w : WeighingUnit) : WeighingUnit := { w with window := [], stableNet := none }

/-- R21: the gross and the net, invalid while a channel is faulted. -/
def formNet (tare : Nat) (w : WeighingUnit) : WeighingUnit :=
  let gross := w.a.weight + w.b.weight
  { w with gross := gross, net := if w.faulted then none else some ((gross : Int) - tare) }

/-- R23, R24: the window, the stable net and the last stable net. -/
def judgeWindow (band : Nat) (w : WeighingUnit) : WeighingUnit :=
  match w.net with
  | none => { w with stableNet := none }
  | some net =>
    let window := appendNet net w.window
    if windowStable band window then
      { w with window := window, stableNet := some (windowMean window), lastStable := some (windowMean window) }
    else { w with window := window, stableNet := none }

/-! ### The load-state event (R25 to R27) -/

/-- What a cycle hands to the task tracker. -/
inductive LoadEvent where
  | lift (weight : Int)
  | setDown
  deriving DecidableEq, Repr

/-- R25 to R27: the event of a cycle. While a channel is faulted there is no stable net, hence no event. -/
def loadEvent (lift release : Nat) (w : WeighingUnit) : Option LoadEvent :=
  match w.stableNet, w.load with
  | some n, .unloaded => if (lift : Int) ≤ n then some (.lift n) else none
  | some n, .loaded => if n ≤ (release : Int) then some .setDown else none
  | none, _ => none

/-- R25, R26: the load state after an event. -/
def loadAfter (e : Option LoadEvent) (l : LoadState) : LoadState :=
  match e with
  | some (.lift _) => .loaded
  | some .setDown => .unloaded
  | none => l

/-! ### OVERLOAD and SLACK (R28, R29) -/

/-- A condition after one judged cycle: a set run counted up to `setAt` while clear, a clear run counted up to
`clearAt` while set, and both runs cleared at a change of the state (R28, R29). -/
def Condition.judge (setAt clearAt : Nat) (sets clears : Bool) (c : Condition) : Condition :=
  if c.set then
    if clears then
      if clearAt ≤ c.clearRun + 1 then { set := false, setRun := 0, clearRun := 0 }
      else { c with clearRun := c.clearRun + 1 }
    else { c with clearRun := 0 }
  else
    if sets then
      if setAt ≤ c.setRun + 1 then { set := true, setRun := 0, clearRun := 0 }
      else { c with setRun := c.setRun + 1 }
    else { c with setRun := 0 }

/-- R28, R29: a condition held through a faulted cycle. -/
def Condition.hold (c : Condition) : Condition := { c with setRun := 0, clearRun := 0 }

/-- R28: the overload level. -/
def overloadLevel (c : Cfg) : Nat := c.ratedLoad * c.overloadPercent / 100

/-- R28: OVERLOAD after a cycle. -/
def overloadStep (c : Cfg) (w : WeighingUnit) : Condition :=
  if w.faulted then w.overload.hold
  else w.overload.judge 3 8 (decide (overloadLevel c ≤ w.gross)) (decide (w.gross < c.ratedLoad))

/-- R29: SLACK after a cycle. -/
def slackStep (c : Cfg) (w : WeighingUnit) : Condition :=
  match w.net with
  | none => w.slack.hold
  | some net =>
    w.slack.judge 3 3 (decide (net ≤ -(c.slackThreshold : Int))) (decide (-(c.slackThreshold : Int) < net))

/-! ### The cycle (R16, R34) -/

/-- A notice raised where a condition of the step holds. -/
def raiseIf (b : Bool) (n : Notice) (s : State) : State := if b then raise n s else s

/-- R16: the weighing unit after a cycle, but for the load state. -/
def weighStep (c : Cfg) (coarseA fineA coarseB fineB : Int) (w : WeighingUnit) : WeighingUnit :=
  let entered := entersFault (coarseCode coarseA) w.a || entersFault (coarseCode coarseB) w.b
  let w := { w with
    a := convertChannel c.fsA coarseA fineA w.a
    b := convertChannel c.fsB coarseB fineB w.b
    cycleElapsed := 0 }
  judgeWindow c.stabilityBand (formNet c.tare (if entered then w.emptyWindow else w))

/-- R16, R25 to R29: the load state and the two conditions after the window has been judged. -/
def judgeLoad (c : Cfg) (w : WeighingUnit) : WeighingUnit :=
  { w with
    load := loadAfter (loadEvent c.liftThreshold c.releaseThreshold w) w.load
    overload := overloadStep c w
    slack := slackStep c w }

/-- R34: the event of a cycle is handed to the task tracker. The measured weight of a LIFT is not negative, since it
is at least the lift threshold (R25). -/
def handLoadEvent (e : Option LoadEvent) (s : State) : State :=
  match e with
  | some (.lift n) => onLift n.toNat s
  | some .setDown => onSetDown s
  | none => s

/-- R16: the weighing cycle with the input at each of its four conversions. -/
def weighingCycle (coarseA fineA coarseB fineB : Int) (s : State) : State :=
  let w := s.weigh
  let judged := weighStep s.cfg coarseA fineA coarseB fineB w
  let after := judgeLoad s.cfg judged
  let e := loadEvent s.cfg.liftThreshold s.cfg.releaseThreshold judged
  let s := s.withWeigh after
  let s := raiseIf (entersFault (coarseCode coarseA) w.a) .channelFault s
  let s := raiseIf (entersFault (coarseCode coarseB) w.b) .channelFault s
  let s := raiseIf (!w.overload.set && after.overload.set) .overload s
  let s := raiseIf (!w.slack.set && after.slack.set) .slack s
  handLoadEvent e s

/-- WEIGHING_CYCLE (R16). -/
def execWeighingCycle (coarseA fineA coarseB fineB : Int) (s : State) : Host.Outcome State Fault Refusal :=
  .next (event (weighingCycle coarseA fineA coarseB fineB) s)

/-! ### ZERO_SET (R32) -/

/-- R32: the weighing unit with every net moved by the old tare less the new one. -/
def WeighingUnit.moveNets (by_ : Int) (w : WeighingUnit) : WeighingUnit :=
  { w with
    window := w.window.map fun n => n + by_
    stableNet := w.stableNet.map fun n => n + by_
    lastStable := w.stableNet.map fun n => n + by_ }

/-- R32: the body of ZERO_SET. -/
def zeroSet (s : State) : State × Reply :=
  match s.weigh.load, s.weigh.stableNet with
  | .unloaded, some n =>
    let tare := (clampInt 0 1000 (n + s.cfg.tare)).toNat
    let moved := s.weigh.moveNets ((s.cfg.tare : Int) - tare)
    ((s.withWeigh moved).withCfg { s.cfg with tare := tare }, .okWith (be 2 tare))
  | _, _ => (s, .err .notStable)

/-- ZERO_SET (R32). -/
def execZeroSet (s : State) : Host.Outcome State Fault Refusal := .next (request zeroSet s)

end Sys2Proof.Machine
end

