-- ==== Sys2Proof/Machine/CfgStore.lean ====
section
/-! DEFINITION. The configuration store: the items of section 10.3, CFG_WRITE and its rows, CFG_READ, and the zone
table's ZONE_WRITE and ZONE_ENABLE (R22, R76, R87, R88, R103, R175, R202 to R206). -/

namespace Sys2Proof.Machine

/-! ### The table of items (section 10.3) -/

/-- The numeric items that hold one value, with their range and the bytes of the value (sections 10.2, 10.3). The
beat (item 2) has its own rounding, the bookkeeping mode (item 38) is a named value. -/
def scalarRange : Nat → Option (Nat × Nat × Nat)
  | 1 => some (1, 30, 1)
  | 2 => some (50, 200, 4)
  | 3 => some (100, 1000, 4)
  | 4 => some (100, 4000, 2)
  | 5 | 6 | 7 => some (50, 2000, 2)
  | 8 => some (0, 2000, 4)
  | 9 => some (200, 5000, 2)
  | 10 => some (500, 10000, 2)
  | 11 => some (0, 500, 2)
  | 12 => some (1000, 20000, 2)
  | 13 | 14 => some (0, 20000, 2)
  | 15 | 16 => some (0, 400000, 4)
  | 17 | 18 => some (0, 60000, 2)
  | 19 | 20 => some (0, 40000, 2)
  | 21 | 22 | 23 => some (1, 65535, 2)
  | 26 => some (10, 500, 2)
  | 27 | 28 => some (200, 6000, 2)
  | 29 => some (0, 1000, 2)
  | 30 => some (100, 12000, 2)
  | 31 => some (100, 125, 2)
  | 32 => some (10, 2000, 2)
  | 33 => some (5, 1999, 2)
  | 34 => some (1, 50, 2)
  | 35 => some (10, 500, 2)
  | 36 | 37 => some (0, 3000, 2)
  | 38 => some (0, 1, 1)
  | 40 => some (50, 2000, 2)
  | 43 => some (50, 2000, 2)
  | _ => none

/-- The value of a one-value item as stored. -/
def getScalar (c : Cfg) : Nat → Nat
  | 1 => c.stationId.getD 0
  | 2 => c.beat
  | 3 => c.claimWindow
  | 4 => c.vmax
  | 5 => c.aBridge
  | 6 => c.aTrolley
  | 7 => c.aHoist
  | 8 => c.tReact
  | 9 => c.margin
  | 10 => c.slowBand
  | 11 => c.hysteresis
  | 12 => c.lostDriftCap
  | 13 => c.plusExtent
  | 14 => c.minusExtent
  | 15 => c.runwayMin
  | 16 => c.runwayMax
  | 17 => c.trolleyMin
  | 18 => c.trolleyMax
  | 19 => c.hoistBottom
  | 20 => c.hoistTop
  | 21 => c.scaleBridge
  | 22 => c.scaleTrolley
  | 23 => c.scaleHoist
  | 26 => c.tolerance
  | 27 => c.fsA
  | 28 => c.fsB
  | 29 => c.tare
  | 30 => c.ratedLoad
  | 31 => c.overloadPercent
  | 32 => c.liftThreshold
  | 33 => c.releaseThreshold
  | 34 => c.stabilityBand
  | 35 => c.slackThreshold
  | 36 => c.radiusLoaded
  | 37 => c.radiusUnloaded
  | 38 => c.bookMode.code
  | 40 => c.slotWindow
  | 43 => c.cradleWindow
  | _ => 0

/-- The bookkeeping mode of a code (item 38). -/
def bookModeOf (v : Nat) : BookMode := if v = 0 then .auto else .manual

/-- R22: the lift threshold written, with the release threshold kept below it. -/
def writeLift (v : Nat) (c : Cfg) : Cfg :=
  { c with liftThreshold := v, releaseThreshold := if v ≤ c.releaseThreshold then v - 1 else c.releaseThreshold }

/-- A one-value item written with a value inside its range. The pairs are kept in order: the thresholds by R22, the
axis limits by R76. -/
def setScalar (item v : Nat) (c : Cfg) : Cfg :=
  match item with
  | 1 => { c with stationId := some v }
  | 2 => { c with beat := v }
  | 3 => { c with claimWindow := v }
  | 4 => { c with vmax := v }
  | 5 => { c with aBridge := v }
  | 6 => { c with aTrolley := v }
  | 7 => { c with aHoist := v }
  | 8 => { c with tReact := v }
  | 9 => { c with margin := v }
  | 10 => { c with slowBand := v }
  | 11 => { c with hysteresis := v }
  | 12 => { c with lostDriftCap := v }
  | 13 => { c with plusExtent := v }
  | 14 => { c with minusExtent := v }
  | 15 => { c with runwayMin := min v c.runwayMax }
  | 16 => { c with runwayMax := max v c.runwayMin }
  | 17 => { c with trolleyMin := min v c.trolleyMax }
  | 18 => { c with trolleyMax := max v c.trolleyMin }
  | 19 => { c with hoistBottom := min v c.hoistTop }
  | 20 => { c with hoistTop := max v c.hoistBottom }
  | 21 => { c with scaleBridge := v }
  | 22 => { c with scaleTrolley := v }
  | 23 => { c with scaleHoist := v }
  | 26 => { c with tolerance := v }
  | 27 => { c with fsA := v }
  | 28 => { c with fsB := v }
  | 29 => { c with tare := v }
  | 30 => { c with ratedLoad := v }
  | 31 => { c with overloadPercent := v }
  | 32 => writeLift v c
  | 33 => { c with releaseThreshold := min v (c.liftThreshold - 1) }
  | 34 => { c with stabilityBand := v }
  | 35 => { c with slackThreshold := v }
  | 36 => { c with radiusLoaded := v }
  | 37 => { c with radiusUnloaded := v }
  | 38 => { c with bookMode := bookModeOf v }
  | 40 => { c with slotWindow := v }
  | 43 => { c with cradleWindow := v }
  | _ => c

/-- R202: a numeric value clamped to its range, and the beat set to the nearest of its three values. -/
def clampScalar (item : Nat) (range : Nat × Nat × Nat) (v : Nat) : Nat :=
  if item = 2 then clampBeat v else clampNat range.1 range.2.1 v

/-- The items 1 to 43 of the table. -/
def itemListed (item : Nat) : Bool := decide (1 ≤ item) && decide (item ≤ 43)

/-- The items of the zone table. -/
def isZoneItem (item : Nat) : Bool := decide (64 ≤ item) && decide (item ≤ 79)

/-- How many values an item carries (R200); a mark list carries as many as its count, a zone item the values of a
ZONE_WRITE after its index (section 10.2). -/
def shapeFits (item : Nat) (values : List Nat) : Bool :=
  match item with
  | 24 | 25 => true
  | 39 => decide (values.length = 6)
  | 41 | 42 => decide (values.length = 3)
  | _ => decide (values.length = if isZoneItem item then 9 else 1)

/-- R202: a named value outside its list, or a mark count above 4. -/
def namedValueBad (item : Nat) (values : List Nat) : Bool :=
  match item, values with
  | 38, [v] => decide (1 < v)
  | 41, [_, _, o] => decide (1 < o)
  | 42, [_, _, o] => decide (1 < o)
  | 24, vs => decide (4 < vs.length)
  | 25, vs => decide (4 < vs.length)
  | _, _ => false

/-- R103: the last row lies beyond 400,000 mm or the last column beyond 60,000 mm. -/
def geometryTooLarge (g : Geometry) : Bool :=
  decide (400000 < g.rowBase + (g.rows - 1) * g.rowPitch) ||
  decide (60000 < g.posBase + (2 * g.lower - 2) * g.posPitch / 2)

/-- The six values of item 39 in the order of section 6.1, clamped (R103). -/
def geometryOf : List Nat → Option Geometry
  | [rows, lower, rowBase, rowPitch, posBase, posPitch] =>
    some (clampGeometry { rows := rows, lower := lower, rowBase := rowBase, rowPitch := rowPitch, posBase := posBase,
                          posPitch := posPitch })
  | _ => none

/-- R202, third check: the refusal of the store geometry. -/
def geometryRefused (item : Nat) (values : List Nat) : Bool :=
  match item, geometryOf values with
  | 39, some g => geometryTooLarge g
  | _, _ => false

/-- R175: a bay item written, its two positions clamped. -/
def bayItemOf : List Nat → Option BayItem
  | [kingpin, line, o] =>
    some { kingpin := clampNat 0 400000 kingpin, line := clampNat 0 60000 line,
           orientation := if o = 0 then .plus else .minus }
  | _ => none

/-! ### What a write does (R22, R76, R103, R175, R203, R204) -/

/-- R58: the RELEASE, BOOK and TRUCK mailboxes and the held release requests are emptied. -/
def emptyKeptBoxes (s : State) : State :=
  (setBoxes { s.link.boxes with release := none, book := none, truck := none } s).withClaims
    { s.claims with heldRequests := [] }

/-- R203: the station identifier written. -/
def writeStationId (v : Nat) (s : State) : State :=
  let s' := s.withCfg { s.cfg with stationId := some v }
  let s' := if s.cfg.stationId = some v then s' else emptyKeptBoxes s'
  takeFarewell v s'

/-- R103: the geometry written; a change of any value makes the map anew and empties the kept mailboxes. -/
def writeGeometry (g : Geometry) (s : State) : State :=
  if s.cfg.geometry = some g then s
  else
    emptyKeptBoxes ((s.withCfg { s.cfg with geometry := some g }).withMap
      (List.replicate (g.rows * columns g) { content := .unknown, source := .own }))

/-- R22: an item whose write empties the net window. -/
def emptiesWindow (item : Nat) : Bool := decide (item = 27) || decide (item = 28) || decide (item = 29)

/-- R76: an item of the permission unit, whose write evaluates every neighbour entry again (R81). -/
def isPermissionItem (item : Nat) : Bool :=
  (decide (4 ≤ item) && decide (item ≤ 20)) || decide (item = 36) || decide (item = 37)

/-- A one-value item written, with what follows from it at once. -/
def writeScalar (item v : Nat) (s : State) : State :=
  if item = 1 then writeStationId v s
  else
    let s := s.withCfg (setScalar item v s.cfg)
    let s := if emptiesWindow item then s.withWeigh s.weigh.emptyWindow else s
    if isPermissionItem item then evalEntries s else s

/-- A checked item written with its values clamped (R202). -/
def writeItem (item : Nat) (values : List Nat) (s : State) : State :=
  match scalarRange item with
  | some range => writeScalar item (clampScalar item range (values.headD 0)) s
  | none =>
    match item with
    | 24 => s.withCfg { s.cfg with marksBridge := values.map (clampNat 0 400000) }
    | 25 => s.withCfg { s.cfg with marksTrolley := values.map (clampNat 0 60000) }
    | 39 =>
      match geometryOf values with
      | none => s
      | some g => writeGeometry g s
    | 41 => s.withCfg { s.cfg with bay0 := bayItemOf values }
    | 42 => s.withCfg { s.cfg with bay1 := bayItemOf values }
    | _ => s

/-! ### The values as stored (sections 10.2, 10.3) -/

/-- The values of the store geometry, in the order of section 6.1. -/
def layoutGeometry (g : Geometry) : List Byte :=
  be 1 g.rows ++ be 1 g.lower ++ be 4 g.rowBase ++ be 2 g.rowPitch ++ be 2 g.posBase ++ be 2 g.posPitch

/-- The values of a bay item. -/
def layoutBayItem (b : BayItem) : List Byte := be 4 b.kingpin ++ be 2 b.line ++ be 1 (orientationCode b.orientation)

/-- A mark list: its count and that many positions. -/
def layoutMarks (n : Nat) (marks : List Nat) : List Byte := be 1 marks.length ++ (marks.map (be n)).flatten

/-- The values of an item as stored; an item that has not been written is none (R205). -/
def storedValues (item : Nat) (c : Cfg) : Option (List Byte) :=
  match item with
  | 1 => c.stationId.map (be 1)
  | 24 => some (layoutMarks 4 c.marksBridge)
  | 25 => some (layoutMarks 2 c.marksTrolley)
  | 39 => c.geometry.map layoutGeometry
  | 41 => c.bay0.map layoutBayItem
  | 42 => c.bay1.map layoutBayItem
  | _ =>
    match scalarRange item with
    | some range => some (be range.2.2 (getScalar c item))
    | none => none

/-- The number of bytes of an item that can be unset. -/
def unsetBytes (item : Nat) : Nat :=
  match item with
  | 1 => 1
  | 39 => 12
  | 41 | 42 => 7
  | _ => 0

/-! ### CFG_WRITE (R200, R202) -/

/-- The body of every write of one configuration item (R200, R202) (DEDUCED, assumption 40). -/
def cfgWriteBody (item : Nat) (values : List Nat) (s : State) : State × Reply :=
  if (itemListed item || isZoneItem item) && !shapeFits item values then (s, .err .badArg)
  else if s.link.state ≠ .config then (s, .err .badState)
  else if !itemListed item || namedValueBad item values || geometryRefused item values then (s, .err .badArg)
  else
    let s' := writeItem item values s
    (s', .okWith ((storedValues item s'.cfg).getD []))

/-- CFG_WRITE (R202). -/
def execCfgWrite (item : Nat) (values : List Nat) (s : State) : Host.Outcome State Fault Refusal :=
  .next (request (cfgWriteBody item values) s)

/-- CFG_WRITE of the station identifier (R203). -/
def execCfgWriteStationId (value : Nat) (s : State) : Host.Outcome State Fault Refusal :=
  .next (request (cfgWriteBody 1 [value]) s)

/-- CFG_WRITE of the beat (R204). -/
def execCfgWriteBeat (value : Nat) (s : State) : Host.Outcome State Fault Refusal :=
  .next (request (cfgWriteBody 2 [value]) s)

/-- CFG_WRITE of the store geometry (R103). -/
def execCfgWriteGeometry (g : Geometry) (s : State) : Host.Outcome State Fault Refusal :=
  .next (request (cfgWriteBody 39 [g.rows, g.lower, g.rowBase, g.rowPitch, g.posBase, g.posPitch]) s)

/-- The number of a weighing item (items 27 to 35). -/
def weighItemNumber : WeighItem → Nat
  | .fsA => 27 | .fsB => 28 | .tare => 29 | .ratedLoad => 30 | .overloadPercent => 31 | .liftThreshold => 32
  | .releaseThreshold => 33 | .stabilityBand => 34 | .slackThreshold => 35

/-- CFG_WRITE of a weighing item (R22). -/
def execCfgWriteWeighing (item : WeighItem) (value : Nat) (s : State) : Host.Outcome State Fault Refusal :=
  .next (request (cfgWriteBody (weighItemNumber item) [value]) s)

/-- CFG_WRITE of a bay item; a bay above 1 names no item of the table (R175, R202) (DEDUCED, assumption 41). -/
def execCfgWriteBay (bay kingpin line orientation : Nat) (s : State) : Host.Outcome State Fault Refusal :=
  .next (request (cfgWriteBody (if bay ≤ 1 then 41 + bay else 0) [kingpin, line, orientation]) s)

/-! ### CFG_READ (R205) -/

/-- R205: the reply of CFG_READ. -/
def cfgReply (item : Nat) (s : State) : Reply :=
  if s.link.state ≠ .config then .err .badState
  else if isZoneItem item then
    match s.perm.zones[item - 64]? with
    | none => .err .badArg
    | some z => .okWith (be 1 1 ++ layoutZone z.entry)
  else if itemListed item then
    match storedValues item s.cfg with
    | some bytes => .okWith (be 1 1 ++ bytes)
    | none => .okWith (be 1 0 ++ be (unsetBytes item) 0)
  else .err .badArg

/-- CFG_READ (R205). -/
def execCfgRead (item : Nat) (s : State) : Host.Outcome State Fault Refusal := .next (readRequest (cfgReply item) s)

/-! ### The zone table and the switches (R87, R88) -/

/-- The zone kind of a code (section 5.9). -/
def zoneKindOf : Nat → Option ZoneKind
  | 0 => some .keepOut
  | 1 => some .loadedKeepOut
  | 2 => some .clearance
  | 3 => some .slowArea
  | _ => none

/-- The condition of a code and a number (R87). -/
def zoneCondOf (condition number : Nat) : Option ZoneCond :=
  match condition with
  | 0 => some .always
  | 1 => if number ≤ 7 then some (.switch number) else none
  | 2 => if number ≤ 1 then some (.truck number) else none
  | _ => none

/-- R87: the entry a ZONE_WRITE makes, if its kind, condition and rectangle are good. A clearance height is held for
CLEARANCE only, and any other kind holds 0 (DESIGN CHOICE, assumption 57). The rectangle's order is judged on the
coordinates as sent, before they are clamped (DESIGN CHOICE, assumption 47). -/
def zoneOf (z : ZoneArgs) : Option ZoneEntry :=
  match zoneKindOf z.kind, zoneCondOf z.condition z.number with
  | some kind, some cond =>
    if z.bridgeMax < z.bridgeMin ∨ z.trolleyMax < z.trolleyMin then none
    else some
      { valid := decide (z.valid = 1)
        bridgeMin := clampNat 0 400000 z.bridgeMin
        bridgeMax := clampNat 0 400000 z.bridgeMax
        trolleyMin := clampNat 0 60000 z.trolleyMin
        trolleyMax := clampNat 0 60000 z.trolleyMax
        kind := kind
        clearance := if kind = .clearance then clampNat 0 40000 z.clearance else 0
        cond := cond }
  | _, _ => none

/-- R87, R94: the entry replaces the whole zone and sets its held levels to FULL. -/
def setZone (index : Nat) (e : ZoneEntry) (s : State) : State :=
  s.withPerm { s.perm with zones := s.perm.zones.set index (Zone.fresh e) }

/-- R87: the body of ZONE_WRITE. A valid flag above 1 is refused by the port first (R200, assumption 17). -/
def zoneWrite (index : Nat) (z : ZoneArgs) (s : State) : State × Reply :=
  if 1 < z.valid then (s, .err .badArg)
  else if s.link.state ≠ .config then (s, .err .badState)
  else if 15 < index then (s, .err .badArg)
  else
    match zoneOf z with
    | none => (s, .err .badArg)
    | some e => (setZone index e s, .okWith [])

/-- ZONE_WRITE (R87). -/
def execZoneWrite (index : Nat) (z : ZoneArgs) (s : State) : Host.Outcome State Fault Refusal :=
  .next (request (zoneWrite index z) s)

/-- R88: the switches after a ZONE_ENABLE: those of the change mask take the on mask's bits. -/
def switchesAfter (switches change on : BitVec 8) : BitVec 8 := (switches &&& ~~~change) ||| (on &&& change)

/-- R88: the body of ZONE_ENABLE; a change mask of 0 is accepted and changes nothing (DESIGN CHOICE, assumption 53). -/
def zoneEnable (change on : BitVec 8) (s : State) : State × Reply :=
  let switches := switchesAfter s.perm.switches change on
  (s.withPerm { s.perm with switches := switches }, .okWith (be 1 switches.toNat))

/-- ZONE_ENABLE (R88). -/
def execZoneEnable (change on : BitVec 8) (s : State) : Host.Outcome State Fault Refusal :=
  .next (request (zoneEnable change on) s)

end Sys2Proof.Machine
end

