-- ==== Sys2Proof/Decode.lean ====
section
/-! DEFINITION. The request a port transaction carries (R196, R200, section 10.2), and the host's question about the
words of the opcode table, whose rows give no bits. -/

namespace Sys2Proof

open Sys2Proof.Machine

/-! ### Fields of a payload -/

/-- A payload cut into fields of given widths in bytes; none where its length is not theirs (R200). -/
def splitFields : List Nat → List Byte → Option (List Nat)
  | [], [] => some []
  | [], _ :: _ => none
  | w :: ws, bs => if bs.length < w then none else (splitFields ws (bs.drop w)).map (beValue (bs.take w) :: ·)

/-- A reference of three bytes; a mark above 1 is none (R200). -/
def refOfFields (mark a b : Nat) : Option Ref :=
  match mark with
  | 0 => some (.slot a b)
  | 1 => some (.cradle a b)
  | _ => none

/-- A field with its presence byte; a presence byte above 1 is none (R200). The bytes of an absent field are ignored where
they are not zeros (DESIGN CHOICE, assumption 61). -/
def presentField (presence v : Nat) : Option (Option Nat) :=
  match presence with
  | 0 => some none
  | 1 => some (some v)
  | _ => none

/-- A command, or the refused request where there is none (R200). -/
def orUnknown (i : Option Instr) : Instr := i.getD .unknownRequest

/-! ### CFG_WRITE -/

/-- The weighing item of a number (items 27 to 35). -/
def weighItemOf : Nat → Option WeighItem
  | 27 => some .fsA
  | 28 => some .fsB
  | 29 => some .tare
  | 30 => some .ratedLoad
  | 31 => some .overloadPercent
  | 32 => some .liftThreshold
  | 33 => some .releaseThreshold
  | 34 => some .stabilityBand
  | 35 => some .slackThreshold
  | _ => none

/-- A mark list: a count and that many positions of n bytes. -/
def marksOfPayload (item n : Nat) (bs : List Byte) : Option Instr :=
  match bs with
  | [] => none
  | count :: rest => (splitFields (List.replicate count.toNat n) rest).map (Instr.cfgWrite item)

/-- A CFG_WRITE of a zone item: the ZONE_WRITE payload after its index (section 10.2), which R202 refuses by its item. -/
def zoneItemWrite (item : Nat) (bs : List Byte) : Option Instr :=
  (splitFields [1, 4, 4, 2, 2, 1, 2, 1, 1] bs).map (Instr.cfgWrite item)

/-- A CFG_WRITE of an item that holds one value, of a zone item, or of an item outside the table, which has no length to
check and meets its own rule (R202; assumption 40). -/
def scalarWrite (item : Nat) (bs : List Byte) : Option Instr :=
  match scalarRange item with
  | none => if isZoneItem item then zoneItemWrite item bs else some (.cfgWrite item [])
  | some range =>
    match splitFields [range.2.2] bs with
    | some [v] =>
      match item, weighItemOf item with
      | 1, _ => some (.cfgWriteStationId v)
      | 2, _ => some (.cfgWriteBeat v)
      | _, some w => some (.cfgWriteWeighing w v)
      | _, none => some (.cfgWrite item [v])
    | _ => none

/-- A CFG_WRITE by its item. -/
def cfgWriteOf (item : Nat) (bs : List Byte) : Option Instr :=
  match item with
  | 24 => marksOfPayload 24 4 bs
  | 25 => marksOfPayload 25 2 bs
  | 39 =>
    match splitFields [1, 1, 4, 2, 2, 2] bs with
    | some [rows, lower, rowBase, rowPitch, posBase, posPitch] =>
      some (.cfgWriteGeometry { rows := rows, lower := lower, rowBase := rowBase, rowPitch := rowPitch,
                                posBase := posBase, posPitch := posPitch })
    | _ => none
  | 41 =>
    match splitFields [4, 2, 1] bs with
    | some [k, l, o] => some (.cfgWriteBay 0 k l o)
    | _ => none
  | 42 =>
    match splitFields [4, 2, 1] bs with
    | some [k, l, o] => some (.cfgWriteBay 1 k l o)
    | _ => none
  | _ => scalarWrite item bs

/-! ### The other requests -/

/-- ZONE_WRITE. -/
def zoneWriteOf (bs : List Byte) : Option Instr :=
  match splitFields [1, 1, 4, 4, 2, 2, 1, 2, 1, 1] bs with
  | some [index, valid, b0, b1, t0, t1, kind, clearance, condition, number] =>
    some (.zoneWrite index { valid := valid, bridgeMin := b0, bridgeMax := b1, trolleyMin := t0, trolleyMax := t1,
                             kind := kind, clearance := clearance, condition := condition, number := number })
  | _ => none

/-- MAP_WRITE. -/
def mapWriteOf (bs : List Byte) : Option Instr :=
  match splitFields [1, 1, 1, 1, 1, 4, 1, 2, 1, 1] bs with
  | some [mark, a, b, state, hasCoil, coil, hasWeight, weight, hasWidth, width] =>
    match refOfFields mark a b, presentField hasCoil coil, presentField hasWeight weight, presentField hasWidth width with
    | some ref, some coil, some weight, some width =>
      some (.mapWrite ref state (coil.map (BitVec.ofNat 32)) weight width)
    | _, _, _, _ => none
  | _ => none

/-- A request whose payload is one reference. -/
def refRequestOf (f : Ref → Instr) (bs : List Byte) : Option Instr :=
  match splitFields [1, 1, 1] bs with
  | some [mark, a, b] => (refOfFields mark a b).map f
  | _ => none

/-- TASK_START. -/
def taskStartOf (bs : List Byte) : Option Instr :=
  match splitFields [2, 1, 1, 1, 1, 1, 1, 1, 4, 1] bs with
  | some [id, kind, m, a, b, m', a', b', coil, priority] =>
    match refOfFields m a b, refOfFields m' a' b' with
    | some source, some target => some (.taskStart id kind source target (BitVec.ofNat 32 coil) priority)
    | _, _ => none
  | _ => none

/-- TRUCK_ARRIVE, whose length depends on its cradle count. -/
def truckArriveOf (bs : List Byte) : Option Instr :=
  match splitFields [1, 2, 1, 2, 2, 2, 2, 2, 2, 2, 1] (bs.take 19) with
  | some [bay, truckRef, o, l, k0, a0, kmax, amax, gmax, kmin, count] =>
    (splitFields (List.replicate count 2) (bs.drop 19)).map
      (Instr.truckArrive bay truckRef o { L := l, K0 := k0, A0 := a0, Kmax := kmax, Amax := amax, Gmax := gmax,
                                          Kmin := kmin })
  | _ => none

/-- A request with an empty payload. -/
def emptyOf (i : Instr) (bs : List Byte) : Option Instr := if bs.isEmpty then some i else none

/-- A request whose payload is one field of n bytes. -/
def oneFieldOf (n : Nat) (f : Nat → Instr) (bs : List Byte) : Option Instr :=
  match splitFields [n] bs with
  | some [v] => some (f v)
  | _ => none

/-- POS_REFERENCE. -/
def posReferenceOf (bs : List Byte) : Option Instr :=
  match splitFields [1, 4] bs with
  | some [axis, position] => some (.posReference axis position)
  | _ => none

/-- ZONE_ENABLE. -/
def zoneEnableOf (bs : List Byte) : Option Instr :=
  match splitFields [1, 1] bs with
  | some [change, on] => some (.zoneEnable (BitVec.ofNat 8 change) (BitVec.ofNat 8 on))
  | _ => none

/-- NOTICE_ENABLE. -/
def noticeEnableOf (bs : List Byte) : Option Instr :=
  match splitFields [4, 1, 1] bs with
  | some [sources, groups, global] =>
    some (.noticeEnable (BitVec.ofNat 32 sources) (BitVec.ofNat 8 groups) global)
  | _ => none

/-- CFG_WRITE. -/
def cfgRequestOf (bs : List Byte) : Option Instr :=
  match bs with
  | [] => none
  | item :: values => cfgWriteOf item.toNat values

/-- The request of a code and its payload (section 10.2); none is a code not in the table, a wrong length or a value
outside its list (R200). -/
def requestOf (code : Nat) (bs : List Byte) : Option Instr :=
  match code with
  | 0x01 => cfgRequestOf bs
  | 0x02 => oneFieldOf 1 .cfgRead bs
  | 0x03 => zoneWriteOf bs
  | 0x04 => emptyOf .join bs
  | 0x05 => emptyOf .leave bs
  | 0x06 => emptyOf .restart bs
  | 0x10 => posReferenceOf bs
  | 0x11 => emptyOf .zeroSet bs
  | 0x12 => zoneEnableOf bs
  | 0x13 => emptyOf .stateRead bs
  | 0x20 => mapWriteOf bs
  | 0x21 => refRequestOf .mapRead bs
  | 0x22 => oneFieldOf 4 (fun v => .mapFind (BitVec.ofNat 32 v)) bs
  | 0x30 => taskStartOf bs
  | 0x31 => emptyOf .taskConfirm bs
  | 0x32 => emptyOf .taskCancel bs
  | 0x33 => refRequestOf .taskRetarget bs
  | 0x34 => emptyOf .taskRead bs
  | 0x40 => truckArriveOf bs
  | 0x41 => oneFieldOf 1 .truckClose bs
  | 0x42 => oneFieldOf 1 .truckDepart bs
  | 0x43 => oneFieldOf 1 .truckRead bs
  | 0x50 => oneFieldOf 1 .neighbourRead bs
  | 0x51 => oneFieldOf 1 .neighbourDrop bs
  | 0x60 => emptyOf .noticeRead bs
  | 0x61 => oneFieldOf 4 (fun v => .noticeClear (BitVec.ofNat 32 v)) bs
  | 0x62 => noticeEnableOf bs
  | _ => none

/-- R196: the request of a transaction. One that is not three bytes and its length, that ends in a partial byte or
whose length is above 255 is refused with BAD_ARG. -/
def decodeRequest (t : Transaction) : Instr :=
  match t.bytes with
  | code :: hi :: lo :: payload =>
    if t.partialByte ∨ 255 < beValue [hi, lo] ∨ payload.length ≠ beValue [hi, lo] then .unknownRequest
    else orUnknown (requestOf code.toNat payload)
  | _ => .unknownRequest

/-- The command a word of the opcode table spells. No row of the table gives any bits, so no word spells one
(DEDUCED, assumption 33). -/
def decodeTableWord (_nbits _w : Nat) : Option Instr := none

end Sys2Proof
end

