-- ==== Sys2Proof/Machine/Claims.lean ====
section
/-! DEFINITION. The claim engine's frames and steps: peers' CLAIM, OBJECT and RELEASE, the claim window, and the held
release requests (R134, R138 to R145). -/

namespace Sys2Proof.Machine

/-! ### CLAIM (R138, R139) -/

/-- R138: an OBJECT against one reference of a frame. -/
def objectTo (sender round : Nat) (ref : Ref) (s : State) : State :=
  askObject { claimant := sender, round := round, ref := ref } s

/-- R138, R147: the loss of one reference of a round to a peer's claim. -/
def outranked (r : Round) (ref : Ref) (s : State) : State :=
  if r.purpose = .reassert then lateObjection .outranked ref s else loseRound .outranked s

/-- R138: one reference of a peer's CLAIM that the station itself holds. -/
def meetOwn (sender round priority : Nat) (ref : Ref) (v : Reservation) (s : State) : State :=
  match v.phase with
  | .held => objectTo sender round ref s
  | .pending =>
    match s.claims.round with
    | none => s
    | some r =>
      if v.round = r.number then
        if keyBeats priority sender r.priority (ownId s) then outranked r ref s else objectTo sender round ref s
      else s

/-- R138: every reference of the frame, in its order (DESIGN CHOICE, assumption 59). -/
def meetOwns (sender round priority : Nat) (entries : List ClaimEntry) (s : State) : State :=
  entries.foldl (fun s e =>
    match ownResvAt s e.ref with
    | none => s
    | some v => meetOwn sender round priority e.ref v s) s

/-- R139: the reservation recorded for a peer. -/
def peerReservation (sender round priority : Nat) (s : State) : Reservation :=
  { holder := .peer sender, round := round, priority := priority, phase := .pending, since := s.clock.now }

/-- R139: a cradle takes claims only in a LOADING record; a slot has no such condition. -/
def takesClaims (s : State) : Ref → Bool
  | .slot _ _ => true
  | .cradle bay _ =>
    match bayRecord s bay with
    | none => false
    | some t => !t.closed

/-- R139: the recording of one reference. One already reserved by the sender is refreshed and keeps its state; one not
reserved takes the reservation where its state fits (DEDUCED, assumption 36). -/
def recordClaim (sender round priority : Nat) (e : ClaimEntry) (s : State) : State :=
  let v := peerReservation sender round priority s
  match resvAt s e.ref with
  | some w => if w.holder = .peer sender then updateResv (fun _ => v) e.ref s else s
  | none => if takesClaims s e.ref then reserveRef e.dir v (.peer sender) e.ref s else s

/-- R138, R139: a peer's CLAIM. -/
def takeClaim (sender round priority : Nat) (entries : List ClaimEntry) (s : State) : State :=
  let s := meetOwns sender round priority entries s
  if mayReserve s sender then entries.foldl (fun s e => recordClaim sender round priority e s) s else s

/-- CLAIM_RECEIVED (R52, R138). -/
def execClaimReceived (sender round priority : Nat) (entries : List ClaimEntry) (s : State) :
    Host.Outcome State Fault Refusal :=
  .next (event (receiveFrame sender (claimOk priority entries) true (takeClaim sender round priority entries)) s)

/-! ### OBJECT (R141, R142) -/

/-- R141: whether the current round has a number and holds a reference. -/
def roundHolds (r : Round) (n : Nat) (ref : Ref) : Bool :=
  decide (r.number = n) && r.entries.any fun e => e.ref == ref

/-- R141, R142: an objection against a reference held HELD under a round. -/
def lateObject (n : Nat) (ref : Ref) (s : State) : State :=
  match ownResvAt s ref with
  | none => s
  | some v => if v.phase = .held ∧ v.round = n then lateObjection .objected ref s else s

/-- R141: an OBJECT naming the station. -/
def takeObject (n : Nat) (ref : Ref) (s : State) : State :=
  match s.claims.round with
  | none => lateObject n ref s
  | some r =>
    if roundHolds r n ref then
      if r.purpose = .reassert then lateObjection .objected ref s else loseRound .objected s
    else lateObject n ref s

/-- OBJECT_RECEIVED (R52, R141). -/
def execObjectReceived (sender claimant round : Nat) (ref : Ref) (s : State) : Host.Outcome State Fault Refusal :=
  .next (event (receiveFrame sender (refOnLine ref) false fun s =>
    if claimant = ownId s then takeObject round ref s else s) s)

/-! ### RELEASE (R143) -/

/-- R143: a peer's RELEASE. -/
def takeRelease (p n : Nat) (refs : List Ref) (s : State) : State :=
  refs.foldl (fun s ref =>
    releaseRef (fun v => decide (v.holder = .peer p) && decide (v.round = n)) (.peer p) ref s) s

/-- RELEASE_RECEIVED (R52, R143). -/
def execReleaseReceived (sender round : Nat) (refs : List Ref) (s : State) : Host.Outcome State Fault Refusal :=
  .next (event (receiveFrame sender (releaseOk refs) false (takeRelease sender round refs)) s)

/-! ### The claim window (R134, R140) -/

/-- R134: the window of the current round has expired. -/
def windowDue (s : State) : Bool :=
  match s.claims.round with
  | none => false
  | some r => decide (r.stage = .opened) && decide (s.cfg.claimWindow ≤ r.windowTime)

/-- R134: the expiry of the window of the current round. -/
def expireWindow (s : State) : State :=
  match s.claims.round with
  | none => s
  | some r => if windowDue s then windowExpired r s else s

/-- CLAIM_WINDOW_EXPIRY (R134). -/
def execClaimWindowExpiry (s : State) : Host.Outcome State Fault Refusal := .next (event expireWindow s)

/-- R140: a peer's reservation is PENDING and the claim window has passed since its reserved-since time. -/
def heldDue (s : State) (v : Reservation) : Bool :=
  !v.isOwn && decide (v.phase = .pending) && decide (s.cfg.claimWindow ≤ (s.clock.now - v.since).toNat)

/-- R140: a peer's reservation becomes HELD; no source of last change is set. -/
def holdPeer (ref : Ref) (s : State) : State :=
  match resvAt s ref with
  | none => s
  | some v => if heldDue s v then updateResv (fun v => { v with phase := .held }) ref s else s

/-- PEER_RESERVATION_HELD (R140). -/
def execPeerReservationHeld (ref : Ref) (s : State) : Host.Outcome State Fault Refusal := .next (event (holdPeer ref) s)

/-! ### The held release requests (R145) -/

/-- R145: held requests are put again, oldest first, until one is not taken. -/
def putHeld : List ReleaseFrame → State → State
  | [], s => s.withClaims { s.claims with heldRequests := [] }
  | f :: fs, s =>
    match putRelease f s with
    | some s' => putHeld fs s'
    | none => s.withClaims { s.claims with heldRequests := f :: fs }

/-- R145: the RELEASE mailbox is empty while requests are held. -/
def retryDue (s : State) : Bool := s.link.boxes.release.isNone && !s.claims.heldRequests.isEmpty

/-- RELEASE_REQUEST_RETRY (R145). -/
def execReleaseRequestRetry (s : State) : Host.Outcome State Fault Refusal :=
  .next (event (fun s => if retryDue s then putHeld s.claims.heldRequests s else s) s)

end Sys2Proof.Machine
end

