-- ==== Sys2Proof/Machine/Clock.lean ====
section
/-! DEFINITION. What a step does on an empty queue: the rows that follow at once from the state are put into the queue,
or else the internal 1 ms tick passes and the rows that have fallen due are (assumption 1). -/

namespace Sys2Proof.Machine

/-! ### The order of commands that come together -/

/-- An element put into a list at a place counted from the front; beyond its end at the end. -/
def insertAt {α : Type} (x : α) : Nat → List α → List α
  | 0, xs => x :: xs
  | _ + 1, [] => [x]
  | n + 1, y :: ys => y :: insertAt x n ys

/-- The arrangement of a list that a number codes: every arrangement has a code. -/
def arrange {α : Type} : List α → Nat → List α
  | [], _ => []
  | [x], _ => [x]
  | x :: y :: ys, k => insertAt x (k % (ys.length + 2)) (arrange (y :: ys) (k / (ys.length + 2)))

/-! ### Rows that follow at once -/

/-- The request in the request buffer, taken next (R197). -/
def bufferedRequest (s : State) : List Instr :=
  match s.port.request with
  | none => []
  | some t => [decodeRequest t]

/-- A command where a condition holds. -/
def when (b : Bool) (i : Instr) : List Instr := if b then [i] else []

/-- R169: the waiting booking is due: the BOOK mailbox is empty. -/
def bookingDue (s : State) : Bool :=
  !bookFull s && match s.tracker.task with
    | none => false
    | some t => t.waiting.isSome

/-- R44: the composition put off is due: its attempt has ended. -/
def deferredDue (s : State) : Bool := s.link.statusDeferred && decide (s.link.sending ≠ some .status)

/-- The rows that follow at once from the state, with no time passing between (R44, R56, R145, R169, R197). -/
def followUps (s : State) : List Instr :=
  bufferedRequest s ++ when (deferredDue s) .deferredStatusCompose ++ when (farewellDue s) .farewellCompose
    ++ when (retryDue s) .releaseRequestRetry ++ when (bookingDue s) .bookingResumed

/-! ### The tick -/

/-- An age after a tick, which stops at 65,535 (R64, R69). -/
def ageTick (n : Nat) : Nat := min 65535 (n + 1)

/-- The table's ages after a tick (R64, R69). -/
def NeighbourTable.tick (t : NeighbourTable) : NeighbourTable :=
  { t with
    entries := t.entries.map fun e => { e with age := ageTick e.age }
    untrackedAge := if t.untracked then ageTick t.untrackedAge else t.untrackedAge }

/-- The window time of an OPEN round after a tick, no more than the claim window (R134) (DESIGN CHOICE, assumption 43). -/
def roundTick (window : Nat) (r : Round) : Round :=
  match r.stage with
  | .queued => r
  | .opened => { r with windowTime := min window (r.windowTime + 1) }

/-- The internal 1 ms tick: the tick count, the ages, the window time and the three periods go on by one. -/
def tick (s : State) : State :=
  let s := s.withClock { s.clock with now := s.clock.now + 1 }
  let s := s.withTable s.table.tick
  let s := s.withClaims { s.claims with round := s.claims.round.map (roundTick s.cfg.claimWindow) }
  let s := s.withPos { s.pos with sampleElapsed := s.pos.sampleElapsed + 1 }
  let s := s.withWeigh { s.weigh with cycleElapsed := s.weigh.cycleElapsed + 1 }
  s.withLink { s.link with beatElapsed := s.link.beatElapsed + 1 }

/-- The references whose peer reservations have been PENDING for the claim window (R140). -/
def heldDueRefs (s : State) : List Ref :=
  (s.map.zipIdx.filterMap fun (r, i) =>
    match slotResv r.content with
    | none => none
    | some v => if heldDue s v then some (Ref.slot (refOfIndex s i).1 (refOfIndex s i).2) else none)
  ++ [0, 1].flatMap fun bay =>
    match bayRecord s bay with
    | none => []
    | some t => t.cradles.zipIdx.filterMap fun (k, i) =>
        match cradleResv k.content with
        | none => none
        | some v => if heldDue s v then some (Ref.cradle bay i) else none

/-- The rows that have fallen due on the tick (R3, R16, R59, R64, R65, R69, R134, R140). A weighing cycle weighs the
inputs as they stand (assumption 4) (DESIGN CHOICE, assumption 35). -/
def dueRows (s : State) : List Instr :=
  ((s.table.entries.filter (lostDue s)).map fun e => .neighbourLost e.id)
    ++ ((s.table.entries.filter (staleDue s)).map fun e => .entryStale e.id)
    ++ when (untrackedDue s) .untrackedClear
    ++ when (windowDue s) .claimWindowExpiry
    ++ (heldDueRefs s).map .peerReservationHeld
    ++ when (decide (20 ≤ s.pos.sampleElapsed)) .positionSample
    ++ when (decide (10 ≤ s.weigh.cycleElapsed))
        (.weighingCycle s.weigh.a.input s.weigh.a.input s.weigh.b.input s.weigh.b.input)
    ++ when (decide (s.link.beatPeriod ≤ s.link.beatElapsed)) .beatExpiry

/-! ### The idle step -/

/-- Commands put into the queue in the order that the free value gives (assumption 2), and the count of idle steps. -/
def post (rows : List Instr) (s : State) : State :=
  (s.withPending (arrange rows (Config.tickOrder s.clock.idleCount))).withClock
    { s.clock with idleCount := s.clock.idleCount + 1 }

/-- A step on an empty queue. While the reset input is held nothing happens (R208). -/
def idle (s : State) : State :=
  if s.clock.resetHeld then s
  else if (followUps s).isEmpty then post (dueRows (tick s)) (tick s)
  else post (followUps s) s

end Sys2Proof.Machine
end

