-- ==== Sys2Proof/Machine/ControlPort.lean ====
section
/-! DEFINITION. The control port's transactions and the notice unit's requests (R196 to R201, R209 to R214). -/

namespace Sys2Proof.Machine

/-! ### Transactions (R196 to R199) -/

/-- The READ_REPLY code (section 10.2). -/
def readReplyCode : Byte := 0x80

/-- Bytes cut to a length, with zeros beyond their end (R199). -/
def zeroPadded (n : Nat) (bs : List Byte) : List Byte := bs.take n ++ List.replicate (n - bs.length) 0

/-- R199: what a reply read shifts out after its code byte: the held reply, or the no-reply mark. -/
def replyBytes (p : Port) : List Byte :=
  match p.reply with
  | none => noReply
  | some r => r.bytes

/-- R199: a reply read with a number of bytes clocked after its code. Nothing but the data output changes
(DESIGN CHOICE, assumption 34). -/
def readReply (clocks : Nat) (s : State) : State :=
  s.withPort { s.port with dataOut := zeroPadded clocks (replyBytes s.port) }

/-- READ_REPLY (R199). -/
def execReadReply (clocks : Nat) (s : State) : Host.Outcome State Fault Refusal :=
  .next (if s.clock.resetHeld then s else readReply clocks s)

/-- R197, R198: a request whose chip select rises: it is taken into the request buffer with READY low and any held
reply discarded; with READY already low it is discarded and PORT_OVERRUN is raised. The part shifts out zeros. -/
def requestRises (bytes : List Byte) (partialByte : Bool) (s : State) : State :=
  let zeros := List.replicate bytes.length (0 : Byte)
  if s.port.ready then
    s.withPort { ready := false, request := some { bytes := bytes, partialByte := partialByte }, reply := none,
                 dataOut := zeros }
  else driveAttn (raise .portOverrun (s.withPort { s.port with dataOut := zeros }))

/-- R196: a transaction, by its first whole byte. -/
def chipSelectRise (bytes : List Byte) (partialByte : Bool) (s : State) : State :=
  match bytes with
  | [] => s
  | code :: rest => if code = readReplyCode then readReply rest.length s else requestRises bytes partialByte s

/-- CHIP_SELECT_RISE (R196, R197). -/
def execChipSelectRise (bytes : List Byte) (partialByte : Bool) (s : State) : Host.Outcome State Fault Refusal :=
  .next (if s.clock.resetHeld then s else chipSelectRise bytes partialByte s)

/-- UNKNOWN_REQUEST (R196, R200): refused with BAD_ARG. -/
def execUnknownRequest (s : State) : Host.Outcome State Fault Refusal :=
  .next (readRequest (fun _ => .err .badArg) s)

/-- STATE_READ (R214). -/
def execStateRead (s : State) : Host.Outcome State Fault Refusal :=
  .next (readRequest (fun s => .okWith (layoutState s)) s)

/-! ### The notice unit's requests (R211 to R213) -/

/-- A request of the notice unit: nothing but the notice unit changes, and ATTN follows (R210). -/
def noticeRequest (body : NoticeUnit → NoticeUnit × Reply) (s : State) : State :=
  if s.clock.resetHeld then s
  else
    let p := body s.notices
    respond p.2 (driveAttn (s.withNotices p.1))

/-- R211: the flags and enables are given as they stand, and every group flag is cleared. -/
def noticeRead (n : NoticeUnit) : NoticeUnit × Reply := ({ n with groups := 0 }, .okWith (layoutNotices n))

/-- NOTICE_READ (R211). -/
def execNoticeRead (s : State) : Host.Outcome State Fault Refusal := .next (noticeRequest noticeRead s)

/-- Bits 30 and 31 of a source mask name nothing (section 10.5). -/
def unnamedSources : BitVec 32 := 0xC0000000

/-- Bits 6 and 7 of a group mask name nothing (section 10.5). -/
def unnamedGroups : BitVec 8 := 0xC0

/-- R212: the source flags named in the mask are cleared; the reply gives the flags after the clear. -/
def noticeClear (mask : BitVec 32) (n : NoticeUnit) : NoticeUnit × Reply :=
  if mask &&& unnamedSources = 0 then
    let sources := n.sources &&& ~~~mask
    ({ n with sources := sources }, .okWith (be 4 sources.toNat))
  else (n, .err .badArg)

/-- NOTICE_CLEAR (R212). -/
def execNoticeClear (mask : BitVec 32) (s : State) : Host.Outcome State Fault Refusal :=
  .next (noticeRequest (noticeClear mask) s)

/-- R213: the three enables are stored; no flag is set or cleared. -/
def noticeEnable (sources : BitVec 32) (groups : BitVec 8) (global : Nat) (n : NoticeUnit) : NoticeUnit × Reply :=
  if sources &&& unnamedSources = 0 ∧ groups &&& unnamedGroups = 0 ∧ global ≤ 1 then
    ({ n with sourceEnable := sources, groupEnable := groups, global := decide (global = 1) },
      .okWith (be 4 sources.toNat ++ be 1 groups.toNat ++ be 1 global))
  else (n, .err .badArg)

/-- NOTICE_ENABLE (R213). -/
def execNoticeEnable (sources : BitVec 32) (groups : BitVec 8) (global : Nat) (s : State) :
    Host.Outcome State Fault Refusal := .next (noticeRequest (noticeEnable sources groups global) s)

end Sys2Proof.Machine
end

