-- ==== Sys2Proof/Machine/Position.lean ====
section
/-! DEFINITION. The position unit: counting, samples, speeds, states, marks and referencing (R1 to R13, R77). -/

namespace Sys2Proof.Machine

/-- The axis record of a named axis. -/
def PositionUnit.axis (p : PositionUnit) : Axis → AxisUnit
  | .bridge => p.bridge
  | .trolley => p.trolley
  | .hoist => p.hoist

/-- The position unit with another record for one axis. -/
def PositionUnit.withAxis (p : PositionUnit) (a : Axis) (u : AxisUnit) : PositionUnit :=
  match a with
  | .bridge => { p with bridge := u }
  | .trolley => { p with trolley := u }
  | .hoist => { p with hoist := u }

/-- The upper bound of an axis range (00_scope, Units and ranges). -/
def axisMax : Axis → Nat
  | .bridge => 400000
  | .trolley => 60000
  | .hoist => 40000

/-- The encoder scale of an axis (items 21 to 23). -/
def scaleOf (c : Cfg) : Axis → Nat
  | .bridge => c.scaleBridge
  | .trolley => c.scaleTrolley
  | .hoist => c.scaleHoist

/-! ### Counting (R1) -/

/-- R1: the counter one up or one down, with wrap. -/
def stepCounter (up : Bool) (c : BitVec 32) : BitVec 32 := if up then c + 1 else c - 1

/-- R1: a level change of one line counts up where it leaves A leading B: the lines then go through 00, 10, 11, 01.
A change of A leads where the lines then differ, a change of B where they then agree (DEDUCED, assumption 14). -/
def countsUp (changedA a b : Bool) : Bool := if changedA then a != b else a == b

/-- R6, for a clamp, a jump or an encoder fault: the axis is SUSPECT and the remembered error is cleared. -/
def AxisUnit.suspect (u : AxisUnit) : AxisUnit := { u with state := .suspect, remembered := none }

/-- R6: POS_SUSPECT is raised on the entry to SUSPECT. -/
def raiseSuspect (before : PosState) (s : State) : State :=
  if before = .suspect then s else raise .posSuspect s

/-- The encoder pins of an axis take new levels. -/
def setLines (axis : Axis) (a b : Bool) (s : State) : State :=
  s.withPos (s.pos.withAxis axis { s.pos.axis axis with lineA := a, lineB := b })

/-- R1, R6: the effect of new levels of an encoder pair on its axis. -/
def encoderStep (axis : Axis) (a b : Bool) (s : State) : State :=
  let u := s.pos.axis axis
  let s := setLines axis a b s
  let v := s.pos.axis axis
  if u.lineA = a ∧ u.lineB = b then s
  else if u.lineA ≠ a ∧ u.lineB ≠ b then
    raiseSuspect u.state (s.withPos (s.pos.withAxis axis v.suspect))
  else
    s.withPos (s.pos.withAxis axis
      { v with counter := stepCounter (countsUp (decide (u.lineA ≠ a)) a b) u.counter })

/-- ENCODER_TRANSITION (R1). While the reset input is held only the pins follow (R208). -/
def execEncoderTransition (axis : Axis) (a b : Bool) (s : State) : Host.Outcome State Fault Refusal :=
  .next (if s.clock.resetHeld then setLines axis a b s else settle (encoderStep axis a b s))

/-! ### The position sample (R3 to R6, R77) -/

/-- R3: floor(count × scale ÷ 1,000). -/
def scaledCount (c : BitVec 32) (scale : Nat) : Int := floorDiv (c.toInt * scale) 1000

/-- R3: the raw position of an axis. -/
def rawPosition (u : AxisUnit) (scale : Nat) : Int := u.offset + scaledCount u.counter scale

/-- R4: the speed of two samples. -/
def sampleSpeed (current previous : Int) : Int := clampInt (-8000) 8000 ((current - previous) * 50)

/-- R5: the sample is a jump. -/
def isJump (vmax : Nat) (raw previous : Int) : Bool := decide ((vmax : Int) < magnitude (raw - previous) * 25)

/-- R3: the raw position lies outside the axis range. -/
def isClamped (axis : Axis) (raw : Int) : Bool := decide (raw < 0) || decide ((axisMax axis : Int) < raw)

/-- Whether an axis has a speed in the position unit (R4). -/
def hasSpeed : Axis → Bool
  | .hoist => false
  | _ => true

/-- R3 to R6: one axis at a position sample. -/
def sampleAxis (c : Cfg) (axis : Axis) (u : AxisUnit) : AxisUnit :=
  let raw := rawPosition u (scaleOf c axis)
  let current := clampInt 0 (axisMax axis) raw
  let v := { u with
    current := current
    previous := u.current
    speed := if hasSpeed axis then sampleSpeed current u.current else u.speed }
  if isClamped axis raw || isJump c.vmax raw u.current then v.suspect else v

/-- The position unit takes a sample of one axis, and POS_SUSPECT is raised where it enters SUSPECT. -/
def takeSample (axis : Axis) (s : State) : State :=
  let u := s.pos.axis axis
  let v := sampleAxis s.cfg axis u
  let s := s.withPos (s.pos.withAxis axis v)
  if v.state = .suspect then raiseSuspect u.state s else s

/-- R77: the permission unit's hook heights and hoist speed at a position sample. -/
def sampleHoist (s : State) : State :=
  s.withPerm { s.perm with
    hoistPrev := s.perm.hoistNow
    hoistNow := s.pos.hoist.current
    hoistSpeed := sampleSpeed s.pos.hoist.current s.perm.hoistNow }

/-- R3 to R6, R77, R81: the position sample of all three axes; the time to the next starts again. -/
def positionSample (s : State) : State :=
  let s := takeSample .hoist (takeSample .trolley (takeSample .bridge s))
  let s := s.withPos { s.pos with sampleElapsed := 0 }
  evalEntries (sampleHoist s)

/-- POSITION_SAMPLE (R3). -/
def execPositionSample (s : State) : Host.Outcome State Fault Refusal := .next (event positionSample s)

/-! ### Reference marks (R7 to R10) -/

/-- A marked axis as an axis. -/
def markedAxis : MarkedAxis → Axis
  | .bridge => .bridge
  | .trolley => .trolley

/-- The mark list of a marked axis (items 24 and 25). -/
def marksOf (c : Cfg) : MarkedAxis → List Nat
  | .bridge => c.marksBridge
  | .trolley => c.marksTrolley

/-- R7: of two marks, the one nearer to a position; where both are equally near, the lower one. -/
def nearerMark (pm : Int) (m k : Nat) : Nat :=
  let dm := magnitude (m - pm)
  let dk := magnitude (k - pm)
  if dm < dk then m else if dk < dm then k else min m k

/-- R7: the configured mark nearest to a position. -/
def nearestMark (pm : Int) : List Nat → Option Nat
  | [] => none
  | m :: ms => some (ms.foldl (nearerMark pm) m)

/-- R8, R10: the offset and both samples move by a correction, and the axis becomes VALID. -/
def AxisUnit.correct (axis : Axis) (e : Int) (u : AxisUnit) : AxisUnit :=
  { u with
    offset := u.offset + e
    current := clampInt 0 (axisMax axis) (u.current + e)
    previous := clampInt 0 (axisMax axis) (u.previous + e)
    remembered := none
    state := .valid }

/-- R8, R9: a mark whose error is e is accepted or confirms the remembered error. -/
def markAccepted (tolerance : Nat) (e : Int) (u : AxisUnit) : Bool :=
  decide (magnitude e ≤ tolerance) ||
  (decide (u.state = .suspect) &&
    match u.remembered with
    | none => false
    | some r => decide (magnitude (e - r) ≤ tolerance))

/-- R8 to R10: the effect of a mark edge whose error is e. A refused mark raises POS_SUSPECT in every state (R6). -/
def applyMark (axis : Axis) (e : Int) (s : State) : State :=
  let u := s.pos.axis axis
  if markAccepted s.cfg.tolerance e u then evalEntries (s.withPos (s.pos.withAxis axis (u.correct axis e)))
  else raise .posSuspect (s.withPos (s.pos.withAxis axis { u with remembered := some e, state := .suspect }))

/-- R7: a mark edge captured with the counter as it stands, and with the encoder scale as it stands even where no position
sample has come since the scale was written (R2) (DESIGN CHOICE, assumption 45). -/
def markEdge (m : MarkedAxis) (s : State) : State :=
  let pm := rawPosition (s.pos.axis (markedAxis m)) (scaleOf s.cfg (markedAxis m))
  match nearestMark pm (marksOf s.cfg m) with
  | none => s
  | some k => applyMark (markedAxis m) (k - pm) s

/-- MARK_EDGE (R7). -/
def execMarkEdge (m : MarkedAxis) (s : State) : Host.Outcome State Fault Refusal := .next (event (markEdge m) s)

/-! ### Referencing by request (R11, R12) -/

/-- The axis of a request's code: 0 bridge, 1 trolley, 2 hoist (section 10.2). -/
def axisOfCode : Nat → Option Axis
  | 0 => some .bridge
  | 1 => some .trolley
  | 2 => some .hoist
  | _ => none

/-- R12: an axis referenced at a position. -/
def AxisUnit.reference (scale : Nat) (position : Int) (u : AxisUnit) : AxisUnit :=
  { u with
    offset := position - scaledCount u.counter scale
    current := position
    previous := position
    remembered := none
    state := .valid }

/-- R12, R77: the axis takes the position, and the hoist's goes into both held hook heights. The encoder scale is the one
that stands, even where no position sample has come since it was written (R2) (DESIGN CHOICE, assumption 45). -/
def referenceAxis (axis : Axis) (position : Int) (s : State) : State :=
  let s := s.withPos (s.pos.withAxis axis ((s.pos.axis axis).reference (scaleOf s.cfg axis) position))
  let s := match axis with
    | .hoist => s.withPerm { s.perm with hoistNow := position, hoistPrev := position }
    | _ => s
  evalEntries s

/-- R11: the body of POS_REFERENCE. -/
def posReference (axis position : Nat) (s : State) : State × Reply :=
  match axisOfCode axis with
  | none => (s, .err .badArg)
  | some a =>
    if axisMax a < position then (s, .err .badArg)
    else if (s.pos.axis a).current ≠ (s.pos.axis a).previous then (s, .err .moving)
    else (referenceAxis a position s, .okWith [])

/-- POS_REFERENCE (R11, R12). -/
def execPosReference (axis position : Nat) (s : State) : Host.Outcome State Fault Refusal :=
  .next (request (posReference axis position) s)

end Sys2Proof.Machine
end

