-- ==== Sys2Proof/Machine/Resets.lean ====
section
/-! DEFINITION. The reset pin and RESTART (R207, R208 and the reset rule of each block). -/

namespace Sys2Proof.Machine

/-! ### RESTART (R15, R36, R58, R73, R101, R128, R148, R174, R195, R207) -/

/-- R36: the weighing unit at an accepted RESTART. -/
def WeighingUnit.restart (w : WeighingUnit) : WeighingUnit :=
  { w with
    a := { w.a with fault := false, railRun := 0, clearRun := 0 }
    b := { w.b with fault := false, railRun := 0, clearRun := 0 }
    window := [], stableNet := none, lastStable := none, overload := .reset, slack := .reset }

/-- R58: both error counts are 0 and the station is in CONFIG. -/
def restartLink (s : State) : State := updateLink (fun l => { l with txErr := 0, rxErr := 0 }) (enterConfig s)

/-- R148: the round counter and the held release requests are kept, and no round is running. -/
def ClaimEngine.restart (c : ClaimEngine) : ClaimEngine := { c with round := none }

/-- R207: every source flag and every group flag is cleared, and the enables are kept. -/
def NoticeUnit.clearFlags (n : NoticeUnit) : NoticeUnit := { n with sources := 0, groups := 0 }

/-- The changes of an accepted RESTART, block by block (section 10.4). The notices are cleared last. -/
def restartChanges (s : State) : State :=
  let s := restartLink s
  let s := s.withClaims s.claims.restart
  let s := s.withWeigh s.weigh.restart
  let s := s.withTable .reset
  let s := releaseWhere (fun _ => true) .own s
  let s := s.withTracker .reset
  s.withNotices s.notices.clearFlags

/-- R207: the body of RESTART. -/
def restartBody (s : State) : State × Reply :=
  if taskRunning s then (s, .err .busy)
  else if s.weigh.load = .loaded then (s, .err .hookLoaded)
  else (restartChanges s, .okWith [])

/-- RESTART (R207). -/
def execRestart (s : State) : Host.Outcome State Fault Refusal := .next (request restartBody s)

/-! ### The reset pin (R208) -/

/-- R208: the reset input is held: no transaction is taken, READY is low, ATTN is deasserted and every permission line
is inactive. -/
def assertReset (s : State) : State :=
  driveAttn (driveOutputs ((s.withClock { s.clock with resetHeld := true }).withPort
    { s.port with ready := false, request := none, dataOut := [] }))

/-- PIN_RESET_ASSERT (R208). -/
def execPinResetAssert (s : State) : Host.Outcome State Fault Refusal := .next (assertReset s)

/-- An axis after pin reset with the levels its encoder lines stand at (R14). -/
def AxisUnit.afterReset (u : AxisUnit) : AxisUnit := { AxisUnit.reset with lineA := u.lineA, lineB := u.lineB }

/-- A weighing channel after pin reset with the input its pin stands at (R35). -/
def Channel.afterReset (c : Channel) : Channel := { Channel.reset with input := c.input }

/-- R208: the release of the reset input: every block begins as its own reset rule gives (R14, R35, R59, R73, R100, R127,
R148, R173, R194). The input pins, the model's count of idle steps and the waiting commands are no part of it
(DESIGN CHOICE, assumption 29). -/
def releaseReset (s : State) : State :=
  { State.reset with
    clock := { Clock.reset with idleCount := s.clock.idleCount }
    pos := { PositionUnit.reset with
      bridge := s.pos.bridge.afterReset, trolley := s.pos.trolley.afterReset, hoist := s.pos.hoist.afterReset }
    weigh := { WeighingUnit.reset with a := s.weigh.a.afterReset, b := s.weigh.b.afterReset }
    link := { Link.reset with lineFault := s.link.lineFault }
    pending := s.pending }

/-- PIN_RESET_RELEASE (R208). -/
def execPinResetRelease (s : State) : Host.Outcome State Fault Refusal := .next (releaseReset s)

end Sys2Proof.Machine
end

