-- ==== Sys2Proof/Machine/StoreMap.lean ====
section
/-! DEFINITION. The store map's requests and the frames PICKED and PLACED (R112 to R124, R189). -/

namespace Sys2Proof.Machine

/-! ### MAP_WRITE (R112, R113) -/

/-- R112: a weight above 12,000 or a width class above 7. -/
def mapValuesBad (weight width : Option Nat) : Bool :=
  decide (12000 < weight.getD 0) || decide (7 < width.getD 0)

/-- R113: the slot takes what was written, and the check of R124 is made on it and on the upper slots resting on it,
whether the write changes the record or repeats it. -/
def writeSlot (row column : Nat) (c : SlotContent) (s : State) : State :=
  let written := setSlot row column { content := c, source := .crane } s
  ((row, column) :: restingOn written (row, column)).foldl (fun s p => checkUpper p.1 p.2 s) written

/-- R112: the body of MAP_WRITE on a slot of the geometry. -/
def mapWriteSlot (row column : Nat) (old : SlotRecord) (c : SlotContent) (s : State) : State × Reply :=
  if (slotResv old.content).isSome then (s, .err .reserved)
  else if breaksTier s row column c then (s, .err .tier)
  else if breaksUnique s row column c then (s, .err .duplicate)
  else (writeSlot row column c s, .okWith [])

/-- R112: the body of MAP_WRITE. -/
def mapWrite (ref : Ref) (state : Nat) (coil : Option CoilId) (weight width : Option Nat) (s : State) : State × Reply :=
  match ref with
  | .cradle _ _ => (s, .err .badArg)
  | .slot row column =>
    match slotAt s row column, writtenContent state coil weight width with
    | some old, some c => if mapValuesBad weight width then (s, .err .badArg) else mapWriteSlot row column old c s
    | _, _ => (s, .err .badArg)

/-- MAP_WRITE (R112, R113). -/
def execMapWrite (ref : Ref) (state : Nat) (coil : Option CoilId) (weight width : Option Nat) (s : State) :
    Host.Outcome State Fault Refusal := .next (request (mapWrite ref state coil weight width) s)

/-! ### MAP_READ and MAP_FIND (R114, R115) -/

/-- R114: the reply of MAP_READ. -/
def mapReply (ref : Ref) (s : State) : Reply :=
  match ref with
  | .cradle _ _ => .err .badArg
  | .slot row column =>
    match slotAt s row column with
    | none => .err .badArg
    | some r => .okWith (layoutSlot r)

/-- MAP_READ (R114). -/
def execMapRead (ref : Ref) (s : State) : Host.Outcome State Fault Refusal := .next (readRequest (mapReply ref) s)

/-- R115: the cradle of a bay that holds a coil. -/
def cradleHolding (coil : CoilId) (bay : Nat) (s : State) : Option Ref :=
  match bayRecord s bay with
  | none => none
  | some t => (t.cradles.findIdx? fun k => cradleHolds coil k.content).map fun i => .cradle bay i

/-- R115: the reply of MAP_FIND (DESIGN CHOICE, assumption 44); of several places that hold the coil, the first slot by row
and column, else the first cradle, else the hook (DESIGN CHOICE, assumption 58). -/
def findReply (coil : CoilId) (s : State) : Reply :=
  match slotsHolding coil s with
  | p :: _ => .okWith (layoutPlace 1 (some (.slot p.1 p.2)) (contentAt s p.1 p.2).code)
  | [] =>
    match (cradleHolding coil 0 s).or (cradleHolding coil 1 s) with
    | some ref => .okWith (layoutPlace 2 (some ref) 0)
    | none => if onHook coil s then .okWith (layoutPlace 3 none 0) else .okWith (layoutPlace 0 none 0)

/-- MAP_FIND (R115). -/
def execMapFind (coil : CoilId) (s : State) : Host.Outcome State Fault Refusal := .next (readRequest (findReply coil) s)

/-! ### PICKED (R117 to R120, R124) -/

/-- R117: a peer's PICKED and the check of R124 after it. -/
def takePicked (sender round : Nat) (ref : Ref) (coil : CoilId) (s : State) : State :=
  match ref with
  | .cradle _ _ => s
  | .slot row column => checkUndermined s ref (applyPicked sender round row column coil s)

/-- PICKED_RECEIVED (R52, R118). -/
def execPickedReceived (sender round : Nat) (ref : Ref) (coil : CoilId) (s : State) :
    Host.Outcome State Fault Refusal :=
  .next (event (receiveFrame sender (pickedOk ref) true (takePicked sender round ref coil)) s)

/-! ### PLACED (R117, R121 to R124, R189) -/

/-- R117, R189: the placement of a PLACED after its release step, in a slot or in a cradle; a cradle is dealt with after the
search of the slots (DESIGN CHOICE, assumption 59). -/
def applyPlaced (sender : Nat) (ref : Ref) (c : CoilInfo) (s : State) : State :=
  match ref with
  | .slot row column => applyPlacedSlot sender row column c s
  | .cradle bay index =>
    peerPlacement sender bay index c.coil (c.weight.getD 0) (searchCoil c.coil none (.peer sender) s)

/-- R117: a peer's PLACED: the release step, the placement, and the check of R124. -/
def takePlaced (sender round : Nat) (ref : Ref) (c : CoilInfo) (s : State) : State :=
  checkUndermined s ref (applyPlaced sender ref c (releaseStep sender round s))

/-- PLACED_RECEIVED (R52, R122). -/
def execPlacedReceived (sender round : Nat) (ref : Ref) (coil : CoilId) (weight : Nat) (width : Option Nat) (s : State) :
    Host.Outcome State Fault Refusal :=
  .next (event (receiveFrame sender (refOnLine ref) true
    (takePlaced sender round ref { coil := coil, weight := some weight, width := width })) s)

end Sys2Proof.Machine
end

