-- ==== Sys2Proof/Machine/Tasks.lean ====
section
/-! DEFINITION. The meanings of the task tracker's commands: TASK_START, TASK_CONFIRM, TASK_CANCEL, TASK_RETARGET,
TASK_READ and BOOKING_RESUMED (chapter 8). -/

namespace Sys2Proof.Machine

/-- The kind of a task code: 0 MOVE, 1 LOAD (section 10.2). -/
def taskKindOf : Nat → Option TaskKind
  | 0 => some .move
  | 1 => some .load
  | _ => none

/-- R152, fourth check: a MOVE names a slot and a LOAD a cradle. -/
def kindFits (k : TaskKind) (target : Ref) : Bool :=
  match k with
  | .move => !refIsCradle target
  | .load => refIsCradle target

/-- R149: the kind follows the target. -/
def kindOfTarget (target : Ref) : TaskKind := if refIsCradle target then .load else .move

/-- The coil recorded at a source slot, whose weight and width class the task copies (R152). -/
def sourceCoil (s : State) (source : Ref) : Option CoilInfo :=
  match source with
  | .slot row column => slotCoil (contentAt s row column)
  | .cradle _ _ => none

/-- R153: the task record of an accepted TASK_START and its START round. -/
def beginTask (id : Nat) (kind : TaskKind) (row column : Nat) (target : Ref) (coil : CoilId) (priority : Nat)
    (weight width : Option Nat) (s : State) : State :=
  let n := nextRound s
  let s := startRound .start priority
    [{ ref := .slot row column, dir := .outward coil }, { ref := target, dir := .inward }] s
  s.withTracker { s.tracker with
    task := some { id := id, kind := kind, sourceRow := row, sourceColumn := column, target := some target,
                   coil := coil, weight := weight, width := width, priority := priority, state := .claiming,
                   measured := none, reason := none, round := n, waiting := none } }

/-- R152, R153: the body of TASK_START. A kind outside its list is refused by the port first (R200, assumption 13). -/
def taskStart (id kind : Nat) (source target : Ref) (coil : CoilId) (priority : Nat) (s : State) : State × Reply :=
  match taskKindOf kind with
  | none => (s, .err .badArg)
  | some k =>
    if taskRunning s then (s, .err .busy)
    else if s.link.state ≠ .active ∨ s.link.leaving then (s, .err .notActive)
    else if s.weigh.load = .loaded then (s, .err .hookLoaded)
    else if kindFits k target = false ∨ 7 < priority then (s, .err .badArg)
    else if engineBusy s then (s, .err .linkBusy)
    else
      match source, sourceRefusal s source coil with
      | _, some r => (s, r)
      | .cradle _ _, none => (s, .err .badArg)
      | .slot row column, none =>
        let info := sourceCoil s source
        let weight := info.bind CoilInfo.weight
        let width := info.bind CoilInfo.width
        match targetRefusal s source target weight width with
        | some r => (s, r)
        | none =>
          (beginTask id k row column target coil priority weight width s, .okWith (be 1 (nextRound s)))

/-- TASK_START (R152, R153). -/
def execTaskStart (id kind : Nat) (source target : Ref) (coil : CoilId) (priority : Nat) (s : State) :
    Host.Outcome State Fault Refusal := .next (request (taskStart id kind source target coil priority) s)

/-- R157: the target is tested again with the accepted weight. -/
def targetStillFits (s : State) (target : Ref) (weight : Nat) : Bool :=
  match target with
  | .slot row column => !isUpper column || weightRulePasses s row column (some weight)
  | .cradle bay index => plannedPassesAt s bay index weight

/-- R157: TASK_CONFIRM in VERIFY_HOLD accepts the measured weight. -/
def acceptWeight (t : Task) (s : State) : State :=
  let W := t.measuredWeight
  let s := updateTask (fun t => { t with weight := some W }) s
  match t.target with
  | none => updateTask (fun t => { t with state := .targetLost }) s
  | some ref =>
    if targetStillFits s ref W then updateTask (fun t => { t with state := .toTarget }) s
    else
      raise .targetLost
        (updateTask (fun t => { t with target := none, state := .targetLost }) (releaseTarget s))

/-- The body of TASK_CONFIRM (R156, R157, R159, R169, R200) (DEDUCED, assumption 19). -/
def taskConfirm (s : State) : State × Reply :=
  match s.tracker.task with
  | none => (s, .err .badState)
  | some t =>
    if t.waiting.isSome then (s, .err .linkBusy)
    else
      match t.state with
      | .liftPending => (bookTakeOut t s, .okWith [])
      | .verifyHold => (acceptWeight t s, .okWith [])
      | .placePending => (bookPutIn t s, .okWith [])
      | _ => (s, .err .badState)

/-- TASK_CONFIRM (R156, R157, R159). -/
def execTaskConfirm (s : State) : Host.Outcome State Fault Refusal := .next (request taskConfirm s)

/-- R168: a cancel before the lift ends the task in CANCELLED; the target becomes absent with its release. -/
def cancelBeforeLift (s : State) : State :=
  enterTerminal .cancelled (some .request) .cancelled (updateTask (fun t => { t with target := none }) s)

/-- The body of TASK_CANCEL, by the task state (R168, R169) (DEDUCED, assumption 19). -/
def taskCancel (s : State) : State × Reply :=
  match s.tracker.task with
  | none => (s, .err .badState)
  | some t =>
    if t.waiting.isSome then (s, .err .linkBusy)
    else
      match t.state with
      | .claiming => (cancelBeforeLift (abandonRound s), .okWith [])
      | .toSource => (cancelBeforeLift s, .okWith [])
      | .liftPending => if bookFull s then (s, .err .linkBusy) else (cancelTakeOut t s, .okWith [])
      | .verifyHold | .toTarget | .targetLost =>
        (updateTask (fun t => { t with target := none, state := .returning }) (releaseTarget s), .okWith [])
      | .retargeting =>
        (updateTask (fun t => { t with target := none, state := .returning }) (abandonRound s), .okWith [])
      | .returning => (s, .okWith [])
      | .placePending | .done | .cancelled | .claimLost | .aborted => (s, .err .badState)

/-- TASK_CANCEL (R168). -/
def execTaskCancel (s : State) : Host.Outcome State Fault Refusal := .next (request taskCancel s)

/-- R167: the new target and its RETARGET round. -/
def beginRetarget (t : Task) (target : Ref) (s : State) : State :=
  let n := nextRound s
  updateTask (fun t => { t with target := some target, kind := kindOfTarget target, state := .retargeting, round := n })
    (startRound .retarget t.priority [{ ref := target, dir := .inward }] s)

/-- The body of TASK_RETARGET (R167, R169) (DEDUCED, assumption 19). The third check takes a target outside the ranges of
00_scope, References, for neither a slot nor a cradle reference. -/
def taskRetarget (target : Ref) (s : State) : State × Reply :=
  match s.tracker.task with
  | none => (s, .err .badState)
  | some t =>
    if t.waiting.isSome then (s, .err .linkBusy)
    else if t.state ≠ .targetLost then (s, .err .badState)
    else if s.link.state ≠ .active then (s, .err .notActive)
    else if refOnLine target = false then (s, .err .badArg)
    else if engineBusy s then (s, .err .linkBusy)
    else
      match targetRefusal s t.source target t.weight t.width with
      | some r => (s, r)
      | none => (beginRetarget t target s, .okWith (be 1 (nextRound s)))

/-- TASK_RETARGET (R167). -/
def execTaskRetarget (target : Ref) (s : State) : Host.Outcome State Fault Refusal :=
  .next (request (taskRetarget target) s)

/-- TASK_READ (R172). -/
def execTaskRead (s : State) : Host.Outcome State Fault Refusal :=
  .next (readRequest (fun s => .okWith (layoutTask s)) s)

/-- R169: the BOOK mailbox is reported empty, and the waiting booking is made. -/
def resumeBooking (s : State) : State :=
  match s.tracker.task with
  | none => s
  | some t =>
    if bookFull s then s
    else
      match t.waiting with
      | none => s
      | some .takeOut => takeOut t s
      | some .putIn => putIn t s
      | some .returnIn => returnIn t s

/-- BOOKING_RESUMED (R169). -/
def execBookingResumed (s : State) : Host.Outcome State Fault Refusal := .next (event resumeBooking s)

end Sys2Proof.Machine
end

