-- ==== Sys2Proof/Machine/Trucks.lean ====
section
/-! DEFINITION. The truck unit's requests and the TRUCK frames received (R178 to R185, R193). -/

namespace Sys2Proof.Machine

/-- A TRUCK frame is queued (R49). -/
def queueTruck (f : TruckFrame) (s : State) : State := setBoxes { s.link.boxes with truck := some f } s

/-! ### TRUCK_ARRIVE (R178, R179) -/

/-- R178: the orientation of a request: +, −, or as configured for the bay. -/
def orientationFor (b : BayItem) (code : Nat) : Orientation :=
  match orientationOf code with
  | some o => o
  | none => b.orientation

/-- R179: the record is made and the frame queued, both with the clamped values. -/
def arrive (bay truckRef : Nat) (o : Orientation) (t : Trailer) (offsets : List Nat) (s : State) : State :=
  let t := clampTrailer t
  let offsets := offsets.map clampOffset
  raise .truckArrived (setBay bay (some (makeTruck truckRef (ownId s) o t offsets))
    (queueTruck (.arrive bay truckRef o t offsets) s))

/-- R178: the body of TRUCK_ARRIVE. -/
def truckArrive (bay truckRef orientation : Nat) (t : Trailer) (offsets : List Nat) (s : State) : State × Reply :=
  if arriveOk bay offsets = false ∨ 2 < orientation then (s, .err .badArg)
  else
    match bayItem s.cfg bay with
    | none => (s, .err .badState)
    | some b =>
      if (bayRecord s bay).isSome then (s, .err .bayBusy)
      else
        match truckRefusal s with
        | some st => (s, .err st)
        | none => (arrive bay truckRef (orientationFor b orientation) t offsets s, .okWith [])

/-- TRUCK_ARRIVE (R178, R179). -/
def execTruckArrive (bay truckRef orientation : Nat) (t : Trailer) (offsets : List Nat) (s : State) :
    Host.Outcome State Fault Refusal := .next (request (truckArrive bay truckRef orientation t offsets) s)

/-! ### TRUCK_CLOSE and TRUCK_DEPART (R182, R184) -/

/-- R182: the body of TRUCK_CLOSE. -/
def truckClose (bay : Nat) (s : State) : State × Reply :=
  if bayOk bay = false then (s, .err .badArg)
  else
    match bayRecord s bay with
    | none => (s, .err .badState)
    | some t =>
      if t.closed then (s, .err .badState)
      else
        match truckRefusal s with
        | some st => (s, .err st)
        | none =>
          (setBay bay (some { t with closed := true }) (queueTruck (.close bay t.truckRef) s), .okWith [])

/-- TRUCK_CLOSE (R182). -/
def execTruckClose (bay : Nat) (s : State) : Host.Outcome State Fault Refusal := .next (request (truckClose bay) s)

/-- R184: the body of TRUCK_DEPART. -/
def truckDepart (bay : Nat) (s : State) : State × Reply :=
  if bayOk bay = false then (s, .err .badArg)
  else
    match bayRecord s bay with
    | none => (s, .err .badState)
    | some t =>
      if t.anyReserved then (s, .err .cradleReserved)
      else
        match truckRefusal s with
        | some st => (s, .err st)
        | none =>
          (raise .truckDeparted (setBay bay none (queueTruck (.depart bay t.truckRef) s)), .okWith [])

/-- TRUCK_DEPART (R184). -/
def execTruckDepart (bay : Nat) (s : State) : Host.Outcome State Fault Refusal := .next (request (truckDepart bay) s)

/-! ### TRUCK_READ (R193) -/

/-- R193: the reply of TRUCK_READ. -/
def truckReply (bay : Nat) (s : State) : Reply :=
  if bayOk bay = false then .err .badArg else .okWith (layoutTruck (bayRecord s bay))

/-- TRUCK_READ (R193). -/
def execTruckRead (bay : Nat) (s : State) : Host.Outcome State Fault Refusal := .next (readRequest (truckReply bay) s)

/-! ### ARRIVE received (R180, R181) -/

/-- R180: the record is made from a frame, with the sender as announcer. -/
def recordArrival (sender bay truckRef : Nat) (o : Orientation) (t : Trailer) (offsets : List Nat) (s : State) : State :=
  raise .truckArrived (setBay bay (some (makeTruck truckRef sender o t offsets)) s)

/-- R180: an ARRIVE with clamped values, by the state of the bay's record. -/
def takeArrive (sender bay truckRef : Nat) (o : Orientation) (t : Trailer) (offsets : List Nat) (s : State) : State :=
  if (bayItem s.cfg bay).isNone then raise .truckConflict s
  else
    match bayRecord s bay with
    | none => recordArrival sender bay truckRef o t offsets s
    | some r =>
      if r.sameAs truckRef o t offsets then s
      else if !r.closed && !r.anyOccupied && decide (sender ≤ r.announcer) then
        recordArrival sender bay truckRef o t offsets (removeBayReservations bay s)
      else raise .truckConflict s

/-- TRUCK_ARRIVE_RECEIVED (R52, R180). -/
def execTruckArriveReceived (sender bay truckRef : Nat) (o : Orientation) (t : Trailer) (offsets : List Nat)
    (s : State) : Host.Outcome State Fault Refusal :=
  .next (event (receiveFrame sender (cradleCountOk offsets) true
    (takeArrive sender bay truckRef o (clampTrailer t) (offsets.map clampOffset))) s)

/-! ### CLOSE and DEPART received (R183, R185) -/

/-- R183: a CLOSE, by the state of the bay's record. -/
def takeClose (bay truckRef : Nat) (s : State) : State :=
  match bayItem s.cfg bay, bayRecord s bay with
  | some _, some t =>
    if t.truckRef = truckRef then setBay bay (some { t with closed := true }) s else raise .truckConflict s
  | _, _ => raise .truckConflict s

/-- TRUCK_CLOSE_RECEIVED (R52, R183). -/
def execTruckCloseReceived (sender bay truckRef : Nat) (s : State) : Host.Outcome State Fault Refusal :=
  .next (event (receiveFrame sender true true (takeClose bay truckRef)) s)

/-- R185: a DEPART, by the state of the bay's record. -/
def takeDepart (bay truckRef : Nat) (s : State) : State :=
  match bayRecord s bay with
  | none => s
  | some t =>
    if (bayItem s.cfg bay).isNone then s
    else if t.truckRef = truckRef then raise .truckDeparted (setBay bay none (removeBayReservations bay s))
    else raise .truckConflict s

/-- TRUCK_DEPART_RECEIVED (R52, R185). -/
def execTruckDepartReceived (sender bay truckRef : Nat) (s : State) : Host.Outcome State Fault Refusal :=
  .next (event (receiveFrame sender true true (takeDepart bay truckRef)) s)

end Sys2Proof.Machine
end

