-- ==== Sys2Proof/Machine/Dispatch.lean ====
section
/-! DEFINITION. The effect of every command on everything but the queue: one arm for each row of the opcode table. -/

namespace Sys2Proof.Machine

/-- The effect of a command, by its row of the opcode table. -/
def exec (i : Instr) (s : State) : Host.Outcome State Fault Refusal :=
  match i with
  | .pinResetAssert => Sys2Proof.Machine.execPinResetAssert s
  | .pinResetRelease => Sys2Proof.Machine.execPinResetRelease s
  | .encoderTransition axis a b => Sys2Proof.Machine.execEncoderTransition axis a b s
  | .markEdge axis => Sys2Proof.Machine.execMarkEdge axis s
  | .positionSample => Sys2Proof.Machine.execPositionSample s
  | .weighingCycle coarseA fineA coarseB fineB => Sys2Proof.Machine.execWeighingCycle coarseA fineA coarseB fineB s
  | .lineFault reported receiving => Sys2Proof.Machine.execLineFault reported receiving s
  | .frameStart => Sys2Proof.Machine.execFrameStart s
  | .arbitrationLost => Sys2Proof.Machine.execArbitrationLost s
  | .frameSent => Sys2Proof.Machine.execFrameSent s
  | .transmitError => Sys2Proof.Machine.execTransmitError s
  | .receiveError => Sys2Proof.Machine.execReceiveError s
  | .ownIdentifierFrame => Sys2Proof.Machine.execOwnIdentifierFrame s
  | .statusReceived sender status => Sys2Proof.Machine.execStatusReceived sender status s
  | .farewellReceived sender status => Sys2Proof.Machine.execFarewellReceived sender status s
  | .claimReceived sender round priority entries => Sys2Proof.Machine.execClaimReceived sender round priority entries s
  | .objectReceived sender claimant round ref => Sys2Proof.Machine.execObjectReceived sender claimant round ref s
  | .releaseReceived sender round refs => Sys2Proof.Machine.execReleaseReceived sender round refs s
  | .pickedReceived sender round ref coil => Sys2Proof.Machine.execPickedReceived sender round ref coil s
  | .placedReceived sender round ref coil weight width => Sys2Proof.Machine.execPlacedReceived sender round ref coil weight width s
  | .truckArriveReceived sender bay truckRef orientation trailer offsets => Sys2Proof.Machine.execTruckArriveReceived sender bay truckRef orientation trailer offsets s
  | .truckCloseReceived sender bay truckRef => Sys2Proof.Machine.execTruckCloseReceived sender bay truckRef s
  | .truckDepartReceived sender bay truckRef => Sys2Proof.Machine.execTruckDepartReceived sender bay truckRef s
  | .beatExpiry => Sys2Proof.Machine.execBeatExpiry s
  | .deferredStatusCompose => Sys2Proof.Machine.execDeferredStatusCompose s
  | .farewellCompose => Sys2Proof.Machine.execFarewellCompose s
  | .releaseRequestRetry => Sys2Proof.Machine.execReleaseRequestRetry s
  | .bookingResumed => Sys2Proof.Machine.execBookingResumed s
  | .claimWindowExpiry => Sys2Proof.Machine.execClaimWindowExpiry s
  | .peerReservationHeld ref => Sys2Proof.Machine.execPeerReservationHeld ref s
  | .entryStale id => Sys2Proof.Machine.execEntryStale id s
  | .neighbourLost id => Sys2Proof.Machine.execNeighbourLost id s
  | .untrackedClear => Sys2Proof.Machine.execUntrackedClear s
  | .chipSelectRise bytes partialByte => Sys2Proof.Machine.execChipSelectRise bytes partialByte s
  | .readReply clocks => Sys2Proof.Machine.execReadReply clocks s
  | .unknownRequest => Sys2Proof.Machine.execUnknownRequest s
  | .cfgWrite item values => Sys2Proof.Machine.execCfgWrite item values s
  | .cfgWriteStationId value => Sys2Proof.Machine.execCfgWriteStationId value s
  | .cfgWriteBeat value => Sys2Proof.Machine.execCfgWriteBeat value s
  | .cfgWriteGeometry geometry => Sys2Proof.Machine.execCfgWriteGeometry geometry s
  | .cfgWriteWeighing item value => Sys2Proof.Machine.execCfgWriteWeighing item value s
  | .cfgWriteBay bay kingpin line orientation => Sys2Proof.Machine.execCfgWriteBay bay kingpin line orientation s
  | .cfgRead item => Sys2Proof.Machine.execCfgRead item s
  | .zoneWrite index zone => Sys2Proof.Machine.execZoneWrite index zone s
  | .join => Sys2Proof.Machine.execJoin s
  | .leave => Sys2Proof.Machine.execLeave s
  | .restart => Sys2Proof.Machine.execRestart s
  | .posReference axis position => Sys2Proof.Machine.execPosReference axis position s
  | .zeroSet => Sys2Proof.Machine.execZeroSet s
  | .zoneEnable change on => Sys2Proof.Machine.execZoneEnable change on s
  | .stateRead => Sys2Proof.Machine.execStateRead s
  | .mapWrite ref state coil weight width => Sys2Proof.Machine.execMapWrite ref state coil weight width s
  | .mapRead ref => Sys2Proof.Machine.execMapRead ref s
  | .mapFind coil => Sys2Proof.Machine.execMapFind coil s
  | .taskStart id kind source target coil priority => Sys2Proof.Machine.execTaskStart id kind source target coil priority s
  | .taskConfirm => Sys2Proof.Machine.execTaskConfirm s
  | .taskCancel => Sys2Proof.Machine.execTaskCancel s
  | .taskRetarget target => Sys2Proof.Machine.execTaskRetarget target s
  | .taskRead => Sys2Proof.Machine.execTaskRead s
  | .truckArrive bay truckRef orientation trailer offsets => Sys2Proof.Machine.execTruckArrive bay truckRef orientation trailer offsets s
  | .truckClose bay => Sys2Proof.Machine.execTruckClose bay s
  | .truckDepart bay => Sys2Proof.Machine.execTruckDepart bay s
  | .truckRead bay => Sys2Proof.Machine.execTruckRead bay s
  | .neighbourRead id => Sys2Proof.Machine.execNeighbourRead id s
  | .neighbourDrop id => Sys2Proof.Machine.execNeighbourDrop id s
  | .noticeRead => Sys2Proof.Machine.execNoticeRead s
  | .noticeClear mask => Sys2Proof.Machine.execNoticeClear mask s
  | .noticeEnable sources groups global => Sys2Proof.Machine.execNoticeEnable sources groups global s

end Sys2Proof.Machine
end

