-- ==== Sys2Proof/Machine/Wire.lean ====
section
/-! DEFINITION. The frame on the yard line: bits, inserted bits, CRC, header and the STATUS payload (R37, R38, R42 and
the layout tables of section 3.1). A dominant bit is `false`, a recessive bit `true`. -/

namespace Sys2Proof.Machine

/-! ### Bits (R38) -/

/-- A number as n bits, most significant bit first (R38). -/
def natBits : Nat → Nat → List Bool
  | 0, _ => []
  | n + 1, v => natBits n (v / 2) ++ [decide (v % 2 = 1)]

/-- The number some bits spell, most significant bit first. -/
def bitsValue (bs : List Bool) : Nat := bs.foldl (fun v b => v * 2 + b.toNat) 0

/-- Bytes as bits, in the order sent. -/
def bytesBits (bs : List Byte) : List Bool := (bs.map fun b => natBits 8 b.toNat).flatten

/-- Bits as bytes, eight at a time; `n` is the number of bytes. -/
def bitsBytes : Nat → List Bool → List Byte
  | 0, _ => []
  | n + 1, bs => BitVec.ofNat 8 (bitsValue (bs.take 8)) :: bitsBytes n (bs.drop 8)

/-! ### CRC (R38) -/

/-- R38: one bit through the CRC with generator x¹⁶ + x¹² + x⁵ + 1. -/
def crcStep (c : BitVec 16) (b : Bool) : BitVec 16 := (c <<< 1) ^^^ (if c.msb != b then 0x1021 else 0)

/-- R38: the CRC of some bits, from all ones and with no inversion at the end. -/
def crc (bs : List Bool) : BitVec 16 := bs.foldl crcStep 0xFFFF

/-! ### Inserted bits (R37) -/

/-- R37: one bit of the opposite level after every five equal bits, counting inserted bits among the bits. `last` is the
level of the bit before and `run` how many equal bits end there. -/
def stuff (last : Bool) (run : Nat) : List Bool → List Bool
  | [] => []
  | b :: bs =>
    let run' := if b = last then run + 1 else 1
    if run' = 5 then b :: (!b) :: stuff (!b) 1 bs else b :: stuff b run' bs

/-- The receiver's place in the bits: the level of the last bit, the run that ends there, and the bits still to come. -/
structure LineReader where
  last : Bool
  run : Nat
  rest : List Bool
  deriving DecidableEq, Repr

/-- R37: n bits with the inserted ones removed; none is a coding error (a run of six) or an end of the bits. -/
def destuff (last : Bool) (run n : Nat) : List Bool → Option (List Bool × LineReader)
  | [] => if n = 0 then some ([], { last := last, run := run, rest := [] }) else none
  | b :: bs =>
    if n = 0 then some ([], { last := last, run := run, rest := b :: bs })
    else if run = 5 then (if b = last then none else destuff b 1 n bs)
    else
      match destuff b (if b = last then run + 1 else 1) (n - 1) bs with
      | none => none
      | some p => some (b :: p.1, p.2)

/-- R37: the bits after the last CRC bit, with a bit inserted there removed (assumption 18). -/
def LineReader.afterCrc (r : LineReader) : Option (List Bool) :=
  if r.run = 5 then
    match r.rest with
    | [] => none
    | b :: bs => if b = r.last then none else some bs
  else some r.rest

/-! ### Frames (R38) -/

/-- The arbitration field and the length byte (R38). -/
def headerBits (cls sender length : Nat) : List Bool := natBits 3 cls ++ natBits 5 sender ++ natBits 8 length

/-- What the CRC is computed over (R38). -/
def coveredBits (cls sender : Nat) (payload : List Byte) : List Bool :=
  headerBits cls sender payload.length ++ bytesBits payload

/-- A frame as it stands on the line: the start bit, header, payload and CRC with their inserted bits, and the end
field (R37, R38). -/
def frameBits (cls sender : Nat) (payload : List Byte) : List Bool :=
  let covered := coveredBits cls sender payload
  stuff true 0 (false :: covered ++ natBits 16 (crc covered).toNat) ++ List.replicate 7 true

/-- A frame received with no coding error, a good length, a matching CRC and a complete end field (R38). -/
structure LineFrame where
  cls : Nat
  sender : Nat
  payload : List Byte
  deriving DecidableEq, Repr

/-- R38: the payload, CRC and end field of a frame whose start bit and header have been read. -/
def receiveBody (header : List Bool) (r : LineReader) : Option LineFrame :=
  let length := bitsValue (header.drop 9)
  if 40 < length then none
  else
    match destuff r.last r.run (8 * length + 16) r.rest with
    | none => none
    | some (bits, r') =>
      let covered := header.drop 1 ++ bits.take (8 * length)
      match r'.afterCrc with
      | none => none
      | some tail =>
        if header.head? = some false ∧ bitsValue (bits.drop (8 * length)) = (crc covered).toNat ∧
            tail.take 7 = List.replicate 7 true then
          some { cls := bitsValue ((header.drop 1).take 3), sender := bitsValue ((header.drop 4).take 5),
                 payload := bitsBytes length bits }
        else none

/-- R38: the frame that bits from the start bit on give, or none where the reception ends in an error. -/
def receiveBits (bs : List Bool) : Option LineFrame :=
  match destuff true 0 17 bs with
  | none => none
  | some (header, r) => receiveBody header r

/-! ### The STATUS payload (section 3.1) -/

/-- Byte 0 of a STATUS payload. -/
def statusFlags (r : Report) (farewell : Bool) : Nat :=
  (if farewell then 128 else 0) + loadStateCode r.load * 64 + (if r.stableNet.isSome then 32 else 0)
    + posStateCode r.posState * 8 + summaryCode r.summary * 2

/-- The 18 bytes of a STATUS payload. -/
def statusPayload (r : StatusReport) (farewell : Bool) : List Byte :=
  be 1 (statusFlags r.report farewell) ++ be 3 r.report.bridgePos ++ beInt 2 r.report.bridgeSpeed
    ++ be 2 r.report.plusExtent ++ be 2 r.report.minusExtent ++ be 2 r.report.trolleyPos ++ be 2 r.report.hookHeight
    ++ beInt 2 (r.report.stableNet.getD 0) ++ be 2 r.signature

/-- The number a signed field of two bytes spells. -/
def beSigned (bs : List Byte) : Int :=
  let v := beValue bs
  if v < 32768 then v else (v : Int) - 65536

/-- The position state of a code of byte 0; 3 is none (R42). -/
def posStateOf : Nat → Option PosState
  | 0 => some .unreferenced
  | 1 => some .valid
  | 2 => some .suspect
  | _ => none

/-- The task summary of a code of byte 0. -/
def summaryOf : Nat → Option TaskSummary
  | 0 => some .idle
  | 1 => some .claiming
  | 2 => some .carrying
  | 3 => some .other
  | _ => none

/-- The report of a STATUS payload whose named values have been read. With the stable-net bit clear the net field is not
looked at: a value other than 0 there does not make the frame malformed (DESIGN CHOICE, assumption 46). -/
def readReport (flags : Nat) (ps : PosState) (ts : TaskSummary) (bs : List Byte) : StatusReport :=
  let field (i n : Nat) := (bs.drop i).take n
  { report :=
      { bridgePos := beValue (field 1 3)
        bridgeSpeed := beSigned (field 4 2)
        plusExtent := beValue (field 6 2)
        minusExtent := beValue (field 8 2)
        trolleyPos := beValue (field 10 2)
        hookHeight := beValue (field 12 2)
        load := if flags / 64 % 2 = 1 then .loaded else .unloaded
        posState := ps
        summary := ts
        stableNet := if flags / 32 % 2 = 1 then some (beSigned (field 14 2)) else none }
    signature := beValue (field 16 2) }

/-- R42: the STATUS of a payload with its farewell flag, or none where it is malformed. -/
def parseStatus (bs : List Byte) : Option (StatusReport × Bool) :=
  let flags := beValue (bs.take 1)
  if bs.length = 18 ∧ flags % 2 = 0 then
    match posStateOf (flags / 8 % 4), summaryOf (flags / 2 % 4) with
    | some ps, some ts =>
      let r := readReport flags ps ts bs
      if statusOk r then some (r, decide (flags / 128 % 2 = 1)) else none
    | _, _ => none
  else none

/-- The class of STATUS (section 3.3). -/
def statusClass : Nat := 1

/-- R42: a payload length that the table of section 3.3 gives for a class and some count: 1 to 4 references of a RELEASE,
1 or 2 entries of a CLAIM, a PICKED or a PLACED, 1 to 6 cradles of an ARRIVE. -/
def payloadFits (cls length : Nat) : Bool :=
  match cls with
  | 0 => decide (length = 5)
  | 1 => decide (length = 18)
  | 2 => [1, 2, 3, 4].any fun n => decide (length = 2 + 3 * n)
  | 3 => [1, 2].any fun n => decide (length = 3 + 8 * n)
  | 4 => decide (length = 9) || decide (length = 12)
  | 5 => decide (length = 4) || [1, 2, 3, 4, 5, 6].any fun n => decide (length = 20 + 2 * n)
  | _ => false

/-- A STATUS frame as it stands on the line. -/
def statusLine (sender : Nat) (r : StatusReport) (farewell : Bool) : List Bool :=
  frameBits statusClass sender (statusPayload r farewell)

/-- The command that bits on the line give: a STATUS, a farewell, or a receive error (R42: a class of 6 or 7, a sender of
0 or 31, a payload length that no kind of the class has, or a malformed STATUS). For the other kinds the manual gives
fields and no bit layout, and a frame of their classes and lengths gives none here: its command is sent with its fields. -/
def lineCommand (bs : List Bool) : Option Instr :=
  match receiveBits bs with
  | none => some .receiveError
  | some f =>
    if payloadFits f.cls f.payload.length = false ∨ senderOk f.sender = false then some .receiveError
    else if f.cls = statusClass then
      match parseStatus f.payload with
      | none => some .receiveError
      | some (r, true) => some (.farewellReceived f.sender r)
      | some (r, false) => some (.statusReceived f.sender r)
    else none

end Sys2Proof.Machine
end

