-- ==== Sys2Proof/Safety.lean ====
section
/-! DEFINITION. What the claims say of states and steps: which blocks a step leaves unchanged, which notices it raises,
and the laws that every step keeps. -/

namespace Sys2Proof.Machine

/-! ### What a step leaves unchanged -/

/-- The blocks of the state whose contents a claim can say are unchanged. The notice unit is judged by `Notices`. -/
inductive Block where
  | clock | cfg | pos | weigh | link | table | perm | map | claims | tracker | trucks | port
  deriving DecidableEq, Repr

/-- A block is the same in two states. Of the permission unit these are the switches, the hoist samples and the zone
entries as written: held levels and outputs are evaluated at the end of every step (R74, R78), and so is the truck
check (R191), which is no part of the two truck records. -/
def SameBlock (s t : State) : Block → Prop
  | .clock => t.clock = s.clock
  | .cfg => t.cfg = s.cfg
  | .pos => t.pos = s.pos
  | .weigh => t.weigh = s.weigh
  | .link => t.link = s.link
  | .table => t.table = s.table
  | .perm => t.perm.switches = s.perm.switches ∧ t.perm.hoistNow = s.perm.hoistNow ∧
      t.perm.hoistPrev = s.perm.hoistPrev ∧ t.perm.hoistSpeed = s.perm.hoistSpeed ∧
      t.perm.zones.map Zone.entry = s.perm.zones.map Zone.entry
  | .map => t.map = s.map
  | .claims => t.claims = s.claims
  | .tracker => t.tracker = s.tracker
  | .trucks => t.trucks.bay0 = s.trucks.bay0 ∧ t.trucks.bay1 = s.trucks.bay1
  | .port => t.port = s.port

/-- The queue and every block but those named are unchanged. -/
def Keeps (touched : List Block) (s t : State) : Prop :=
  t.pending = s.pending ∧ ∀ b, b ∉ touched → SameBlock s t b

/-! ### Notices -/

/-- A word has gained no bit but some of those listed, and has lost none. -/
def OnlySets {w : Nat} (bits : List Nat) (u v : BitVec w) : Prop :=
  ∀ i, v.getLsbD i = true ↔ u.getLsbD i = true ∨ (i ∈ bits ∧ v.getLsbD i = true)

/-- A source is enabled (R209). -/
def sourceEnabled (n : Notice) (u : NoticeUnit) : Bool := u.sourceEnable.getLsbD n.bit

/-- No flag is set but those of the notices listed, a group flag for an enabled source only; no flag is cleared and no
enable changes (R209). -/
def RaisesOnly (ns : List Notice) (s t : State) : Prop :=
  OnlySets (ns.map Notice.bit) s.notices.sources t.notices.sources ∧
  OnlySets ((ns.filter fun n => sourceEnabled n s.notices).map Notice.group) s.notices.groups t.notices.groups ∧
  t.notices.sourceEnable = s.notices.sourceEnable ∧ t.notices.groupEnable = s.notices.groupEnable ∧
  t.notices.global = s.notices.global

/-- A notice has been raised: its source flag is set, and its group flag where the source is enabled (R209). -/
def Raised (n : Notice) (s t : State) : Prop :=
  t.notices.sources.getLsbD n.bit = true ∧
  (sourceEnabled n s.notices = true → t.notices.groups.getLsbD n.group = true)

/-- The notices `must` are raised, and no others but some of `may`. -/
def Notices (must may : List Notice) (s t : State) : Prop :=
  (∀ n ∈ must, Raised n s t) ∧ RaisesOnly (must ++ may) s t

/-- The notices that an evaluation of the permission unit may raise at the end of any step (R91, R191). -/
def evaluationNotices : List Notice := [.zoneInside, .loadLimit]

/-- The notices that a loss told to the task tracker may raise (R155, R165, R166). -/
def lossNotices : List Notice := [.claimLost, .targetLost, .hookUnknown]

/-- The blocks that a loss told to the task tracker may change: its RELEASE goes to the link (R142, R145, R165, R166). -/
def lossBlocks : List Block := [.link, .claims, .map, .trucks, .tracker]

/-! ### The laws of the outputs -/

/-- R74, R210: the six outputs are at the lowest offer, and ATTN follows the flags and enables. -/
def OutputsFollow (s : State) : Prop := s.perm.outputs = levelsOf s ∧ s.notices.attn = attnLevel s

/-- What a step that acts leaves: the blocks not named are unchanged, the notices `must` are raised and no others but
`may` and those of the evaluation, and the outputs follow. -/
def Acts (touched : List Block) (must may : List Notice) (s t : State) : Prop :=
  Keeps touched s t ∧ Notices must (may ++ evaluationNotices) s t ∧ OutputsFollow t

/-- An accepted request: it acts, its reply OK is held, the request buffer is free and READY is high (R197). -/
def Accepts (touched : List Block) (must may : List Notice) (payload : List Byte) (s t : State) : Prop :=
  Acts (.port :: touched) must may s t ∧
  t.port = { s.port with ready := true, request := none, reply := some (Reply.okWith payload) }

/-- A request is answered with a reply and does nothing else: so a refused one (R201), and one that only reads. -/
def Answers (i : Instr) (r : Reply) (s : State) : Prop := exec i s = .next (respond r s)

/-- The reset input is not held (R208). -/
abbrev Running (s : State) : Prop := s.clock.resetHeld = false

/-- R91, R191: the inside case of every zone and the begin of the truck check's STOP stand as the state gives them. -/
def Evaluated (s : State) : Prop :=
  (∀ z ∈ s.perm.zones, z.inside = zoneInside s z.entry) ∧ s.trucks.checkStop = truckStops s

/-! ### Parts of records -/

/-- The entries are the same in all but their held levels, and UNTRACKED and its age are the same. -/
def SameReports (s t : State) : Prop :=
  t.table.entries.map (fun e => (e.id, e.state, e.age, e.report, e.foreign)) =
    s.table.entries.map (fun e => (e.id, e.state, e.age, e.report, e.foreign)) ∧
  t.table.untracked = s.table.untracked ∧ t.table.untrackedAge = s.table.untrackedAge

/-- Every axis but one is unchanged, and so is the time since the last position sample. -/
def OtherAxesKept (axis : Axis) (s t : State) : Prop :=
  (∀ x, x ≠ axis → t.pos.axis x = s.pos.axis x) ∧ t.pos.sampleElapsed = s.pos.sampleElapsed

/-- Every reservation in the records: of slots, then of the cradles of both bays. -/
def allReservations (s : State) : List Reservation :=
  (s.map.filterMap fun r => slotResv r.content) ++
  ((s.trucks.bay0.toList ++ s.trucks.bay1.toList).flatMap fun t => t.cradles.filterMap fun k => cradleResv k.content)

/-- The station holds no reservation. -/
def NoOwn (s : State) : Prop := ∀ v ∈ allReservations s, v.holder ≠ .own

/-- The content of a cradle, if the record of its bay has it. -/
def cradleContent (s : State) (bay index : Nat) : Option CradleContent := (cradleAt s bay index).map Cradle.content

/-- A slot of the geometry. -/
def isSlot (s : State) (row column : Nat) : Prop := (slotAt s row column).isSome = true

/-! ### Releases and records of peers' reservations (R139, R143, R144) -/

/-- Whether a reservation is held by a peer. -/
def heldBy (id : Nat) (v : Reservation) : Bool := decide (v.holder = .peer id)

/-- Whether a reservation is held by a peer under a round number. -/
def heldByUnder (id n : Nat) (v : Reservation) : Bool := decide (v.holder = .peer id) && decide (v.round = n)

/-- A slot content without the reservations that a test names: RESERVED_IN to EMPTY, RESERVED_OUT to OCCUPIED (R143). -/
def SlotContent.without (p : Reservation → Bool) : SlotContent → SlotContent
  | .reservedIn v => if p v then .empty else .reservedIn v
  | .reservedOut c v => if p v then .occupied c else .reservedOut c v
  | c => c

/-- A cradle content without the reservations that a test names: RESERVED to FREE (R143). -/
def CradleContent.without (p : Reservation → Bool) : CradleContent → CradleContent
  | .reserved v => if p v then .free else .reserved v
  | c => c

/-- A truck record without the reservations that a test names. -/
def Truck.without (p : Reservation → Bool) (t : Truck) : Truck :=
  { t with cradles := t.cradles.map fun k => { k with content := k.content.without p } }

/-- The source of last change of a slot (R105), if the reference names one. -/
def sourceAt (s : State) (row column : Nat) : Option ChangeSource := (slotAt s row column).map SlotRecord.source

/-- A slot record without the reservations that a test names, the source set where there was one (R105). -/
def SlotRecord.without (p : Reservation → Bool) (source : ChangeSource) (r : SlotRecord) : SlotRecord :=
  { content := r.content.without p, source := if (slotResv r.content).any p then source else r.source }

/-- Every reservation that a test names has been released, in the map and in both truck records, with the source of last
change that R105 gives, and nothing else of them has changed. -/
def AllReleased (p : Reservation → Bool) (source : ChangeSource) (s t : State) : Prop :=
  t.map = s.map.map (SlotRecord.without p source) ∧
  t.trucks.bay0 = s.trucks.bay0.map (Truck.without p) ∧ t.trucks.bay1 = s.trucks.bay1.map (Truck.without p)

/-- Whether a reservation is the station's own. -/
def ofStation (v : Reservation) : Bool := decide (v.holder = .own)

/-- R145: a RELEASE naming a reference under a round number stands in its mailbox or in the list of held requests. -/
def ReleaseAsked (n : Nat) (ref : Ref) (t : State) : Prop :=
  ∃ f, (t.link.boxes.release = some f ∨ f ∈ t.claims.heldRequests) ∧ f.round = n ∧ ref ∈ f.refs

/-- An own reservation belongs to the running START or RETARGET round. -/
def InRound (s : State) (ref : Ref) (v : Reservation) : Prop :=
  ∃ r ∈ s.claims.round, r.purpose ≠ .reassert ∧ v.round = r.number ∧ ref ∈ r.entries.map ClaimEntry.ref

/-- R145, R162, R163, R170: every own reservation has been released, and a RELEASE asked for naming each that no running
START or RETARGET round holds; what becomes of those is said by `RoundClosed`. -/
def OwnReleased (s t : State) : Prop :=
  AllReleased ofStation .own s t ∧
  ∀ ref v, ownResvAt s ref = some v → ¬ InRound s ref v → ReleaseAsked v.round ref t

/-- R145, R170: every own reservation but that of one reference has been released, as `OwnReleased` says it of all. -/
def OthersReleased (place : Ref) (s t : State) : Prop :=
  (∀ row column, .slot row column ≠ place → contentAt t row column = (contentAt s row column).without ofStation) ∧
  (∀ bay index, .cradle bay index ≠ place →
    cradleContent t bay index = (cradleContent s bay index).map (CradleContent.without ofStation)) ∧
  ∀ ref, ref ≠ place → ∀ v, ownResvAt s ref = some v → ¬ InRound s ref v → ReleaseAsked v.round ref t

/-- Of the link nothing has changed but the BOOK mailbox, as given, and what ends of rounds and RELEASE requests change:
the CLAIM and RELEASE mailboxes and a withdrawal (R45 to R47). -/
def LinkKeeps (book : Option BookFrame) (s t : State) : Prop :=
  t.link = { s.link with
    boxes := { s.link.boxes with book := book, claim := t.link.boxes.claim, release := t.link.boxes.release }
    withdrawal := t.link.withdrawal }

/-- Every reservation of the records has been changed by one function, and nothing else of them. -/
def ReservationsMapped (f : Reservation → Reservation) (s t : State) : Prop :=
  let cradles (b : Truck) : Truck := { b with cradles := b.cradles.map fun k => { k with content := k.content.mapResv f } }
  t.map = s.map.map (fun r => { r with content := r.content.mapResv f }) ∧
  t.trucks.bay0 = s.trucks.bay0.map cradles ∧ t.trucks.bay1 = s.trucks.bay1.map cradles

/-- A truck record with the contents of its cradles left out. -/
def Truck.bare (t : Truck) : Truck := { t with cradles := t.cradles.map fun k => { k with content := .free } }

/-- Of both truck records nothing but the contents of the cradles has changed. -/
def SameTruckFacts (s t : State) : Prop :=
  ∀ bay, (bayRecord t bay).map Truck.bare = (bayRecord s bay).map Truck.bare

/-- R139: a slot that a peer's claim entry names, after the recording of the reservation `v`. -/
def SlotContent.claimed (v : Reservation) (dir : ClaimDir) : SlotContent → SlotContent
  | .occupied c => match dir with
    | .outward _ => .reservedOut c v
    | .inward => .occupied c
  | .empty => match dir with
    | .inward => .reservedIn v
    | .outward _ => .empty
  | .reservedIn w => if w.holder = v.holder then .reservedIn v else .reservedIn w
  | .reservedOut c w => if w.holder = v.holder then .reservedOut c v else .reservedOut c w
  | c => c

/-- R139: a cradle that a peer's claim entry names, after the recording of the reservation `v`. -/
def CradleContent.claimed (v : Reservation) (loading : Bool) : CradleContent → CradleContent
  | .free => if loading then .reserved v else .free
  | .reserved w => if w.holder = v.holder then .reserved v else .reserved w
  | c => c

/-- R136, R165, R166: the current START or RETARGET round has been lost with a cause: none of its reservations is left,
and a task that waited on it is told. -/
def RoundLost (r : Round) (cause : Reason) (s t : State) : Prop :=
  t.claims.round = none ∧
  (∀ x ∈ r.entries, ∀ w, ownResvAt t x.ref = some w → w.round ≠ r.number) ∧
  ∀ k, s.tracker.task = some k →
    (r.purpose = .start → k.state = .claiming →
      t.tracker.task = some { k with state := .claimLost, reason := some cause, waiting := none } ∧
      Raised .claimLost s t ∧ NoOwn t) ∧
    (r.purpose = .retarget → k.state = .retargeting →
      t.tracker.task = some { k with target := none, state := .targetLost } ∧ Raised .targetLost s t)

/-- R136, R137: a START or RETARGET round has been abandoned: none of its reservations is left; a CLAIM that waits has left
its mailbox, one that is being sent is withdrawn, and for one that has been sent a RELEASE names every reference. -/
def RoundClosed (r : Round) (s t : State) : Prop :=
  t.claims.round = none ∧
  (∀ x ∈ r.entries, ∀ w, ownResvAt t x.ref = some w → w.round ≠ r.number) ∧
  match r.stage with
  | .queued =>
    if s.link.sending = some .claim then
      t.link.withdrawal = some { round := r.number, refs := r.entries.map ClaimEntry.ref }
    else t.link.boxes.claim = none
  | .opened => r.entries ≠ [] → ∀ x ∈ r.entries, ReleaseAsked r.number x.ref t

/-- R45, R50: the link record after an attempt abandoned by an error. -/
def abandoned (l : Link) : Link :=
  { l with
    txErr := min 96 (l.txErr + 8)
    sending := none
    withdrawal := if l.sending = some .claim then none else l.withdrawal
    boxes := if l.sending = some .claim ∧ l.withdrawal.isSome = true then { l.boxes with claim := none } else l.boxes }

/-- R135: an entry to a link state other than ACTIVE, after which the link record is `l` but for the loss of a QUEUED round:
with no round, or an OPEN one, nothing else changes; a QUEUED round is lost and its CLAIM withdrawn, a REASSERT round leaving
what it still holds HELD (R147). -/
def LinkEnters (l : Link) (s t : State) : Prop :=
  let queued : Bool := s.claims.round.any fun r => decide (r.stage = .queued)
  let stands : Prop := ∀ b ∈ lossBlocks, b ≠ .link → SameBlock s t b
  t.link = { l with
    withdrawal := if queued ∧ l.sending = some .claim then t.link.withdrawal else l.withdrawal
    boxes := { l.boxes with
      claim := if queued ∧ l.sending ≠ some .claim then none else l.boxes.claim
      release := if queued then t.link.boxes.release else l.boxes.release } } ∧
  match s.claims.round with
  | none => stands
  | some r =>
    match r.stage with
    | .opened => stands
    | .queued =>
      (l.sending = some .claim → t.link.withdrawal.isSome = true) ∧
      if r.purpose = .reassert then
        t.claims.round = none ∧ ∀ ref v, ownResvAt t ref = some v → v.round = r.number → v.phase = .held
      else RoundLost r .notActive s t

/-- R53, R57, R135: an entry to MUTED or IDCLASH with the link record `l`: the leave ends and the STATUS is discarded. -/
def LinkLeft (entered : LinkState) (l : Link) (s t : State) : Prop :=
  LinkEnters { l with
    state := entered, beats := 0, afterMuted := false, leaving := false, statusDeferred := false
    boxes := { l.boxes with status := none } } s t

/-! ### Own reservations that are lost (R142, R147, R165, R166, R181, R189) -/

/-- A slot has the record, and a cradle the content, that it had. -/
def RefKept (s t : State) : Ref → Prop
  | .slot row column => slotAt t row column = slotAt s row column
  | .cradle bay index => cradleContent t bay index = cradleContent s bay index

/-- R136, R145: a slot or a cradle has been freed of the station's reservation, with own as the source of a slot. -/
def RefFreed (s t : State) : Ref → Prop
  | .slot row column =>
    contentAt t row column = (contentAt s row column).without ofStation ∧ sourceAt t row column = some .own
  | .cradle bay index => cradleContent t bay index = (cradleContent s bay index).map (CradleContent.without ofStation)

/-- Every reference the station holds, but those named, is as it was. -/
def OwnKept (out : Ref → Prop) (s t : State) : Prop := ∀ x, (ownResvAt s x).isSome = true → ¬ out x → RefKept s t x

/-- The CLAIM mailbox and the withdrawal of a CLAIM are as they were (R45). -/
def ClaimBoxKept (s t : State) : Prop :=
  t.link.boxes.claim = s.link.boxes.claim ∧ t.link.withdrawal = s.link.withdrawal

/-- R147: a REASSERT round has ended with no reference left; its CLAIM, if still queued, is withdrawn, with no RELEASE. -/
def ReassertEnded (r : Round) (s t : State) : Prop :=
  t.claims.round = none ∧
  match r.stage with
  | .opened => ClaimBoxKept s t
  | .queued =>
    if s.link.sending = some .claim then
      t.link.boxes.claim = s.link.boxes.claim ∧ t.link.withdrawal = some { round := r.number, refs := [] }
    else t.link.boxes.claim = none ∧ t.link.withdrawal = s.link.withdrawal

/-- R147: the round after one own reservation is gone: a REASSERT round that held it goes on with its other references, or
ends with none left. A CLAIM that still waits names what it named (assumption 55). -/
def RoundWithout (ref : Ref) (v : Reservation) (s t : State) : Prop :=
  t.claims.counter = s.claims.counter ∧
  match s.claims.round with
  | none => t.claims.round = none ∧ ClaimBoxKept s t
  | some r =>
    if r.purpose = .reassert ∧ v.round = r.number ∧ ref ∈ r.entries.map ClaimEntry.ref then
      let rest := r.entries.filter fun e => decide (e.ref ≠ ref)
      if rest = [] then ReassertEnded r s t else t.claims.round = some { r with entries := rest } ∧ ClaimBoxKept s t
    else t.claims.round = some r ∧ ClaimBoxKept s t

/-- R165, R166, R170: the task `k` has ended in CLAIM_LOST with a reason, the loss having begun at one reference: a take-out
that waited leaves an unknown coil on the hook, every other reference is freed, a RELEASE names each, and a REASSERT round
ends with them. -/
def TaskClaimLost (k : Task) (target : Option Ref) (reason : Reason) (ref : Ref) (s t : State) : Prop :=
  t.tracker =
    { task := some { k with target := target, state := .claimLost, reason := some reason, waiting := none }
      hook := if k.waiting = some .takeOut then
          s.tracker.hook.map fun h => { h with coil := none, width := none, origin := .unknown }
        else s.tracker.hook } ∧
  Raised .claimLost s t ∧ (k.waiting = some .takeOut → Raised .hookUnknown s t) ∧ NoOwn t ∧
  (∀ x, (ownResvAt s x).isSome = true → x ≠ ref → RefFreed s t x) ∧
  (∀ x w, ownResvAt s x = some w → ¬ InRound s x w → ReleaseAsked w.round x t) ∧
  t.claims.counter = s.claims.counter ∧
  match s.claims.round with
  | none => t.claims.round = none ∧ ClaimBoxKept s t
  | some r => if r.purpose = .reassert then ReassertEnded r s t else t.claims.round = some r ∧ ClaimBoxKept s t

/-- R142, R149, R166: the task after the loss of its target at one reference, where the task is told: its target is absent,
and from TO_TARGET it enters TARGET_LOST. -/
def TargetLost (k : Task) (ref : Ref) (v : Reservation) (s t : State) : Prop :=
  t.tracker = { s.tracker with
    task := some { k with target := none, state := if k.state = .toTarget then .targetLost else k.state } } ∧
  Raised .targetLost s t ∧ ReleaseAsked v.round ref t ∧ OwnKept (fun x => x = ref) s t ∧ RoundWithout ref v s t

/-- R142, first column, R147: an own reservation is lost to an objection, or one of a REASSERT round to a peer's CLAIM, with a
cause: by the part of the reference and the task state, or ignored, the reservation then being kept. -/
def Objected (cause : Reason) (ref : Ref) (v : Reservation) (s t : State) : Prop :=
  let ignored : Prop :=
    t.tracker = s.tracker ∧ t.claims = s.claims ∧ OwnKept (fun _ => False) s t ∧ ClaimBoxKept s t ∧
    t.link.boxes.release = s.link.boxes.release
  match s.tracker.task with
  | none => ignored
  | some k =>
    if k.source = ref then if k.state = .toSource then TaskClaimLost k k.target cause ref s t else ignored
    else if k.target = some ref then
      match k.state with
      | .toSource => TaskClaimLost k none .targetTaken ref s t
      | .liftPending | .verifyHold | .toTarget => TargetLost k ref v s t ∧ ownResvAt t ref = none
      | _ => ignored
    else ignored

/-- R136, R142, second column, R147, R165, R166, R181: an own reservation has been removed from its record. One of the current
START or RETARGET round loses the round; for any other the task is told by the part of the reference and its state, and a
RELEASE names the reference all the same. Of the link nothing else changes. -/
def Removed (ref : Ref) (v : Reservation) (s t : State) : Prop :=
  let untold : Prop := t.tracker = s.tracker ∧ OwnKept (fun x => x = ref) s t ∧ RoundWithout ref v s t
  LinkKeeps s.link.boxes.book s t ∧ ownResvAt t ref = none ∧
  (InRound s ref v → ∀ r ∈ s.claims.round, RoundLost r .removed s t ∧ RoundClosed r s t ∧
    (∀ x w, ownResvAt s x = some w → x ≠ ref → InRound s x w → RefFreed s t x) ∧
    (r.purpose = .retarget → r.entries.length = 1 → (∃ k ∈ s.tracker.task, k.state = .retargeting) →
      OwnKept (fun x => x = ref) s t)) ∧
  (¬ InRound s ref v →
    match s.tracker.task with
    | none => untold
    | some k =>
      ReleaseAsked v.round ref t ∧
      if k.source = ref then if k.state = .toSource then TaskClaimLost k k.target .removed ref s t else untold
      else if k.target = some ref then
        match k.state with
        | .toSource => TaskClaimLost k none .targetTaken ref s t
        | .liftPending | .verifyHold | .toTarget => TargetLost k ref v s t
        | _ => untold
      else untold)

/-! ### The tests of a claim (R131, R132) -/

/-- The reply of the first test that fails. -/
def firstFailing (tests : List (Bool × Reply)) : Option Reply := (tests.find? fun p => p.1).map fun p => p.2

/-- Whether a slot is RESERVED_OUT. -/
def isReservedOut : SlotContent → Bool
  | .reservedOut _ _ => true
  | _ => false

/-- R131: the tests of a source, in the order of its table; R108 gives the last. -/
def sourceTests (s : State) (source : Ref) (coil : CoilId) : List (Bool × Reply) :=
  match source with
  | .cradle _ _ => [(true, .err .badArg)]
  | .slot row column =>
    let c := contentAt s row column
    [ (decide (slotAt s row column = none), .err .badArg),
      (!(isOccupied c || isReservedOut c), .refusedWith .sourceState),
      (isReservedOut c, .refusedWith .sourceReserved),
      (decide ((slotCoil c).map CoilInfo.coil ≠ some coil), .refusedWith .sourceMismatch),
      (decide (column % 2 = 0) && (decide (0 < column ∧ contentAt s row (column - 1) ≠ .empty) ||
        decide (contentAt s row (column + 1) ≠ .empty)), .refusedWith .sourceCovered) ]

/-- R110: a lower slot whose coil has a recorded number that passes a test. -/
def lowerPasses (s : State) (row column : Nat) (field : CoilInfo → Option Nat) (test : Nat → Bool) : Bool :=
  ((slotCoil (contentAt s row column)).bind field).any test

/-- R110: a recorded number of the coil to be placed, tested against both lower coils. -/
def lowersPass (s : State) (row column : Nat) (field : CoilInfo → Option Nat) (test : Nat → Nat → Bool) :
    Option Nat → Bool
  | none => false
  | some v => lowerPasses s row (column - 1) field (test v) && lowerPasses s row (column + 1) field (test v)

/-- R190: the planned-placement check of a weight at a cradle of a record, with the shares of R186. -/
def plannedFits (t : Truck) (k : Cradle) (W : Int) : Bool :=
  let R := (W * k.offset + (t.trailer.L : Int) / 2) / t.trailer.L
  let K := t.K + (W - R)
  let A := t.A + R
  decide (k.content.code ≠ 2) && decide (K ≤ t.trailer.Kmax) && decide (A ≤ t.trailer.Amax) &&
  decide (K + A ≤ t.trailer.Gmax) && decide ((t.trailer.Kmin : Int) ≤ K)

/-- R132: the tests of a target, in the order of its two tables; R109, R110 and R190 give what they ask. -/
def targetTests (s : State) (source target : Ref) (weight width : Option Nat) : List (Bool × Reply) :=
  match target with
  | .slot row column =>
    let c := contentAt s row column
    let upper : Bool := decide (column % 2 = 1)
    [ (decide (slotAt s row column = none), .err .badArg),
      (!holdsNothing c, .refusedWith .targetState),
      (decide (c ≠ .empty), .refusedWith .targetReserved),
      (upper && (!(isOccupied (contentAt s row (column - 1)) && isOccupied (contentAt s row (column + 1))) ||
        decide (source = .slot row (column - 1) ∨ source = .slot row (column + 1))), .refusedWith .tierRule),
      (upper && !lowersPass s row column CoilInfo.weight (fun W v => decide (W ≤ v)) weight, .refusedWith .weightRule),
      (upper && !lowersPass s row column CoilInfo.width (fun w v => decide (v ≤ w + 1 ∧ w ≤ v + 1)) width,
        .refusedWith .widthRule) ]
  | .cradle bay index =>
    let cradle := cradleAt s bay index
    [ (decide (1 < bay ∨ 5 < index), .err .badArg),
      ((bayRecord s bay).all Truck.closed, .refusedWith .truckNotLoading),
      (cradle.all fun k => decide (k.content.code = 2), .refusedWith .targetState),
      (cradle.any fun k => decide (k.content.code = 1), .refusedWith .targetReserved),
      (!(weight.any fun W => (bayRecord s bay).any fun t => cradle.any fun k => plannedFits t k W),
        .refusedWith .loadLimit) ]

/-! ### Frames -/

/-- The sender of a frame received, whether the frame passes R42, and whether R52 keeps it from its owner where the
sender is geometry-foreign; none for a command that is no frame received. -/
def frameParts : Instr → Option (Nat × Bool × Bool)
  | .statusReceived sender r => some (sender, statusOk r, false)
  | .farewellReceived sender r => some (sender, statusOk r, false)
  | .claimReceived sender _ priority entries => some (sender, claimOk priority entries, true)
  | .objectReceived sender _ _ ref => some (sender, refOnLine ref, false)
  | .releaseReceived sender _ refs => some (sender, releaseOk refs, false)
  | .pickedReceived sender _ ref _ => some (sender, pickedOk ref, true)
  | .placedReceived sender _ ref _ _ _ => some (sender, refOnLine ref, true)
  | .truckArriveReceived sender _ _ _ _ offsets => some (sender, cradleCountOk offsets, true)
  | .truckCloseReceived sender _ _ => some (sender, true, true)
  | .truckDepartReceived sender _ _ => some (sender, true, true)
  | _ => none

/-- A frame reaches its owner: received outside CONFIG, from another station, well-formed, and not kept back by R52. -/
def Delivered (i : Instr) (s : State) : Prop :=
  ∃ p, frameParts i = some p ∧ s.link.state ≠ .config ∧ senderOk p.1 = true ∧ p.2.1 = true ∧ p.1 ≠ ownId s ∧
    (p.2.2 = true → senderForeign s p.1 = false)

/-- The link record after a frame received: no reception is under way. -/
def received (s : State) : Link := { s.link with receiving := false }

/-! ### Slots that no claim of the station holds -/

/-- Every slot but those named, and those that the station reserves, holds what it held and keeps its source. -/
def UnreservedSlotsKept (out : Nat → Nat → Prop) (s t : State) : Prop :=
  ∀ row column, ¬ out row column → ownResvAt s (.slot row column) = none →
    contentAt t row column = contentAt s row column ∧ sourceAt t row column = sourceAt s row column

/-- An upper slot that rests on a lower one (R102). -/
def restsOnSlot (k column : Nat) : Prop := isUpper k = true ∧ (k = column + 1 ∨ k + 1 = column)

/-- R113, R124: an upper slot that was RESERVED_IN by the station and lies over a lower slot that is not OCCUPIED has been
released to EMPTY as a removal; with a task, a RELEASE names it unless a running round held it. -/
def UpperFreed (row k : Nat) (s t : State) : Prop :=
  holdsNothing (contentAt s row k) = true → bothLowersOccupied t row k = false →
    ∀ v, ownResvAt s (.slot row k) = some v →
      contentAt t row k = .empty ∧ sourceAt t row k = some .own ∧
      (s.tracker.task ≠ none → ¬ InRound s (.slot row k) v → ReleaseAsked v.round (.slot row k) t)

/-- R113, R124: every upper slot that rests on a slot has been freed where it had to be. -/
def UppersFreed (row column : Nat) (s t : State) : Prop := ∀ k, restsOnSlot k column → UpperFreed row k s t

/-- R107: no upper slot holds a coil over a lower slot that is EMPTY or RESERVED_IN. -/
def TierLaw (s : State) : Prop :=
  ∀ row column, isSlot s row column → isUpper column = true → holdsCoil (contentAt s row column) = true →
    holdsNothing (contentAt s row (column - 1)) = false ∧ holdsNothing (contentAt s row (column + 1)) = false

/-! ### Bookings of the task tracker (R155, R159, R160, R170) -/

/-- Every slot but one holds what it held and keeps its source. -/
def OtherSlotsKept (row column : Nat) (s t : State) : Prop :=
  ∀ r c, (r, c) ≠ (row, column) → contentAt t r c = contentAt s r c ∧ sourceAt t r c = sourceAt s r c

/-- R33: the verify service: the measured weight lies within floor(E ÷ 32) + 5 of an expected weight E. -/
def verified (expected : Option Nat) (measured : Nat) : Bool :=
  expected.any fun E => decide (measured ≤ E + (E / 32 + 5) ∧ E ≤ measured + (E / 32 + 5))

/-- R155: the take-out of the task `k`: where the source is still RESERVED_OUT by the station the PICKED is queued, the
slot becomes RESERVED_IN (DISPUTED under a coil, with a RELEASE asked for: assumption 11), the hook record takes the coil
and the task goes on by the verify service and its target, with their notices; else the task is ABORTED with SOURCE_LOST
and nothing is booked. -/
def TakesOut (k : Task) (s t : State) : Prop :=
  match ownResvAt s k.source, contentAt s k.sourceRow k.sourceColumn with
  | some v, .reservedOut _ _ =>
    LinkKeeps (some (.picked v.round k.source k.coil)) s t ∧
    contentAt t k.sourceRow k.sourceColumn =
      (if coveredByCoil s k.sourceRow k.sourceColumn then .disputed else .reservedIn v) ∧
    sourceAt t k.sourceRow k.sourceColumn = some .own ∧
    OtherSlotsKept k.sourceRow k.sourceColumn s t ∧
    t.trucks.bay0 = s.trucks.bay0 ∧ t.trucks.bay1 = s.trucks.bay1 ∧
    (if coveredByCoil s k.sourceRow k.sourceColumn then ReleaseAsked v.round k.source t ∧ Raised .disputed s t
      else t.claims = s.claims ∧ t.link =
        { s.link with boxes := { s.link.boxes with book := some (.picked v.round k.source k.coil) } }) ∧
    t.tracker.hook = s.tracker.hook.map (fun h => { h with coil := some k.coil, width := k.width }) ∧
    t.tracker.task = some { k with
      state := if verified k.weight k.measuredWeight then (if k.target.isSome then .toTarget else .targetLost)
        else .verifyHold
      waiting := none } ∧
    (verified k.weight k.measuredWeight = false → Raised .weightMismatch s t) ∧
    (verified k.weight k.measuredWeight = true → k.target = none → Raised .targetLost s t)
  | _, _ =>
    t.tracker.task = some { k with state := .aborted, reason := some .sourceLost, waiting := none } ∧
    t.tracker.hook = s.tracker.hook.map (fun h => { h with coil := none, width := none, origin := .unknown }) ∧
    LinkKeeps s.link.boxes.book s t ∧ OwnReleased s t ∧ Raised .aborted s t ∧ Raised .hookUnknown s t

/-- R105, R106, R116: a slot after the station has put its coil into it, held by the station under `held` or not, with own
as its source of last change. -/
def PutsInSlot (row column : Nat) (held : Option Reservation) (k : Task) (s t : State) : Prop :=
  sourceAt t row column = some .own ∧
  match held, contentAt s row column with
  | some _, .reservedIn _ =>
    contentAt t row column = .occupied { coil := k.coil, weight := some k.measuredWeight, width := k.width }
  | _, before => contentAt t row column = .disputed ∧ (before ≠ .disputed → Raised .disputed s t)

/-- R187, R188: a cradle and the reactions of its record after the station has put its coil into it; nothing of the record
changes where the cradle was OCCUPIED, and any but a cradle the station holds is a conflict. -/
def PutsInCradle (bay index : Nat) (k : Task) (s t : State) : Prop :=
  (ownResvAt s (.cradle bay index) = none → Raised .truckConflict s t) ∧
  ∀ b c, bayRecord s bay = some b → b.cradles[index]? = some c →
    ∃ b', bayRecord t bay = some b' ∧
      match c.content with
      | .occupied _ _ _ => b'.K = b.K ∧ b'.A = b.A ∧ b'.overLimit = b.overLimit ∧ cradleContent t bay index = some c.content
      | _ => cradleContent t bay index = some (.occupied k.coil k.measuredWeight .own) ∧
          b'.A = b.A + rearShare b.trailer.L k.measuredWeight c.offset ∧
          b'.K + b'.A = b.K + b.A + k.measuredWeight ∧ b'.overLimit = b'.isOver ∧
          (b'.overLimit = true → Raised .truckOver s t)

/-- R159: the put-in of the task `k` at its target: the PLACED is queued, the target takes the coil, every other
reservation of the station is released and the task is DONE, whatever has become of its named target. -/
def PutsIn (k : Task) (ref : Ref) (s t : State) : Prop :=
  LinkKeeps (some (.placed (((ownResvAt s ref).map Reservation.round).getD k.round) ref k.coil k.measuredWeight k.width)) s t ∧
  (match ref with
    | .slot row column => isSlot s row column → PutsInSlot row column (ownResvAt s ref) k s t
    | .cradle bay index => PutsInCradle bay index k s t) ∧
  OthersReleased ref s t ∧
  t.tracker.task.map (fun x => { x with target := k.target }) =
    some { k with state := .done, reason := none, waiting := none } ∧
  t.tracker.hook = s.tracker.hook ∧
  Raised .taskDone s t ∧ NoOwn t

/-- R160: the return of the task `k` to a source held under `held`: the PLACED is queued, the source takes the coil, every
other reservation of the station is released and the task is CANCELLED with RETURNED, whatever has become of its named
target. -/
def Returns (held : Option Reservation) (k : Task) (s t : State) : Prop :=
  LinkKeeps (some (.placed ((held.map Reservation.round).getD k.round) k.source k.coil k.measuredWeight k.width)) s t ∧
  (isSlot s k.sourceRow k.sourceColumn → PutsInSlot k.sourceRow k.sourceColumn held k s t) ∧
  OthersReleased k.source s t ∧
  t.tracker.task.map (fun x => { x with target := k.target }) =
    some { k with state := .cancelled, reason := some .returned, waiting := none } ∧
  t.tracker.hook = s.tracker.hook ∧ Raised .cancelled s t ∧ NoOwn t

/-- The notices that a booking may raise (R106, R155, R159, R160, R187, R188). -/
def bookingNotices : List Notice :=
  [.disputed, .weightMismatch, .aborted, .taskDone, .cancelled, .truckConflict, .truckOver] ++ lossNotices

/-! ### Configuration writes (R202) -/

/-- The item and the values that a CFG_WRITE of any row carries; none for any other command. -/
def cfgItem : Instr → Option (Nat × List Nat)
  | .cfgWrite item values => some (item, values)
  | .cfgWriteStationId v => some (1, [v])
  | .cfgWriteBeat v => some (2, [v])
  | .cfgWriteGeometry g => some (39, [g.rows, g.lower, g.rowBase, g.rowPitch, g.posBase, g.posPitch])
  | .cfgWriteWeighing w v => some (weighItemNumber w, [v])
  | .cfgWriteBay bay k l o => some (if bay ≤ 1 then 41 + bay else 0, [k, l, o])
  | _ => none

/-- R22, R76, R103, R175, R202: what the configuration holds of an item after values have been written to it. -/
def Written (item : Nat) (values : List Nat) (c d : Cfg) : Prop :=
  let v := values.headD 0
  match item with
  | 2 => d.beat = if v ≤ 75 then 50 else if v ≤ 150 then 100 else 200
  | 15 => d.runwayMin = min (min v 400000) c.runwayMax
  | 16 => d.runwayMax = max (min v 400000) c.runwayMin
  | 17 => d.trolleyMin = min (min v 60000) c.trolleyMax
  | 18 => d.trolleyMax = max (min v 60000) c.trolleyMin
  | 19 => d.hoistBottom = min (min v 40000) c.hoistTop
  | 20 => d.hoistTop = max (min v 40000) c.hoistBottom
  | 24 => d.marksBridge = values.map fun p => min p 400000
  | 25 => d.marksTrolley = values.map fun p => min p 60000
  | 32 => d.liftThreshold = max 10 (min v 2000) ∧
      d.releaseThreshold = if d.liftThreshold ≤ c.releaseThreshold then d.liftThreshold - 1 else c.releaseThreshold
  | 33 => d.releaseThreshold = min (max 5 (min v 1999)) (c.liftThreshold - 1)
  | 38 => d.bookMode = if v = 0 then .auto else .manual
  | 39 => d.geometry = geometryOf values
  | 41 => d.bay0 = bayItemOf values
  | 42 => d.bay1 = bayItemOf values
  | _ => match scalarRange item with
    | some (lo, hi, _) => getScalar d item = max lo (min hi v)
    | none => True

/-! ### Laws that every step keeps -/

/-- The weight a cradle holds. -/
def CradleContent.load : CradleContent → Int
  | .occupied _ weight _ => weight
  | _ => 0

/-- R179, R186: the two reactions of a record sum to the empty trailer and the coils placed on it. -/
def Truck.Balanced (t : Truck) : Prop :=
  t.K + t.A = (t.trailer.K0 : Int) + t.trailer.A0 + (t.cradles.map fun k => k.content.load).sum

/-- Both truck records are balanced. -/
def TruckBalance (s : State) : Prop :=
  (∀ t ∈ s.trucks.bay0, t.Balanced) ∧ (∀ t ∈ s.trucks.bay1, t.Balanced)

/-- R60: at most twelve entries, none twice, each of a station 1 to 30 and none of the station itself. -/
def TableLaw (s : State) : Prop :=
  s.table.entries.length ≤ 12 ∧ (s.table.entries.map Entry.id).Pairwise (· < ·) ∧
  ∀ e ∈ s.table.entries, 1 ≤ e.id ∧ e.id ≤ 30 ∧ s.cfg.stationId ≠ some e.id

/-- R102, R103: the map holds one record for each slot of the geometry, and none while it is unset. -/
def MapShape (s : State) : Prop :=
  match s.cfg.geometry with
  | none => s.map = []
  | some g => s.map.length = g.rows * columns g

/-- R52, R63, R71: a peer that holds a reservation has an entry that is FRESH or STALE and not geometry-foreign. -/
def PeersKnown (s : State) : Prop :=
  ∀ v ∈ allReservations s, ∀ id, v.holder = .peer id →
    ∃ e, entryOf s id = some e ∧ e.state ≠ .lost ∧ e.foreign = false

/-- R170: the station holds reservations only while its task is running. -/
def OwnOnlyRunning (s : State) : Prop :=
  taskRunning s = false → ∀ v ∈ allReservations s, v.holder ≠ .own

end Sys2Proof.Machine
end

