-- ==== Sys2Proof/WellFormed.lean ====
section
/-! DEFINITION. Well-formed commands: their operands fit the fields that carry them. A frame received is one that
passes R42, and a request's numbers fit the bytes of its payload (section 10.2). `exec` gives every command a meaning,
well-formed or not. -/

namespace Sys2Proof

open Sys2Proof.Machine

/-- A number fits a field of n bytes. -/
def fits (n v : Nat) : Bool := decide (v < 256 ^ n)

/-- A reference fits the two bytes after its mark. -/
def refFits : Ref → Bool
  | .slot row column => fits 1 row && fits 1 column
  | .cradle bay index => fits 1 bay && fits 1 index

/-- The numbers of a trailer fit two bytes each. -/
def trailerFits (t : Trailer) : Bool :=
  fits 2 t.L && fits 2 t.K0 && fits 2 t.A0 && fits 2 t.Kmax && fits 2 t.Amax && fits 2 t.Gmax && fits 2 t.Kmin

/-- A STATUS received: R42, and a stable net and signature that fit two bytes (section 3.1). -/
def statusWf (r : StatusReport) : Bool :=
  statusOk r && fits 2 r.signature &&
  match r.report.stableNet with
  | none => true
  | some n => decide (-32768 ≤ n) && decide (n ≤ 32767)

/-- The arguments of a ZONE_WRITE fit their fields. -/
def zoneFits (z : ZoneArgs) : Bool :=
  fits 1 z.valid && fits 4 z.bridgeMin && fits 4 z.bridgeMax && fits 2 z.trolleyMin && fits 2 z.trolleyMax &&
  fits 1 z.kind && fits 2 z.clearance && fits 1 z.condition && fits 1 z.number

/-- The geometry values fit their fields. -/
def geometryFits (g : Geometry) : Bool :=
  fits 1 g.rows && fits 1 g.lower && fits 4 g.rowBase && fits 2 g.rowPitch && fits 2 g.posBase && fits 2 g.posPitch

/-- An optional number fits a field. -/
def optFits (n : Nat) : Option Nat → Bool
  | none => true
  | some v => fits n v

/-- A command whose operands fit the fields that carry them. -/
def WellFormed : Instr → Bool
  | .pinResetAssert | .pinResetRelease | .encoderTransition _ _ _ | .markEdge _ | .positionSample
  | .weighingCycle _ _ _ _ | .lineFault _ _ | .frameStart | .arbitrationLost | .frameSent | .transmitError
  | .receiveError | .ownIdentifierFrame => true
  | .statusReceived sender r => senderOk sender && statusWf r
  | .farewellReceived sender r => senderOk sender && statusWf r
  | .claimReceived sender round priority entries => senderOk sender && fits 1 round && claimOk priority entries
  | .objectReceived sender claimant round ref =>
    senderOk sender && fits 1 claimant && fits 1 round && refOnLine ref
  | .releaseReceived sender round refs => senderOk sender && fits 1 round && releaseOk refs
  | .pickedReceived sender round ref _ => senderOk sender && fits 1 round && pickedOk ref
  | .placedReceived sender round ref _ weight width =>
    senderOk sender && fits 1 round && refOnLine ref && decide (weight ≤ 12000) && decide (width.getD 0 ≤ 7)
  | .truckArriveReceived sender bay truckRef _ t offsets =>
    senderOk sender && fits 1 bay && cradleCountOk offsets && fits 2 truckRef && trailerFits t && offsets.all (fits 2)
  | .truckCloseReceived sender bay truckRef => senderOk sender && fits 1 bay && fits 2 truckRef
  | .truckDepartReceived sender bay truckRef => senderOk sender && fits 1 bay && fits 2 truckRef
  | .beatExpiry | .deferredStatusCompose | .farewellCompose | .releaseRequestRetry | .bookingResumed
  | .claimWindowExpiry => true
  | .peerReservationHeld ref => refOnLine ref
  | .entryStale id => senderOk id
  | .neighbourLost id => senderOk id
  | .untrackedClear | .chipSelectRise _ _ | .readReply _ | .unknownRequest => true
  | .cfgWrite item values => fits 1 item && values.all (fits 4)
  | .cfgWriteStationId value => fits 1 value
  | .cfgWriteBeat value => fits 4 value
  | .cfgWriteGeometry g => geometryFits g
  | .cfgWriteWeighing _ value => fits 2 value
  | .cfgWriteBay bay kingpin line orientation => bayOk bay && fits 4 kingpin && fits 2 line && fits 1 orientation
  | .cfgRead item => fits 1 item
  | .zoneWrite index zone => fits 1 index && zoneFits zone
  | .join | .leave | .restart | .zeroSet | .zoneEnable _ _ | .stateRead | .mapFind _ | .taskConfirm | .taskCancel
  | .taskRead | .noticeRead | .noticeClear _ => true
  | .posReference axis position => fits 1 axis && fits 4 position
  | .mapWrite ref state _ weight width => refFits ref && fits 1 state && optFits 2 weight && optFits 1 width
  | .mapRead ref => refFits ref
  | .taskStart id kind source target _ priority =>
    fits 2 id && fits 1 kind && refFits source && refFits target && fits 1 priority
  | .taskRetarget target => refFits target
  | .truckArrive bay truckRef orientation t offsets =>
    fits 1 bay && fits 2 truckRef && fits 1 orientation && trailerFits t && fits 1 offsets.length && offsets.all (fits 2)
  | .truckClose bay => fits 1 bay
  | .truckDepart bay => fits 1 bay
  | .truckRead bay => fits 1 bay
  | .neighbourRead id => fits 1 id
  | .neighbourDrop id => fits 1 id
  | .noticeEnable _ _ global => fits 1 global

end Sys2Proof
end

