-- ==== Sys2Proof/Certificates/Slice0/Obligations.lean ====
section
/-! DEFINITION. The claims about the part, one definition each. A docstring names the rules a claim is read from; a claim
that also rests on the model's own choice names its entry in the assumption log. -/

open Sys2Proof Sys2Proof.Machine

/-! ### Steps, the queue and the resets -/

/-- The model's own queue (assumption 1): a step runs the command at its front on the state with the queue's rest. -/
def Obligations.StepRunsFrontCommand : Prop :=
  ∀ (c : Instr) (rest : List Instr) (s : State), s.pending = c :: rest → step s = exec c (s.withPending rest)

/-- Every command completes in every state, and none touches the queue of commands that wait. -/
def Obligations.EveryCommandCompletesAndKeepsTheQueue : Prop :=
  ∀ (c : Instr) (s : State), ∃ t, exec c s = .next t ∧ t.pending = s.pending

/-- The model's choice for an empty queue (assumptions 1, 2, 4, 35 and 43): the commands that follow at once from the state
are put into the queue, or else 1 ms passes and the commands that have fallen due are, each once and in a free order. R3,
R16, R44, R56, R59, R64, R65, R69, R134, R140, R145, R169, R197: when each is due, and what the 1 ms advances. -/
def Obligations.EmptyQueuePassesTheMillisecond : Prop :=
  (∀ s : State, s.pending = [] →
     let row (p : Prop) [Decidable p] (c : Instr) : List Instr := if p then [c] else []
     let atOnce : List Instr :=
       (match s.port.request with
         | none => []
         | some r => [decodeRequest r]) ++
       row (s.link.statusDeferred = true ∧ s.link.sending ≠ some .status) .deferredStatusCompose ++
       row (s.link.state = .active ∧ s.link.leaving = true ∧ s.link.boxes.release = none ∧ s.link.boxes.book = none ∧
         s.link.boxes.truck = none ∧ s.claims.heldRequests = [] ∧ farewellWaits s.link.boxes = false ∧
         s.link.sending ≠ some .status) .farewellCompose ++
       row (s.link.boxes.release = none ∧ s.claims.heldRequests ≠ []) .releaseRequestRetry ++
       row (s.link.boxes.book = none ∧ ∃ k ∈ s.tracker.task, k.waiting.isSome = true) .bookingResumed
     let u := tick s
     let windowPassed (v : Reservation) : Bool :=
       decide (v.holder ≠ .own ∧ v.phase = .pending ∧ u.cfg.claimWindow ≤ (u.clock.now - v.since).toNat)
     let cradlesDue (bay : Nat) : List Instr :=
       ((bayRecord u bay).map Truck.cradles |>.getD []).zipIdx.filterMap fun p =>
         if (cradleResv p.1.content).any windowPassed then some (.peerReservationHeld (.cradle bay p.2)) else none
     let due : List Instr :=
       (u.table.entries.filterMap fun e =>
         if e.state ≠ .lost ∧ 10 * u.cfg.beat < e.age then some (.neighbourLost e.id) else none) ++
       (u.table.entries.filterMap fun e =>
         if e.state = .fresh ∧ 3 * u.cfg.beat < e.age ∧ e.age ≤ 10 * u.cfg.beat then some (.entryStale e.id) else none) ++
       row (u.table.untracked = true ∧ 10 * u.cfg.beat < u.table.untrackedAge) .untrackedClear ++
       row (∃ r ∈ u.claims.round, r.stage = .opened ∧ u.cfg.claimWindow ≤ r.windowTime) .claimWindowExpiry ++
       (u.map.zipIdx.filterMap fun p =>
         if (slotResv p.1.content).any windowPassed then
           some (.peerReservationHeld (.slot (refOfIndex u p.2).1 (refOfIndex u p.2).2)) else none) ++
       cradlesDue 0 ++ cradlesDue 1 ++
       row (20 ≤ u.pos.sampleElapsed) .positionSample ++
       row (10 ≤ u.weigh.cycleElapsed)
         (.weighingCycle u.weigh.a.input u.weigh.a.input u.weigh.b.input u.weigh.b.input) ++
       row (u.link.beatPeriod ≤ u.link.beatElapsed) .beatExpiry
     ∃ t, step s = .next t ∧
       if s.clock.resetHeld then t = s
       else
         let base := if atOnce = [] then u else s
         t.pending.Perm (if atOnce = [] then due else atOnce) ∧
         t.clock = { base.clock with idleCount := s.clock.idleCount + 1 } ∧
         t.notices = base.notices ∧ t.perm = base.perm ∧ t.trucks = base.trucks ∧
         ∀ b, b ≠ .clock → SameBlock base t b) ∧
  (∀ s : State,
     (tick s).clock = { s.clock with now := s.clock.now + 1 } ∧
     (tick s).pos = { s.pos with sampleElapsed := s.pos.sampleElapsed + 1 } ∧
     (tick s).weigh = { s.weigh with cycleElapsed := s.weigh.cycleElapsed + 1 } ∧
     (tick s).link = { s.link with beatElapsed := s.link.beatElapsed + 1 } ∧
     (tick s).table = { s.table with
       entries := s.table.entries.map fun e => { e with age := min 65535 (e.age + 1) }
       untrackedAge := if s.table.untracked then min 65535 (s.table.untrackedAge + 1) else s.table.untrackedAge } ∧
     (tick s).claims = { s.claims with
       round := s.claims.round.map fun r =>
         if r.stage = .opened then { r with windowTime := min s.cfg.claimWindow (r.windowTime + 1) } else r } ∧
     Keeps [.clock, .pos, .weigh, .link, .table, .claims] s (tick s) ∧
     (tick s).notices = s.notices ∧ (tick s).perm = s.perm ∧ (tick s).trucks = s.trucks)

/-- R14, R35, R59, R73, R100, R127, R148, R173, R194, R208: the release of the reset input leaves every block at its reset
values. The values that no rule names are choices (assumptions 3 to 8), and so is what of the pins stands (assumption 29). -/
def Obligations.PinResetReleaseResetsEveryBlock : Prop :=
  ∀ s : State,
    ∃ t, exec .pinResetRelease s = .next t ∧
      t.trucks.bay0 = none ∧ t.trucks.bay1 = none ∧ t.cfg.bay0 = none ∧ t.cfg.bay1 = none ∧ t.cfg.cradleWindow = 300 ∧
      t.notices = NoticeUnit.reset ∧ t.notices.sources = 0 ∧ t.notices.attn = false ∧
      t.cfg = Cfg.reset ∧ t.cfg.stationId = none ∧ t.cfg.geometry = none ∧ t.map = [] ∧
      t.table = NeighbourTable.reset ∧ t.perm = PermissionUnit.reset ∧ t.perm.outputs = Levels.all .stop ∧
      t.claims = ClaimEngine.reset ∧ t.tracker = Tracker.reset ∧ t.trucks = TruckUnit.reset ∧ t.port = Port.reset ∧
      t.clock = { s.clock with resetHeld := false, now := 0 } ∧
      t.link = { Link.reset with lineFault := s.link.lineFault } ∧
      (∀ x, t.pos.axis x = { AxisUnit.reset with lineA := (s.pos.axis x).lineA, lineB := (s.pos.axis x).lineB }) ∧
      t.pos.sampleElapsed = 0 ∧
      t.weigh = { WeighingUnit.reset with
        a := { Channel.reset with input := s.weigh.a.input }, b := { Channel.reset with input := s.weigh.b.input } } ∧
      t.pending = s.pending

/-- R208: asserting the reset input takes READY low, deasserts ATTN and puts all six outputs at STOP, and while it is held no
command acts but those of the reset input itself; of the encoders and the line monitor only the pins follow (assumption 29). -/
def Obligations.HeldResetStopsTheBlock : Prop :=
  (∀ s : State,
     ∃ t, exec .pinResetAssert s = .next t ∧ t.clock = { s.clock with resetHeld := true } ∧ t.port.ready = false ∧
       t.port.request = none ∧ t.notices = { s.notices with attn := false } ∧ t.perm.outputs = Levels.all .stop ∧
       Keeps [.clock, .port] s t) ∧
  (∀ (c : Instr) (s : State), s.clock.resetHeld = true →
     match c with
     | .pinResetAssert | .pinResetRelease => ∃ t, exec c s = .next t
     | .encoderTransition axis a b =>
       exec c s = .next (s.withPos (s.pos.withAxis axis { s.pos.axis axis with lineA := a, lineB := b }))
     | .lineFault reported _ => exec c s = .next (s.withLink { s.link with lineFault := reported })
     | _ => exec c s = .next s)

/-- R15, R36, R58, R73, R101, R105, R128, R148, R174, R195, R207: RESTART is refused while a task runs or the hook is loaded,
and else makes each block's changes and clears every flag. -/
def Obligations.RestartClearsTheBlocks : Prop :=
  ∀ s : State, Running s →
    if taskRunning s then Answers .restart (.err .busy) s
    else if s.weigh.load = .loaded then Answers .restart (.err .hookLoaded) s
    else
      ∃ t, exec .restart s = .next t ∧
        t.link = { s.link with
          state := .config, txErr := 0, rxErr := 0, leaving := false, beats := 0, afterMuted := false, sending := none
          receiving := false, statusDeferred := false, withdrawal := none
          boxes := { s.link.boxes with status := none, claim := none, objects := [] } } ∧
        t.claims = { s.claims with round := none } ∧
        t.weigh = { s.weigh with
          a := { s.weigh.a with fault := false, railRun := 0, clearRun := 0 }
          b := { s.weigh.b with fault := false, railRun := 0, clearRun := 0 }
          window := [], stableNet := none, lastStable := none, overload := Condition.reset, slack := Condition.reset } ∧
        t.table = NeighbourTable.reset ∧ t.tracker = Tracker.reset ∧ AllReleased (fun _ => true) .own s t ∧
        allReservations t = [] ∧
        (∀ i, t.notices.sources.getLsbD i = true → i = Notice.zoneInside.bit ∨ i = Notice.loadLimit.bit) ∧
        (∀ i, t.notices.groups.getLsbD i = true → ∃ n ∈ evaluationNotices,
          i = n.group ∧ sourceEnabled n s.notices = true ∧ t.notices.sources.getLsbD n.bit = true) ∧
        (Evaluated s → t.notices.sources = 0 ∧ t.notices.groups = 0) ∧
        t.notices.sourceEnable = s.notices.sourceEnable ∧ t.notices.groupEnable = s.notices.groupEnable ∧
        t.notices.global = s.notices.global ∧ OutputsFollow t ∧
        t.port = { s.port with ready := true, request := none, reply := some (.okWith []) } ∧
        Keeps [.link, .weigh, .table, .claims, .map, .tracker, .trucks, .port] s t

/-! ### The laws that every step keeps -/

/-- The state after a pin reset keeps every law. -/
def Obligations.ResetKeepsTheLaws : Prop :=
  OutputsFollow State.reset ∧ TruckBalance State.reset ∧ TableLaw State.reset ∧ MapShape State.reset ∧
  PeersKnown State.reset ∧ OwnOnlyRunning State.reset

/-- R74, R75, R208, R210: after every step the six outputs are at the lowest offer and ATTN is as its flags and enables
give it, if they were before. -/
def Obligations.StepKeepsOutputs : Prop := ∀ s t : State, OutputsFollow s → step s = .next t → OutputsFollow t

/-- R179, R186, R188, R189: every step keeps K + A of each truck record at the empty trailer and the coils on it. -/
def Obligations.StepKeepsTruckBalance : Prop := ∀ s t : State, TruckBalance s → step s = .next t → TruckBalance t

/-- R60, R62, R67, R102, R103, R203: every step keeps the neighbour table to twelve different peers, by ascending identifier
(assumption 42), and the map to one record for each slot. -/
def Obligations.StepKeepsTableAndMap : Prop :=
  ∀ s t : State, TableLaw s → MapShape s → step s = .next t → TableLaw t ∧ MapShape t

/-- R52, R63, R65, R66, R71, R139, R203: at every step a peer that holds a reservation has an entry that is FRESH or STALE
and not geometry-foreign. -/
def Obligations.StepKeepsPeersKnown : Prop := ∀ s t : State, PeersKnown s → step s = .next t → PeersKnown t

/-- R133, R145, R146, R170: at every step the station holds reservations only while its task is running. -/
def Obligations.StepKeepsOwnOnlyRunning : Prop := ∀ s t : State, OwnOnlyRunning s → step s = .next t → OwnOnlyRunning t
/-! ### Position unit (chapter 1) -/

/-- R1, R6: one line changed counts one, up where the lines go through 00, 10, 11, 01 (the order is DEDUCED, assumption
14); both changed is an encoder fault. -/
def Obligations.EncoderTransitionCounts : Prop :=
  ∀ (axis : Axis) (a b : Bool) (s : State), Running s →
    let u := s.pos.axis axis
    let fault : Bool := (u.lineA != a) && (u.lineB != b)
    let still : Bool := (u.lineA == a) && (u.lineB == b)
    let up : Bool := [(false, false, true, false), (true, false, true, true), (true, true, false, true),
      (false, true, false, false)].contains (u.lineA, u.lineB, a, b)
    ∃ t, exec (.encoderTransition axis a b) s = .next t ∧
      t.pos.axis axis = { u with
        lineA := a
        lineB := b
        counter := if fault || still then u.counter else if up then u.counter + 1 else u.counter - 1
        state := if fault then .suspect else u.state
        remembered := if fault then none else u.remembered } ∧
      OtherAxesKept axis s t ∧
      Acts [.pos] (if fault && u.state != .suspect then [.posSuspect] else []) [] s t

/-- R3 to R6, R77, R80: the position sample of all three axes. -/
def Obligations.PositionSampleTakesPositions : Prop :=
  ∀ s : State, Running s →
    let raw (x : Axis) : Int := (s.pos.axis x).offset + ((s.pos.axis x).counter.toInt * scaleOf s.cfg x) / 1000
    let current (x : Axis) : Int := max 0 (min (axisMax x) (raw x))
    let doubt (x : Axis) : Bool := decide (raw x < 0 ∨ (axisMax x : Int) < raw x ∨
      (s.cfg.vmax : Int) < ((raw x - (s.pos.axis x).current).natAbs : Int) * 25)
    ∃ t, exec .positionSample s = .next t ∧
      (∀ x, t.pos.axis x = { s.pos.axis x with
        current := current x
        previous := (s.pos.axis x).current
        speed := if x = .hoist then (s.pos.axis x).speed
          else max (-8000) (min 8000 ((current x - (s.pos.axis x).current) * 50))
        state := if doubt x then .suspect else (s.pos.axis x).state
        remembered := if doubt x then none else (s.pos.axis x).remembered }) ∧
      t.pos.sampleElapsed = 0 ∧
      t.perm.hoistPrev = s.perm.hoistNow ∧ t.perm.hoistNow = current .hoist ∧
      t.perm.hoistSpeed = max (-8000) (min 8000 ((current .hoist - s.perm.hoistNow) * 50)) ∧
      t.perm.switches = s.perm.switches ∧ t.perm.zones.map Zone.entry = s.perm.zones.map Zone.entry ∧
      SameReports s t ∧ t.table.entries = s.table.entries.map (evalEntry t) ∧
      Acts [.pos, .perm, .table]
        (if [Axis.bridge, .trolley, .hoist].any fun x => doubt x && (s.pos.axis x).state != .suspect then [.posSuspect]
          else []) [] s t

/-- R7 to R10: a mark edge takes the nearest mark; an accepted or confirming one corrects the axis, any other is remembered
and makes the axis SUSPECT. With no mark configured nothing changes. That the scale is the one that stands, also between a
write of it and the next position sample (R2), is a choice (assumption 45); that the neighbour entries are evaluated at the
moved position is DEDUCED (assumption 9). -/
def Obligations.MarkEdgeCorrectsOrDoubts : Prop :=
  ∀ (m : MarkedAxis) (s : State), Running s →
    let x := markedAxis m
    let u := s.pos.axis x
    let pm : Int := u.offset + (u.counter.toInt * scaleOf s.cfg x) / 1000
    (marksOf s.cfg m = [] → ∃ t, exec (.markEdge m) s = .next t ∧ Acts [] [] [] s t) ∧
    ∀ k ∈ marksOf s.cfg m,
      (∀ k' ∈ marksOf s.cfg m, ((k : Int) - pm).natAbs < ((k' : Int) - pm).natAbs ∨
        (((k : Int) - pm).natAbs = ((k' : Int) - pm).natAbs ∧ k ≤ k')) →
      let e : Int := k - pm
      ∃ t, exec (.markEdge m) s = .next t ∧ OtherAxesKept x s t ∧
        if e.natAbs ≤ s.cfg.tolerance ∨
            (u.state = .suspect ∧ ∃ r ∈ u.remembered, (e - r).natAbs ≤ s.cfg.tolerance) then
          t.pos.axis x = { u with
            offset := u.offset + e
            current := max 0 (min (axisMax x) (u.current + e))
            previous := max 0 (min (axisMax x) (u.previous + e))
            remembered := none
            state := .valid } ∧
          SameReports s t ∧ t.table.entries = s.table.entries.map (evalEntry t) ∧ Acts [.pos, .table] [] [] s t
        else
          t.pos.axis x = { u with remembered := some e, state := .suspect } ∧ Acts [.pos] [.posSuspect] [] s t

/-- R11, R12, R77: POS_REFERENCE, its checks in order and its effect. That the offset is found with the scale that stands, also
between a write of it and the next position sample (R2), is a choice (assumption 45); that the neighbour entries are
evaluated at the moved position is DEDUCED (assumption 9). -/
def Obligations.PosReferenceSetsAxis : Prop :=
  ∀ (code position : Nat) (s : State), Running s →
    match axisOfCode code with
    | none => Answers (.posReference code position) (.err .badArg) s
    | some x =>
      let u := s.pos.axis x
      if axisMax x < position then Answers (.posReference code position) (.err .badArg) s
      else if u.current ≠ u.previous then Answers (.posReference code position) (.err .moving) s
      else
        ∃ t, exec (.posReference code position) s = .next t ∧
          t.pos.axis x = { u with
            offset := position - (u.counter.toInt * scaleOf s.cfg x) / 1000
            current := position
            previous := position
            remembered := none
            state := .valid } ∧
          OtherAxesKept x s t ∧
          t.perm.hoistNow = (if x = .hoist then (position : Int) else s.perm.hoistNow) ∧
          t.perm.hoistPrev = (if x = .hoist then (position : Int) else s.perm.hoistPrev) ∧
          t.perm.hoistSpeed = s.perm.hoistSpeed ∧ t.perm.switches = s.perm.switches ∧
          t.perm.zones.map Zone.entry = s.perm.zones.map Zone.entry ∧
          SameReports s t ∧ t.table.entries = s.table.entries.map (evalEntry t) ∧
          Accepts [.pos, .perm, .table] [] [] [] s t
/-! ### Weighing unit (chapter 2) -/

/-- R16 to R24, R30: the measurements of a weighing cycle: codes, fine windows and values, runs, weights, nets and the window. -/
def Obligations.WeighingCycleMeasures : Prop :=
  ∀ (coarseA fineA coarseB fineB : Int) (s : State), Running s →
    let code (x : Int) : Nat := (max 0 (min 1023 (x / 16))).toNat
    let middle (x : Int) : Nat := code x * 16 + 8
    let base (x : Int) : Nat :=
      if middle x % 1024 < 512 then middle x / 1024 - 1 else if middle x / 1024 = 15 then 14 else middle x / 1024
    let fine (coarseIn fineIn : Int) : Nat := (max 0 (min 1023 ((fineIn - base coarseIn * 1024) / 2))).toNat
    let value (coarseIn fineIn : Int) : Nat :=
      if fine coarseIn fineIn = 0 ∨ fine coarseIn fineIn = 1023 then middle coarseIn
      else base coarseIn * 1024 + 2 * fine coarseIn fineIn
    let rail (x : Int) : Bool := code x == 0 || code x == 1023
    let faulted (x : Int) (c : Channel) : Bool :=
      if c.fault then rail x || decide (c.clearRun + 1 < 5) else rail x && decide (5 ≤ c.railRun + 1)
    let channel (fs : Nat) (coarseIn fineIn : Int) (c : Channel) : Channel :=
      { input := fineIn
        coarse := code coarseIn
        railRun := if c.fault then c.railRun
          else if rail coarseIn && decide (c.railRun + 1 < 5) then c.railRun + 1 else 0
        clearRun := if c.fault then (if rail coarseIn || decide (5 ≤ c.clearRun + 1) then 0 else c.clearRun + 1)
          else if faulted coarseIn c then 0 else c.clearRun
        value := value coarseIn fineIn
        weight := (value coarseIn fineIn * fs + 8192) / 16384
        fault := faulted coarseIn c }
    let entered : Bool := (faulted coarseA s.weigh.a && !s.weigh.a.fault) || (faulted coarseB s.weigh.b && !s.weigh.b.fault)
    let kept : List Int := if entered then [] else s.weigh.window
    ∃ t, exec (.weighingCycle coarseA fineA coarseB fineB) s = .next t ∧
      t.weigh.a = channel s.cfg.fsA coarseA fineA s.weigh.a ∧ t.weigh.b = channel s.cfg.fsB coarseB fineB s.weigh.b ∧
      t.weigh.gross = t.weigh.a.weight + t.weigh.b.weight ∧
      t.weigh.net = (if t.weigh.a.fault || t.weigh.b.fault then none else some ((t.weigh.gross : Int) - s.cfg.tare)) ∧
      t.weigh.window = (match t.weigh.net with
        | none => kept
        | some n => if 8 < (kept ++ [n]).length then (kept ++ [n]).tail else kept ++ [n]) ∧
      t.weigh.stableNet =
        (if t.weigh.net.isSome ∧ t.weigh.window.length = 8 ∧
            ∀ x ∈ t.weigh.window, ∀ y ∈ t.weigh.window, x - y ≤ s.cfg.stabilityBand then
          some ((t.weigh.window.sum + 4) / 8) else none) ∧
      t.weigh.lastStable = t.weigh.stableNet.or s.weigh.lastStable ∧
      t.weigh.cycleElapsed = 0

/-- R25 to R31, R34: what a weighing cycle judges from its measurements, with the runs of the two conditions; where it makes no
LIFT and no SET_DOWN, nothing but the weighing unit changes. -/
def Obligations.WeighingCycleJudges : Prop :=
  ∀ (coarseA fineA coarseB fineB : Int) (s : State), Running s →
    ∃ t, exec (.weighingCycle coarseA fineA coarseB fineB) s = .next t ∧
      let lifted : Bool := match t.weigh.stableNet with
        | none => false
        | some n => s.weigh.load == .unloaded && decide ((s.cfg.liftThreshold : Int) ≤ n)
      let down : Bool := match t.weigh.stableNet with
        | none => false
        | some n => s.weigh.load == .loaded && decide (n ≤ (s.cfg.releaseThreshold : Int))
      let judged (setAt clearAt : Nat) (sets clears : Bool) (c : Condition) : Condition :=
        if c.set then
          if clears && decide (clearAt ≤ c.clearRun + 1) then { set := false, setRun := 0, clearRun := 0 }
          else { set := true, setRun := c.setRun, clearRun := if clears then c.clearRun + 1 else 0 }
        else if sets && decide (setAt ≤ c.setRun + 1) then { set := true, setRun := 0, clearRun := 0 }
        else { set := false, setRun := if sets then c.setRun + 1 else 0, clearRun := c.clearRun }
      let held (c : Condition) : Condition := { set := c.set, setRun := 0, clearRun := 0 }
      t.weigh.load = (if lifted then .loaded else if down then .unloaded else s.weigh.load) ∧
      t.weigh.overload = (if t.weigh.a.fault || t.weigh.b.fault then held s.weigh.overload
        else judged 3 8 (decide (s.cfg.ratedLoad * s.cfg.overloadPercent / 100 ≤ t.weigh.gross))
          (decide (t.weigh.gross < s.cfg.ratedLoad)) s.weigh.overload) ∧
      t.weigh.slack = (match t.weigh.net with
        | none => held s.weigh.slack
        | some n => judged 3 3 (decide (n ≤ -(s.cfg.slackThreshold : Int)))
            (decide (-(s.cfg.slackThreshold : Int) < n)) s.weigh.slack) ∧
      let must : List Notice :=
        (if (t.weigh.a.fault && !s.weigh.a.fault) || (t.weigh.b.fault && !s.weigh.b.fault) then [.channelFault] else []) ++
        (if t.weigh.overload.set && !s.weigh.overload.set then [.overload] else []) ++
        (if t.weigh.slack.set && !s.weigh.slack.set then [.slack] else [])
      Acts (.weigh :: if lifted || down then lossBlocks else []) must
        (if lifted then .liftPending :: bookingNotices else if down then .placePending :: bookingNotices else []) s t

/-- R33, R150, R151, R154, R155, R161, R162, R164, R169, R170: a LIFT handed to the task tracker, by the task state and the
hook point, with all that changes. A take-out into a DISPUTED slot and the states that no LIFT reaches are choices
(assumptions 11 and 32). -/
def Obligations.LiftIsJudgedByTask : Prop :=
  ∀ (coarseA fineA coarseB fineB : Int) (s t : State), Running s → s.weigh.load = .unloaded →
    exec (.weighingCycle coarseA fineA coarseB fineB) s = .next t → t.weigh.load = .loaded →
    let n := (t.weigh.stableNet.getD 0).toNat
    let strange : Hook := { coil := none, weight := n, width := none, origin := .unknown }
    let cycle : List Notice := [.channelFault, .overload, .slack]
    let only (must : List Notice) : Prop := Acts [.weigh, .tracker] must cycle s t
    let wrong (k : Task) (reason : Reason) : Prop :=
      t.tracker = { task := some { k with measured := some n, state := .aborted, reason := some reason, waiting := none }
                    hook := some strange } ∧
      LinkKeeps s.link.boxes.book s t ∧ OwnReleased s t ∧
      (k.state = .claiming → ∀ r ∈ s.claims.round, r.purpose ≠ .reassert → RoundClosed r s t) ∧
      Acts (.weigh :: lossBlocks) [.hookUnknown, .aborted] cycle s t
    match s.tracker.task with
    | none => t.tracker = { task := none, hook := some strange } ∧ only [.hookUnknown]
    | some k =>
      match k.state with
      | .done | .cancelled | .claimLost | .aborted =>
        t.tracker = { task := some k, hook := some strange } ∧ only [.hookUnknown]
      | .claiming => wrong k .earlyLift
      | .toSource =>
        if hookOver s k.source then
          let k' := { k with measured := some n }
          let hook : Hook := { coil := none, weight := n, width := none, origin := .task }
          match s.cfg.bookMode with
          | .manual => t.tracker = { task := some { k' with state := .liftPending }, hook := some hook } ∧ only [.liftPending]
          | .auto =>
            if s.link.boxes.book.isSome then
              t.tracker = { task := some { k' with waiting := some .takeOut }, hook := some hook } ∧ only []
            else
              TakesOut k' (s.withTracker { task := some k', hook := some hook }) t ∧
              Acts (.weigh :: lossBlocks) [] (cycle ++ bookingNotices) s t
        else wrong k .wrongLift
      | .placePending =>
        if hookOverSome s (if k.waiting = some .returnIn then some k.source else k.target) then
          t.tracker =
            { task := some { k with
                state := if k.waiting = some .returnIn then .returning else .toTarget
                waiting := none }
              hook := some { coil := some k.coil, weight := k.measuredWeight, width := k.width, origin := .task } } ∧
          only []
        else wrong k .wrongLift
      | .liftPending | .verifyHold | .toTarget | .targetLost | .retargeting | .returning =>
        t.tracker = s.tracker ∧ only []

/-- R116, R137, R150, R151, R156, R158 to R160, R163, R164, R169, R188: a SET_DOWN handed to the task tracker, by the task
state and the hook point, with all that changes. A put-in into a DISPUTED slot, the states that no SET_DOWN reaches,
where a terminal record keeps its target and that no search follows are choices (assumptions 27, 32, 51 and 58). -/
def Obligations.SetDownIsJudgedByTask : Prop :=
  ∀ (coarseA fineA coarseB fineB : Int) (s t : State), Running s → s.weigh.load = .loaded →
    exec (.weighingCycle coarseA fineA coarseB fineB) s = .next t → t.weigh.load = .unloaded →
    let emptied := s.withTracker { s.tracker with hook := none }
    let cycle : List Notice := [.channelFault, .overload, .slack]
    let only (must : List Notice) : Prop := Acts [.weigh, .tracker] must cycle s t
    let strange : Prop := only (if s.tracker.hook.map Hook.origin = some .unknown then [.hookUnknown] else [])
    let closed (k : Task) : Prop :=
      k.state = .retargeting → ∀ r ∈ s.claims.round, r.purpose ≠ .reassert → RoundClosed r s t
    let wrong (k : Task) : Prop :=
      t.tracker = { task := some { k with state := .aborted, reason := some .wrongSetdown, waiting := none }, hook := none } ∧
      LinkKeeps s.link.boxes.book s t ∧ OwnReleased s t ∧ closed k ∧ Acts (.weigh :: lossBlocks) [.aborted] cycle s t
    let undone (k : Task) : Prop :=
      t.tracker = { task := some { k with state := .toSource, measured := none, waiting := none }, hook := none } ∧ only []
    let returned (k : Task) : Prop :=
      let freed (ref : Ref) (v : Reservation) : Prop :=
        if k.state = .retargeting then InRound s ref v else k.target = some ref
      (∀ ref v, ownResvAt s ref = some v → freed ref v → ownResvAt t ref = none ∧
        (k.state ≠ .retargeting → ReleaseAsked v.round ref t)) ∧
      closed k ∧
      if s.link.boxes.book.isSome then
        t.tracker =
          { task := some { k with target := none, state := .placePending, waiting := some .returnIn }, hook := none } ∧
        LinkKeeps s.link.boxes.book s t ∧
        (∀ r c, (∀ v, ownResvAt s (.slot r c) = some v → ¬ freed (.slot r c) v) → contentAt t r c = contentAt s r c) ∧
        (∀ b i, (∀ v, ownResvAt s (.cradle b i) = some v → ¬ freed (.cradle b i) v) →
          cradleContent t b i = cradleContent s b i) ∧
        SameTruckFacts s t ∧ Acts (.weigh :: lossBlocks) [] cycle s t
      else
        ((∃ v, ownResvAt s k.source = some v ∧ ¬ freed k.source v ∧ Returns (some v) k emptied t) ∨
          ((∀ v, ownResvAt s k.source = some v → freed k.source v) ∧ Returns none k emptied t)) ∧
        t.tracker.task.bind Task.target = none ∧ Acts (.weigh :: lossBlocks) [] (cycle ++ bookingNotices) s t
    match s.tracker.task with
    | none => t.tracker = emptied.tracker ∧ strange
    | some k =>
      match k.state with
      | .done | .cancelled | .claimLost | .aborted => t.tracker = emptied.tracker ∧ strange
      | .liftPending => if hookOver s k.source then undone k else wrong k
      | .toSource =>
        if k.waiting = some .takeOut then (if hookOver s k.source then undone k else wrong k)
        else t.tracker = emptied.tracker ∧ only []
      | .verifyHold | .targetLost | .retargeting | .returning =>
        if hookOver s k.source then returned k else wrong k
      | .toTarget =>
        match k.target with
        | none => if hookOver s k.source then returned k else wrong k
        | some ref =>
          if hookOver s ref then
            match s.cfg.bookMode with
            | .manual => t.tracker = { task := some { k with state := .placePending }, hook := none } ∧ only [.placePending]
            | .auto =>
              if s.link.boxes.book.isSome then
                t.tracker = { task := some { k with state := .placePending, waiting := some .putIn }, hook := none } ∧ only []
              else PutsIn k ref emptied t ∧ Acts (.weigh :: lossBlocks) [] (cycle ++ bookingNotices) s t
          else if hookOver s k.source then returned k
          else wrong k
      | .claiming | .placePending => t.tracker = emptied.tracker ∧ only []

/-- R32: ZERO_SET takes the stable gross as the tare and moves the nets, or is refused with NOT_STABLE. -/
def Obligations.ZeroSetTakesStableGross : Prop :=
  ∀ s : State, Running s →
    match s.weigh.load, s.weigh.stableNet with
    | .unloaded, some n =>
      let tare : Nat := (max 0 (min 1000 (n + s.cfg.tare))).toNat
      let moved (x : Int) : Int := x + ((s.cfg.tare : Int) - tare)
      ∃ t, exec .zeroSet s = .next t ∧ t.cfg = { s.cfg with tare := tare } ∧
        t.weigh = { s.weigh with
          window := s.weigh.window.map moved, stableNet := some (moved n), lastStable := some (moved n) } ∧
        Accepts [.weigh, .cfg] [] [] (be 2 tare) s t
    | _, _ => Answers .zeroSet (.err .notStable) s
/-! ### Yard line (chapter 3) -/

/-- R37, R39: FRAME_START offers the full mailbox with the lowest class, in ACTIVE with no attempt running and no line fault
(the line is idle then, assumption 1); R40: ARBITRATION_LOST ends the attempt and goes on as a reception. That a withdrawn
CLAIM leaves with a lost attempt is DEDUCED (R45, assumption 22). -/
def Obligations.AttemptsStartAndLose : Prop :=
  ∀ s : State, Running s →
    let full : Mailbox → Bool
      | .object => !s.link.boxes.objects.isEmpty
      | .status => s.link.boxes.status.isSome
      | .release => s.link.boxes.release.isSome
      | .claim => s.link.boxes.claim.isSome
      | .book => s.link.boxes.book.isSome
      | .truck => s.link.boxes.truck.isSome
    (∃ t, exec .frameStart s = .next t ∧ Acts [.link] [] [] s t ∧
      t.link = if s.link.state = .active ∧ s.link.sending = none ∧ s.link.lineFault = false then
          match [Mailbox.object, .status, .release, .claim, .book, .truck].find? full with
          | none => s.link
          | some m => { s.link with sending := some m, receiving := false }
        else s.link) ∧
    (∃ t, exec .arbitrationLost s = .next t ∧ Acts [.link] [] [] s t ∧
      t.link = if s.link.sending = none then s.link
        else if s.link.sending = some .claim ∧ s.link.withdrawal.isSome then
          { s.link with receiving := true, sending := none, withdrawal := none, boxes := { s.link.boxes with claim := none } }
        else { s.link with receiving := true, sending := none })

/-- R45, R50, R57, R135: a transmit error adds 8 up to 96 and ends the attempt; at 96 in ACTIVE the station enters MUTED, and
a QUEUED round is lost. -/
def Obligations.TransmitErrorCountsAndMutes : Prop :=
  ∀ s : State, Running s →
    let link : Link := { abandoned s.link with receiving := true }
    ∃ t, exec .transmitError s = .next t ∧
      if s.link.sending = none then t.link = s.link ∧ Acts [] [] [] s t
      else if s.link.state = .active ∧ 96 ≤ s.link.txErr + 8 then
        LinkLeft .muted link s t ∧ Acts lossBlocks [.muted] lossNotices s t
      else t.link = link ∧ Acts [.link] [] [] s t

/-- R51, R52: a receive error is counted outside CONFIG, with LINK_NOISY at the rise from 8 to 9; R53, R135: a clean frame
with the own identifier is a clash in LISTEN and ACTIVE alone, and a QUEUED round is lost at it. -/
def Obligations.ReceiveErrorsAndClashes : Prop :=
  ∀ s : State, Running s →
    (∃ t, exec .receiveError s = .next t ∧
      t.link = { received s with
        rxErr := if s.link.state = .config then s.link.rxErr else min 255 (s.link.rxErr + 1) } ∧
      Acts [.link] (if s.link.state ≠ .config ∧ s.link.rxErr = 8 then [.linkNoisy] else []) [] s t) ∧
    (∃ t, exec .ownIdentifierFrame s = .next t ∧
      if s.link.state = .listen ∨ s.link.state = .active then
        LinkLeft .idclash (received s) s t ∧ Acts lossBlocks [.idclash] lossNotices s t
      else t.link = received s ∧ Acts [.link] [] [] s t)

/-- R37, R45, R50, R51, R135: a line fault that begins abandons an attempt as a transmit error, or ends a reception as a receive
error; a fault already reported and the end of a fault do neither. The operands are the choice of assumption 23. -/
def Obligations.LineFaultEndsTraffic : Prop :=
  ∀ (reported receiving : Bool) (s : State), Running s →
    let link := { s.link with lineFault := reported }
    ∃ t, exec (.lineFault reported receiving) s = .next t ∧
      if reported = false ∨ s.link.lineFault = true then t.link = link ∧ Acts [.link] [] [] s t
      else if s.link.sending.isSome then
        if s.link.state = .active ∧ 96 ≤ s.link.txErr + 8 then
          LinkLeft .muted (abandoned link) s t ∧ Acts lossBlocks [.muted] lossNotices s t
        else t.link = abandoned link ∧ Acts [.link] [] [] s t
      else if receiving ∨ s.link.receiving then
        t.link = { link with
          receiving := false
          rxErr := if s.link.state = .config then s.link.rxErr else min 255 (s.link.rxErr + 1) } ∧
        Acts [.link] (if s.link.state ≠ .config ∧ s.link.rxErr = 8 then [.linkNoisy] else []) [] s t
      else t.link = link ∧ Acts [.link] [] [] s t

/-- R41, R45, R56, R58, R134: a frame sent empties its mailbox and takes 1 from the transmit error count; a CLAIM sent opens
its round, or asks for its RELEASE where it was withdrawn, and a farewell sent ends the leave in HALTED (the leave mark:
assumption 39). -/
def Obligations.FrameSentEmptiesItsMailbox : Prop :=
  ∀ s : State, Running s →
    ∃ t, exec .frameSent s = .next t ∧
      match s.link.sending with
      | none => t.link = s.link ∧ Acts [] [] [] s t
      | some m =>
        let sent : Link := { s.link with sending := none, txErr := s.link.txErr - 1, boxes := emptyBox m s.link.boxes }
        match m with
        | .object => t.link = sent ∧ sent.boxes.objects = s.link.boxes.objects.tail ∧ Acts [.link] [] [] s t
        | .release | .book | .truck => t.link = sent ∧ Acts [.link] [] [] s t
        | .claim =>
          match s.link.withdrawal with
          | none => t.link = sent ∧ t.claims.counter = s.claims.counter ∧
              t.claims.heldRequests = s.claims.heldRequests ∧
              t.claims.round = s.claims.round.map (fun r => { r with stage := .opened, windowTime := 0 }) ∧
              Acts [.link, .claims] [] [] s t
          | some f =>
            let asked := askRelease f (s.withLink { sent with withdrawal := none })
            t.link = asked.link ∧ t.claims = asked.claims ∧ Acts [.link, .claims] [] [] s t
        | .status =>
          if farewellWaits s.link.boxes then
            LinkEnters { sent with
              state := .halted, leaving := false, beats := 0, afterMuted := false, statusDeferred := false
              boxes := { s.link.boxes with status := none, claim := none, objects := [] } } s t ∧
            Acts lossBlocks [] lossNotices s t
          else t.link = sent ∧ Acts [.link] [] [] s t

/-- R44, R51, R55, R57, R59, R129, R146: a beat expiry, by the link state. That expiries are counted in LISTEN and MUTED alone
is a choice (assumption 38). -/
def Obligations.BeatExpiryByLinkState : Prop :=
  ∀ s : State, Running s →
    let next : Link := { s.link with rxErr := 0, beatElapsed := 0, beatPeriod := s.cfg.beat }
    let status : StatusFrame := { status := composedStatus s, farewell := false }
    ∃ t, exec .beatExpiry s = .next t ∧
      match s.link.state with
      | .config | .halted | .idclash => t.link = next ∧ Acts [.link] [] [] s t
      | .active =>
        t.link = (if s.link.leaving then next
          else if s.link.sending = some .status then { next with statusDeferred := true }
          else { next with boxes := { s.link.boxes with status := some status } }) ∧
        Acts [.link] [] [] s t
      | .listen =>
        if s.link.beats + 1 < 10 then t.link = { next with beats := s.link.beats + 1 } ∧ Acts [.link] [] [] s t
        else
          let joined : Link := { next with
            state := .active, beats := 0, afterMuted := false, boxes := { s.link.boxes with status := some status } }
          if s.link.afterMuted = true ∧ ownReservations s ≠ [] then
            let n := (s.claims.counter + 1) % 256
            let priority := (s.tracker.task.map Task.priority).getD 0
            let claimed (e : ClaimEntry) : Prop := (ownResvAt s e.ref).isSome = true ∧ e.dir = match e.ref with
              | .slot row column => (match contentAt s row column with
                | .reservedOut c _ => .outward c.coil
                | _ => .inward)
              | .cradle _ _ => .inward
            let renewed (v : Reservation) : Reservation :=
              if v.holder = .own then { v with round := n, phase := .pending, since := s.clock.now } else v
            let entries : List ClaimEntry := (t.claims.round.map Round.entries).getD []
            (MapShape s → ∀ e, e ∈ entries ↔ claimed e) ∧
            t.link = { joined with boxes := { joined.boxes with
              claim := some { round := n, priority := priority, entries := entries } } } ∧
            t.claims = { s.claims with
              counter := n
              round := some { number := n, purpose := .reassert, priority := priority, entries := entries,
                              stage := .queued, windowTime := 0 } } ∧
            t.tracker = { s.tracker with task := s.tracker.task.map fun k => { k with round := n } } ∧
            ReservationsMapped renewed s t ∧ Acts lossBlocks [.joined] [] s t
          else t.link = joined ∧ Acts [.link] [.joined] [] s t
      | .muted =>
        if s.link.beats + 1 < 20 then t.link = { next with beats := s.link.beats + 1 } ∧ Acts [.link] [] [] s t
        else
          LinkEnters { next with state := .listen, txErr := 0, beats := 0, afterMuted := true } s t ∧
          Acts lossBlocks [] lossNotices s t

/-- R44, R56: a composition put off is made at the end of the attempt; the farewell is composed in ACTIVE while leaving once
the RELEASE, BOOK and TRUCK mailboxes are empty and no release request is held. What becomes of a composition put off by a
station that leaves, and of a farewell while a STATUS is being sent, are choices (assumptions 20, 21 and 35). -/
def Obligations.StatusComposedWhenDue : Prop :=
  ∀ s : State, Running s →
    (∃ t, exec .deferredStatusCompose s = .next t ∧ Acts [.link] [] [] s t ∧
      t.link = if s.link.statusDeferred = true ∧ s.link.sending ≠ some .status then
          if s.link.state = .active ∧ s.link.leaving = false then
            { s.link with
              statusDeferred := false
              boxes := { s.link.boxes with status := some { status := composedStatus s, farewell := false } } }
          else { s.link with statusDeferred := false }
        else s.link) ∧
    (∃ t, exec .farewellCompose s = .next t ∧ Acts [.link] [] [] s t ∧
      t.link = if s.link.state = .active ∧ s.link.leaving = true ∧ s.link.boxes.release = none ∧
          s.link.boxes.book = none ∧ s.link.boxes.truck = none ∧ s.claims.heldRequests = [] ∧
          farewellWaits s.link.boxes = false ∧ s.link.sending ≠ some .status then
          { s.link with boxes := { s.link.boxes with status := some { status := composedStatus s, farewell := true } } }
        else s.link)

/-- R55, R56, R58: JOIN by the link state, and LEAVE by the link state and the task, with the whole link record; R135: at each
entry a QUEUED round is lost. -/
def Obligations.JoinAndLeaveByLinkState : Prop :=
  (∀ s : State, Running s →
     let listens (signature : Nat) : Prop :=
       ∃ t, exec .join s = .next t ∧
         LinkEnters { s.link with
           state := .listen, signature := signature, beats := 0, afterMuted := false, beatElapsed := 0
           beatPeriod := s.cfg.beat } s t ∧
         Accepts lossBlocks [] lossNotices [] s t
     match s.link.state, s.cfg.stationId, s.cfg.geometry with
     | .config, some _, some g =>
       listens ((g.rows * 1000 + g.lower * 37 + g.rowPitch + g.posPitch + g.rowBase + g.posBase) % 65536)
     | .halted, _, _ => listens s.link.signature
     | _, _, _ => Answers .join (.err .badState) s) ∧
  (∀ s : State, Running s →
     if s.link.state = .listen ∨ s.link.state = .active then
       if taskRunning s then Answers .leave (.err .busy) s
       else if s.link.state = .active then
         ∃ t, exec .leave s = .next t ∧ t.link = { s.link with leaving := true } ∧ Accepts [.link] [] [] [] s t
       else
         ∃ t, exec .leave s = .next t ∧
           LinkEnters { s.link with
             state := .config, leaving := false, beats := 0, afterMuted := false, statusDeferred := false
             receiving := false, sending := none, withdrawal := none
             boxes := { s.link.boxes with status := none, claim := none, objects := [] } } s t ∧
           Accepts lossBlocks [] lossNotices [] s t
     else Answers .leave (.err .badState) s)

/-- R42, R51 to R53, R135: what keeps a frame received from its owner: CONFIG, a malformed frame (assumptions 10 and 31), the
station's own identifier, and for the frames of shared records a geometry-foreign sender. -/
def Obligations.FramesKeptFromTheirOwners : Prop :=
  ∀ (c : Instr) (sender : Nat) (wellFormed shared : Bool) (s : State), Running s →
    frameParts c = some (sender, wellFormed, shared) →
    ∃ t, exec c s = .next t ∧
      if s.link.state = .config then t.link = s.link ∧ Acts [] [] [] s t
      else if (senderOk sender && wellFormed) = false then
        t.link = { received s with rxErr := min 255 (s.link.rxErr + 1) } ∧
        Acts [.link] (if s.link.rxErr = 8 then [.linkNoisy] else []) [] s t
      else if sender = ownId s then
        if s.link.state = .listen ∨ s.link.state = .active then
          LinkLeft .idclash (received s) s t ∧ Acts lossBlocks [.idclash] lossNotices s t
        else t.link = received s ∧ Acts [.link] [] [] s t
      else (shared && senderForeign s sender) = true → t.link = received s ∧ Acts [.link] [] [] s t

/-- R46, R48, R145: a RELEASE is queued, merged into a waiting one of its round with at most four references, or held, and the
held ones are put again, oldest first, once the mailbox is empty; an OBJECT already waiting is not added, and one that finds
both mailboxes full is dropped with its notice. A request is queued at once even where others are held, and a retry that is
not due changes nothing (assumptions 24 and 35). -/
def Obligations.MailboxesTakeReleasesAndObjects : Prop :=
  (∀ s : State,
     (∀ f : ReleaseFrame, f.refs ≠ [] →
       match s.link.boxes.release with
       | none => (askRelease f s).link.boxes.release = some f ∧ (askRelease f s).claims = s.claims
       | some w =>
         let both := w.refs ++ f.refs.filter (fun x => !w.refs.contains x)
         if s.link.sending ≠ some .release ∧ w.round = f.round ∧ both.length ≤ 4 then
           (askRelease f s).link.boxes.release = some { round := w.round, refs := both } ∧
           (askRelease f s).claims = s.claims
         else
           (askRelease f s).link = s.link ∧ (askRelease f s).claims.heldRequests = s.claims.heldRequests ++ [f]) ∧
     (∀ f : ObjectFrame,
       if f ∈ s.link.boxes.objects then askObject f s = s
       else if s.link.boxes.objects.length < 2 then
         (askObject f s).link = { s.link with boxes := { s.link.boxes with objects := s.link.boxes.objects ++ [f] } } ∧
         (askObject f s).notices = s.notices
       else (askObject f s).link = s.link ∧ Raised .objectionDropped s (askObject f s))) ∧
  (∀ s : State, Running s →
     ∃ t, exec .releaseRequestRetry s = .next t ∧
       match s.link.boxes.release, s.claims.heldRequests with
       | none, f :: fs =>
         let merge (refs : List Ref) (g : ReleaseFrame) : List Ref := refs ++ g.refs.filter (fun x => !refs.contains x)
         ∃ n,
           let refs := (fs.take n).foldl merge f.refs
           t.link = { s.link with
             boxes := { s.link.boxes with release := some { round := f.round, refs := refs } } } ∧
           t.claims = { s.claims with heldRequests := fs.drop n } ∧
           (∀ g ∈ fs.take n, g.round = f.round ∧ s.link.sending ≠ some .release ∧ refs.length ≤ 4) ∧
           (∀ g ∈ (fs.drop n).head?, s.link.sending = some .release ∨ g.round ≠ f.round ∨ 4 < (merge refs g).length) ∧
           Acts [.link, .claims] [] [] s t
       | _, _ => t.link = s.link ∧ t.claims = s.claims ∧ Acts [] [] [] s t)

/-! ### Neighbour table (chapter 4) -/

/-- R61 to R63, R68, R70, R81: a STATUS handed on refreshes the sender's entry, makes one, or is an untracked report. -/
def Obligations.StatusReceivedFeedsTheTable : Prop :=
  ∀ (sender : Nat) (r : StatusReport) (s : State), Running s → Delivered (.statusReceived sender r) s →
    let foreign : Bool := decide (r.signature ≠ s.link.signature)
    ∃ t, exec (.statusReceived sender r) s = .next t ∧ t.link = received s ∧
      match entryOf s sender with
      | some before =>
        t.table = { s.table with
          entries := s.table.entries.map fun e =>
            if e.id = sender then
              evalEntry t { e with state := .fresh, age := 0, report := r.report, foreign := foreign }
            else e } ∧
        (if foreign && !before.foreign then
          AllReleased (heldBy sender) .own s t ∧ Acts [.link, .table, .map, .trucks] [.geometryMismatch] [] s t
        else Acts [.link, .table] [] [] s t)
      | none =>
        if s.table.entries.length < 12 then
          t.table.entries.Perm (evalEntry t { id := sender, state := .fresh, age := 0, report := r.report,
                                              foreign := foreign, heldPlus := .full, heldMinus := .full }
            :: s.table.entries) ∧
          t.table.untracked = s.table.untracked ∧ t.table.untrackedAge = s.table.untrackedAge ∧
          Acts [.link, .table] (if foreign then [.geometryMismatch] else []) [] s t
        else
          t.table = { s.table with untracked := true, untrackedAge := 0 } ∧
          Acts [.link, .table] (if s.table.untracked then [] else [.untracked]) [] s t

/-- R64 to R67, R69, R105, R144: a farewell handed on removes the sender's entry with its reservations, and NEIGHBOUR_DROP a
LOST entry; an entry past 3 beats becomes STALE, one past 10 beats LOST with its notice and releases, and UNTRACKED is
cleared past 10 beats; before that the three commands change nothing by choice (assumption 35). -/
def Obligations.EntriesAgeAndLeave : Prop :=
  (∀ (sender : Nat) (r : StatusReport) (s : State), Running s → Delivered (.farewellReceived sender r) s →
    ∃ t, exec (.farewellReceived sender r) s = .next t ∧ t.link = received s ∧
      match entryOf s sender with
      | none => t.table = s.table ∧ Acts [.link] [] [] s t
      | some _ =>
        t.table = { s.table with entries := s.table.entries.filter fun e => e.id != sender } ∧
        AllReleased (heldBy sender) .own s t ∧ Acts [.link, .table, .map, .trucks] [] [] s t) ∧
  (∀ (id : Nat) (s : State), Running s →
    if id = 0 ∨ 30 < id then Answers (.neighbourDrop id) (.err .badArg) s
    else
      match entryOf s id with
      | none => Answers (.neighbourDrop id) (.err .notLost) s
      | some e =>
        if e.state = .lost then
          ∃ t, exec (.neighbourDrop id) s = .next t ∧
            t.table = { s.table with entries := s.table.entries.filter fun e => e.id != id } ∧
            Accepts [.table] [] [] [] s t
        else Answers (.neighbourDrop id) (.err .notLost) s) ∧
  (∀ (id : Nat) (s : State), Running s →
    ∃ t, exec (.entryStale id) s = .next t ∧
      match entryOf s id with
      | none => t.table = s.table ∧ Acts [] [] [] s t
      | some e =>
        if e.state = .fresh ∧ 3 * s.cfg.beat < e.age ∧ e.age ≤ 10 * s.cfg.beat then
          t.table = { s.table with
            entries := s.table.entries.map fun e => if e.id = id then evalEntry t { e with state := .stale } else e } ∧
          Acts [.table] [] [] s t
        else t.table = s.table ∧ Acts [] [] [] s t) ∧
  (∀ (id : Nat) (s : State), Running s →
    ∃ t, exec (.neighbourLost id) s = .next t ∧
      match entryOf s id with
      | none => t.table = s.table ∧ Acts [] [] [] s t
      | some e =>
        if e.state ≠ .lost ∧ 10 * s.cfg.beat < e.age then
          t.table = { s.table with
            entries := s.table.entries.map fun e => if e.id = id then evalEntry t { e with state := .lost } else e } ∧
          AllReleased (heldBy id) .own s t ∧ Acts [.table, .map, .trucks] [.neighbourLost] [] s t
        else t.table = s.table ∧ Acts [] [] [] s t) ∧
  (∀ s : State, Running s →
    ∃ t, exec .untrackedClear s = .next t ∧ t.table.entries = s.table.entries ∧
      t.table.untrackedAge = s.table.untrackedAge ∧
      t.table.untracked = (s.table.untracked && !decide (10 * s.cfg.beat < s.table.untrackedAge)) ∧
      Acts [.table] [] [] s t)

/-! ### Claim engine (chapter 7) -/

/-- R130: of two claims of different stations exactly one wins: the higher priority, or at equal priority the lower
identifier. -/
def Obligations.ClaimKeyDecides : Prop :=
  ∀ p1 id1 p2 id2 : Nat, id1 ≠ id2 →
    (keyBeats p1 id1 p2 id2 = true ↔ p2 < p1 ∨ (p1 = p2 ∧ id1 < id2)) ∧
    (keyBeats p1 id1 p2 id2 = true ↔ keyBeats p2 id2 p1 id1 = false)

/-- R139, R71, R105: a peer's CLAIM on references the station does not hold is recorded on each that fits, from a sender whose
entry is FRESH or STALE; nothing is recorded from any other. That a refresh keeps the source is DEDUCED (assumption 36). -/
def Obligations.PeerClaimIsRecorded : Prop :=
  ∀ (sender round priority : Nat) (entries : List ClaimEntry) (s : State), Running s →
    Delivered (.claimReceived sender round priority entries) s → (∀ e ∈ entries, ownResvAt s e.ref = none) →
    let v : Reservation :=
      { holder := .peer sender, round := round, priority := priority, phase := .pending, since := s.clock.now }
    ∃ t, exec (.claimReceived sender round priority entries) s = .next t ∧ t.link = received s ∧
      if mayReserve s sender then
        (∀ e ∈ entries, match e.ref with
          | .slot row column => isSlot s row column →
              contentAt t row column = (contentAt s row column).claimed v e.dir
          | .cradle bay index => cradleContent t bay index =
              (cradleContent s bay index).map (CradleContent.claimed v ((bayRecord s bay).any fun b => !b.closed))) ∧
        (∀ row column, .slot row column ∉ entries.map ClaimEntry.ref →
          contentAt t row column = contentAt s row column) ∧
        (∀ bay index, .cradle bay index ∉ entries.map ClaimEntry.ref →
          cradleContent t bay index = cradleContent s bay index) ∧
        (∀ row column, sourceAt t row column =
          if slotResv (contentAt s row column) = none ∧ contentAt t row column ≠ contentAt s row column then
            some (.peer sender)
          else sourceAt s row column) ∧
        SameTruckFacts s t ∧ Acts [.link, .map, .trucks] [] [] s t
      else Acts [.link] [] [] s t

/-- R48, R138: a peer's CLAIM on references the station holds HELD, or PENDING in a round whose key beats the peer's, is met
with an OBJECT for each and costs the station nothing; an OBJECT is dropped only where both mailboxes are full. That the references
are taken in the order of the frame is a choice (assumption 59). -/
def Obligations.StationDefendsItsClaims : Prop :=
  ∀ (sender round priority : Nat) (entries : List ClaimEntry) (s : State), Running s →
    Delivered (.claimReceived sender round priority entries) s →
    (∀ e ∈ entries, ∀ v, ownResvAt s e.ref = some v → v.phase = .held ∨
      ∃ r, s.claims.round = some r ∧ v.round = r.number ∧ keyBeats priority sender r.priority (ownId s) = false) →
    let objections : List ObjectFrame :=
      (entries.filter fun e => (ownResvAt s e.ref).isSome).map fun e => { claimant := sender, round := round, ref := e.ref }
    let waiting : List ObjectFrame :=
      objections.foldl (fun w f => if f ∈ w ∨ 2 ≤ w.length then w else w ++ [f]) s.link.boxes.objects
    ∃ t, exec (.claimReceived sender round priority entries) s = .next t ∧
      t.link = { received s with boxes := { s.link.boxes with objects := waiting } } ∧
      (∀ ref, (ownResvAt s ref).isSome = true → resvAt t ref = resvAt s ref) ∧ (∀ ref, ownResvAt t ref = ownResvAt s ref) ∧
      (∀ row column, .slot row column ∉ entries.map ClaimEntry.ref → contentAt t row column = contentAt s row column) ∧
      (∀ bay index, .cradle bay index ∉ entries.map ClaimEntry.ref →
        cradleContent t bay index = cradleContent s bay index) ∧
      Acts [.link, .map, .trucks] (if ∀ f ∈ objections, f ∈ waiting then [] else [.objectionDropped]) [] s t

/-- R130, R136, R138, R139, R142, R145, R147, R165, R166: a peer's CLAIM whose key beats the station's round takes a PENDING
reference from it: a START or RETARGET round is lost with OUTRANKED, its CLAIM withdrawn or a RELEASE asked for, and a
REASSERT round loses the reference as to a late objection; the claim is then recorded over what was freed. What becomes of a
REASSERT round's CLAIM, the source at a refresh, the target of a terminal record, the order of the references and a reference
that is both source and target are choices (assumptions 25, 36, 51, 55, 59 and 60). -/
def Obligations.StationLosesToTheHigherKey : Prop :=
  ∀ (sender round priority : Nat) (entries : List ClaimEntry) (s : State) (e : ClaimEntry) (v : Reservation) (r : Round),
    Running s → Delivered (.claimReceived sender round priority entries) s → e ∈ entries →
    ownResvAt s e.ref = some v → v.phase = .pending → s.claims.round = some r → v.round = r.number →
    keyBeats priority sender r.priority (ownId s) = true →
    let w : Reservation :=
      { holder := .peer sender, round := round, priority := priority, phase := .pending, since := s.clock.now }
    let base := s.withLink (received s)
    let named : List Ref := entries.map ClaimEntry.ref
    let objections : List ObjectFrame :=
      (entries.filter fun x => (ownResvAt s x.ref).any fun u => decide (u.phase = .held)).map fun x =>
        { claimant := sender, round := round, ref := x.ref }
    let waiting : List ObjectFrame :=
      objections.foldl (fun o f => if f ∈ o ∨ 2 ≤ o.length then o else o ++ [f]) s.link.boxes.objects
    let recorded (t : State) : Prop := ∀ x ∈ entries,
      let gone : Bool := (ownResvAt s x.ref).isSome && (ownResvAt t x.ref).isNone
      match x.ref with
      | .slot row column => isSlot s row column →
        let freed := if gone then (contentAt s row column).without ofStation else contentAt s row column
        contentAt t row column = (if mayReserve s sender then freed.claimed w x.dir else freed) ∧
        sourceAt t row column =
          if slotResv freed = none ∧ contentAt t row column ≠ freed then some (.peer sender)
          else if gone then some .own else sourceAt s row column
      | .cradle bay index =>
        let freed :=
          if gone then (cradleContent s bay index).map (CradleContent.without ofStation) else cradleContent s bay index
        cradleContent t bay index =
          if mayReserve s sender then freed.map (CradleContent.claimed w ((bayRecord s bay).any fun b => !b.closed))
          else freed
    ∃ t, exec (.claimReceived sender round priority entries) s = .next t ∧
      Acts lossBlocks [] (.objectionDropped :: lossNotices) s t ∧
      t.link = { received s with
        boxes := { s.link.boxes with
          objects := t.link.boxes.objects, claim := t.link.boxes.claim, release := t.link.boxes.release }
        withdrawal := t.link.withdrawal } ∧
      recorded t ∧ UnreservedSlotsKept (fun row column => .slot row column ∈ named) s t ∧
      (∀ bay index, .cradle bay index ∉ named → ownResvAt s (.cradle bay index) = none →
        cradleContent t bay index = cradleContent s bay index) ∧
      SameTruckFacts s t ∧
      if r.purpose = .reassert then
        (∀ x ∈ entries, x ≠ e → ownResvAt s x.ref = none) →
          Objected .outranked e.ref v base t ∧ t.link.boxes.objects = s.link.boxes.objects
      else
        RoundLost r .outranked s t ∧ RoundClosed r s t ∧
        ((∀ x ∈ entries, ∀ u, ownResvAt s x.ref = some u → u.phase = .held →
            ¬ InRound s x.ref u ∧ r.purpose = .retarget ∧ ∃ k ∈ s.tracker.task, k.state = .retargeting) →
          t.link.boxes.objects = waiting ∧ ((∃ f ∈ objections, f ∉ waiting) → Raised .objectionDropped s t))

/-- R141, R142, R145, R149, R165, R166, R170: an OBJECT naming the station, against its current round or against a reference it
holds HELD; one that names another station, or nothing the station holds, changes nothing. A loss of a
REASSERT round taken as a late objection, the target of a terminal record, and a reference that is both
source and target, are choices (assumptions 25, 51 and 60). -/
def Obligations.ObjectReceivedIsObeyed : Prop :=
  ∀ (sender claimant n : Nat) (ref : Ref) (s : State), Running s →
    Delivered (.objectReceived sender claimant n ref) s →
    let inRound (r : Round) : Bool := decide (r.number = n) && r.entries.any fun e => decide (e.ref = ref)
    let held : Bool := (ownResvAt s ref).any fun v => decide (v.phase = .held) && decide (v.round = n)
    ∃ t, exec (.objectReceived sender claimant n ref) s = .next t ∧
      let after := s.withLink (received s)
      let ended (k : Task) (target : Option Ref) (reason : Reason) : Prop :=
        t.tracker.task =
          some { k with target := target, state := .claimLost, reason := some reason, waiting := none } ∧
        t.tracker.hook = (if k.waiting = some .takeOut then
            s.tracker.hook.map fun h => { h with coil := none, width := none, origin := .unknown }
          else s.tracker.hook) ∧
        LinkKeeps s.link.boxes.book after t ∧ OwnReleased after t ∧
        Acts lossBlocks (if k.waiting = some .takeOut then [.claimLost, .hookUnknown] else [.claimLost]) [] s t
      let freed (k : Task) : Prop :=
        t.tracker = { s.tracker with task := some k } ∧ ownResvAt t ref = none ∧ LinkKeeps s.link.boxes.book after t ∧
        (∀ v, ownResvAt s ref = some v → ReleaseAsked v.round ref t) ∧
        (∀ r c, .slot r c ≠ ref → contentAt t r c = contentAt s r c) ∧
        (∀ b i, .cradle b i ≠ ref → cradleContent t b i = cradleContent s b i) ∧
        Acts lossBlocks [.targetLost] [] s t
      let late : Prop :=
        match s.tracker.task with
        | none => t.link = received s ∧ Acts [.link] [] [] s t
        | some k =>
          if k.source = ref then
            if k.state = .toSource then ended k k.target .objected
            else t.link = received s ∧ Acts [.link] [] [] s t
          else if k.target = some ref then
            match k.state with
            | .toSource => ended k none .targetTaken
            | .liftPending | .verifyHold => freed { k with target := none }
            | .toTarget => freed { k with target := none, state := .targetLost }
            | _ => t.link = received s ∧ Acts [.link] [] [] s t
          else t.link = received s ∧ Acts [.link] [] [] s t
      if claimant ≠ ownId s then t.link = received s ∧ Acts [.link] [] [] s t
      else
        match s.claims.round with
        | none => if held then late else t.link = received s ∧ Acts [.link] [] [] s t
        | some r =>
          if inRound r then
            if r.purpose = .reassert then late
            else RoundLost r .objected s t ∧ Acts lossBlocks [] lossNotices s t
          else if held then late
          else t.link = received s ∧ Acts [.link] [] [] s t

/-- R143: a RELEASE releases each reference it names that the sender holds under its round, and changes no other. -/
def Obligations.PeerReleaseIsApplied : Prop :=
  ∀ (sender n : Nat) (refs : List Ref) (s : State), Running s → Delivered (.releaseReceived sender n refs) s →
    ∃ t, exec (.releaseReceived sender n refs) s = .next t ∧ t.link = received s ∧
      (∀ row column, contentAt t row column =
        if .slot row column ∈ refs then (contentAt s row column).without (heldByUnder sender n)
        else contentAt s row column) ∧
      (∀ bay index, cradleContent t bay index =
        if .cradle bay index ∈ refs then (cradleContent s bay index).map (CradleContent.without (heldByUnder sender n))
        else cradleContent s bay index) ∧
      (∀ row column, sourceAt t row column =
        if .slot row column ∈ refs ∧ (slotResv (contentAt s row column)).any (heldByUnder sender n) = true then
          some (.peer sender)
        else sourceAt s row column) ∧
      SameTruckFacts s t ∧ Acts [.link, .map, .trucks] [] [] s t

/-- R134, R136, R140, R147: the claim window of an OPEN round expires: held in ACTIVE, lost with NOT_ACTIVE elsewhere; and a
peer's reservation takes phase HELD once the window has passed since its reserved-since time, nothing else changing. What is
not due changes nothing by choice (assumption 35). -/
def Obligations.ClaimWindowsExpire : Prop :=
  (∀ s : State, Running s →
     ∃ t, exec .claimWindowExpiry s = .next t ∧
       match s.claims.round with
       | none => Acts [] [] [] s t
       | some r =>
         if r.stage = .opened ∧ s.cfg.claimWindow ≤ r.windowTime then
           if s.link.state = .active then
             t.claims = { s.claims with round := none } ∧
             ReservationsMapped
               (fun v => if v.holder = .own ∧ v.round = r.number then { v with phase := .held } else v) s t ∧
             t.tracker.hook = s.tracker.hook ∧
             t.tracker.task = s.tracker.task.map (fun k =>
               if r.purpose = .start ∧ k.state = .claiming then { k with state := .toSource }
               else if r.purpose = .retarget ∧ k.state = .retargeting then { k with state := .toTarget } else k) ∧
             Acts [.claims, .map, .trucks, .tracker] [.claimHeld] [] s t
           else
             t.claims.round = none ∧ (r.purpose ≠ .reassert → RoundLost r .notActive s t ∧ RoundClosed r s t) ∧
             (r.purpose = .reassert → ∀ ref v, ownResvAt t ref = some v → v.round = r.number → v.phase = .held) ∧
             Acts lossBlocks [] lossNotices s t
         else Acts [] [] [] s t) ∧
  (∀ (ref : Ref) (s : State), Running s →
     let passed (v : Reservation) : Reservation :=
       if v.holder ≠ .own ∧ v.phase = .pending ∧ s.cfg.claimWindow ≤ (s.clock.now - v.since).toNat then
         { v with phase := .held }
       else v
     ∃ t, exec (.peerReservationHeld ref) s = .next t ∧
       (∀ row column, contentAt t row column =
         if .slot row column = ref then (contentAt s row column).mapResv passed else contentAt s row column) ∧
       (∀ bay index, cradleContent t bay index =
         if .cradle bay index = ref then (cradleContent s bay index).map (CradleContent.mapResv passed)
         else cradleContent s bay index) ∧
       t.map.map SlotRecord.source = s.map.map SlotRecord.source ∧
       SameTruckFacts s t ∧ Acts [.map, .trucks] [] [] s t)

/-! ### Store map (chapter 6) -/

/-- R112, R113, R105, R107, R124, R136, R142, R145, R147, R165, R166: MAP_WRITE, its checks in order, and its effect; an accepted
one keeps the law of the tiers, and an own target that it undermines is removed. An OCCUPIED write without a coil identifier is
taken for BAD_ARG (assumption 12); assumptions 25, 51, 55 and 60 are the choices of the removal,
assumption 61 what is ignored of a request. -/
def Obligations.MapWriteChecksAndWrites : Prop :=
  ∀ (ref : Ref) (state : Nat) (coil : Option CoilId) (weight width : Option Nat) (s : State), Running s →
    let c := Instr.mapWrite ref state coil weight width
    match ref with
    | .cradle _ _ => Answers c (.err .badArg) s
    | .slot row column =>
      match slotAt s row column, writtenContent state coil weight width with
      | some old, some content =>
        if 12000 < weight.getD 0 ∨ 7 < width.getD 0 then Answers c (.err .badArg) s
        else if (slotResv old.content).isSome then Answers c (.err .reserved) s
        else if (isOccupied content = true ∧ isUpper column = true ∧
              (holdsNothing (contentAt s row (column - 1)) = true ∨ holdsNothing (contentAt s row (column + 1)) = true)) ∨
            (content = .empty ∧ coveredByCoil s row column = true) then Answers c (.err .tier) s
        else if (slotCoil content).any (fun i => onHook i.coil s || inCradles i.coil s ||
              (slotsHolding i.coil s).any fun p => decide (p ≠ (row, column))) = true then
            Answers c (.err .duplicate) s
        else
          let filled (k : Nat) : Bool := isOccupied (if k = column then content else contentAt s row k)
          let struck (k : Nat) : Bool := isUpper k && (decide (k = column + 1) || decide (k + 1 = column)) &&
            (ownResvAt s (.slot row k)).isSome && holdsNothing (contentAt s row k) && !(filled (k - 1) && filled (k + 1))
          ∃ t, exec c s = .next t ∧ slotAt t row column = some { content := content, source := .crane } ∧
            UnreservedSlotsKept (fun r k => (r, k) = (row, column)) s t ∧ (TierLaw s → TierLaw t) ∧
            UppersFreed row column s t ∧
            ((∀ k, struck k = false) → OtherSlotsKept row column s t ∧ Accepts [.map] [] [] [] s t) ∧
            (∀ k v, ownResvAt s (.slot row k) = some v → struck k = true → (∀ j, j ≠ k → struck j = false) →
              Removed (.slot row k) v s t) ∧
            Accepts lossBlocks [] lossNotices [] s t
      | _, _ => Answers c (.err .badArg) s

/-- R117 to R120, R105, R106, R124, R136, R142, R145, R147, R165, R166: a peer's PICKED, by the slot it names; every other slot
holding the coil becomes DISPUTED, and what it takes from the station is dealt with as removed. What becomes of the source, of
a reference that is no slot, and what a change is, are choices (assumptions 26, 28 and 50); assumptions 25, 51, 55 and 60 are
the choices of the removal, and assumption 59 the order. -/
def Obligations.PickedReceivedMovesTheCoil : Prop :=
  ∀ (p n row column : Nat) (coil : CoilId) (s : State), Running s →
    Delivered (.pickedReceived p n (.slot row column) coil) s →
    let elsewhere : Bool := onHook coil s || inCradles coil s
    let own : Bool := (ownResvAt s (.slot row column)).isSome
    let before := contentAt s row column
    let picked : SlotContent :=
      match before with
      | .reservedOut _ v =>
        if v.holder = .peer p ∧ (v.phase = .held ∨ v.round = n) then .reservedIn { v with round := n, phase := .held }
        else .disputed
      | .reservedIn v =>
        if v.holder = .peer p ∧ (v.phase = .held ∨ v.round = n) then .reservedIn { v with round := n } else .disputed
      | .occupied i =>
        if i.coil = coil ∧ mayReserve s p = true then
          .reservedIn { holder := .peer p, round := n, priority := 0, phase := .held, since := s.clock.now }
        else .empty
      | .unknown => .empty
      | .empty => .empty
      | .disputed => .disputed
      | .closed => .closed
    let undermined : Bool := isUpper column && !bothLowersOccupied s row column && holdsNothing before
    let named : SlotContent :=
      if elsewhere then (if own then before else .disputed)
      else if coveredByCoil s row column then .disputed else picked
    let after (r k : Nat) : SlotContent :=
      if (r, k) = (row, column) then named
      else if (elsewhere = false ∨ slotAt s row column = none) ∧ holdsCoilId coil (contentAt s r k) = true then .disputed
      else contentAt s r k
    let changed (r k : Nat) : Bool := decide (after r k ≠ contentAt s r k)
    let struck : Ref → Bool
      | .slot r k => (ownResvAt s (.slot r k)).isSome &&
          (decide (after r k = .disputed) ||
            (isUpper k && holdsNothing (contentAt s r k) &&
              !(isOccupied (after r (k - 1)) && isOccupied (after r (k + 1))) &&
              (decide ((r, k) = (row, column)) || changed r (k - 1) || changed r (k + 1))))
      | .cradle _ _ => false
    ∃ t, exec (.pickedReceived p n (.slot row column) coil) s = .next t ∧
      ((∀ x, struck x = false) →
        t.link = received s ∧ OwnKept (fun _ => False) s t ∧ Acts [.link, .map] [] [.disputed] s t) ∧
      (∀ x v, ownResvAt s x = some v → struck x = true → (∀ y, y ≠ x → struck y = false) →
        Removed x v (s.withLink (received s)) t) ∧
      let changed : Bool := match before, contentAt t row column with
        | .reservedIn _, .reservedIn _ => false
        | x, y => decide (x ≠ y)
      sourceAt t row column = (if changed then some (if elsewhere && own then .own else .peer p)
        else sourceAt s row column) ∧
      (isSlot s row column → contentAt t row column ≠ before → UppersFreed row column s t) ∧
      (isSlot s row column →
        contentAt t row column = (if elsewhere && own && undermined then .empty else named) ∧
        (contentAt t row column = .disputed ∨ elsewhere = true → before ≠ .disputed → Raised .disputed s t)) ∧
      ((elsewhere = false ∨ ¬ isSlot s row column) → ∀ r k, (r, k) ≠ (row, column) → isSlot s r k →
        holdsCoilId coil (contentAt s r k) = true →
        contentAt t r k = .disputed ∧ sourceAt t r k = some (.peer p) ∧ Raised .disputed s t ∧
        ∀ u, restsOnSlot u k → (r, u) ≠ (row, column) → UpperFreed r u s t) ∧
      UnreservedSlotsKept (fun r k => (r, k) = (row, column) ∨ holdsCoilId coil (contentAt s r k) = true) s t ∧
      Acts lossBlocks [] (.disputed :: lossNotices) s t

/-- R117, R121 to R124, R105, R106, R136, R142, R147, R165, R166, R186, R187, R189: a peer's PLACED makes its release step, then
fills the slot or cradle it names or finds it in conflict, and what it takes from the station is dealt with as removed. The
search for the coil of a reference that is no slot, and what a change is, are choices (assumptions 28 and 50); assumptions 25,
51, 55 and 60 are the choices of the removal, and assumption 59 the order. -/
def Obligations.PlacedReceivedPutsTheCoil : Prop :=
  ∀ (p n : Nat) (ref : Ref) (coil : CoilId) (weight : Nat) (width : Option Nat) (s : State), Running s →
    Delivered (.placedReceived p n ref coil weight width) s →
    let released (r k : Nat) : SlotContent := (contentAt s r k).without (heldByUnder p n)
    let searched (except : Ref) (t : State) : Prop :=
      ∀ r k, .slot r k ≠ except → isSlot s r k → holdsCoilId coil (contentAt s r k) = true →
        contentAt t r k = .disputed ∧ sourceAt t r k = some (.peer p) ∧ UppersFreed r k s t ∧ Raised .disputed s t
    let otherSlots (except : Ref) (search : Prop) (t : State) : Prop :=
      ∀ r k, .slot r k ≠ except → ownResvAt s (.slot r k) = none → (search → holdsCoilId coil (contentAt s r k) = false) →
        contentAt t r k = released r k ∧ sourceAt t r k =
          if (slotResv (contentAt s r k)).any (heldByUnder p n) then some (.peer p) else sourceAt s r k
    let otherCradles (except : Ref) (t : State) : Prop :=
      ∀ b i, .cradle b i ≠ except → ownResvAt s (.cradle b i) = none →
        cradleContent t b i = (cradleContent s b i).map (CradleContent.without (heldByUnder p n))
    let conflict : Bool :=
      match ref with
      | .cradle _ _ => false
      | .slot row column => onHook coil s || inCradles coil s ||
          (isUpper column && (holdsNothing (released row (column - 1)) || holdsNothing (released row (column + 1)))) ||
          (slotResv (released row column)).isSome || decide (released row column = .closed)
    let search : Bool :=
      match ref with
      | .cradle _ _ => true
      | .slot row column => !conflict || (slotAt s row column).isNone
    let applied : Bool :=
      match ref with
      | .slot _ _ => false
      | .cradle bay index => !((bayItem s.cfg bay).isNone ||
          onHook coil (searchCoil coil none (.peer p) (releaseStep p n s)) || inCradles coil s ||
          (cradleContent s bay index).all fun c => decide (c.code = 2))
    let after (r k : Nat) : SlotContent :=
      if ref = .slot r k then (if conflict then .disputed else .occupied { coil := coil, weight := some weight, width := width })
      else if search && holdsCoilId coil (contentAt s r k) then .disputed
      else released r k
    let changed (r k : Nat) : Bool := decide (after r k ≠ contentAt s r k) ||
      (decide (ref = .slot r k) && !conflict && decide (sourceAt s r k ≠ some (.peer p)))
    let struck : Ref → Bool
      | .slot r k => (ownResvAt s (.slot r k)).isSome &&
          (decide (after r k = .disputed) ||
            (isUpper k && holdsNothing (contentAt s r k) &&
              !(isOccupied (after r (k - 1)) && isOccupied (after r (k + 1))) &&
              (decide (ref = .slot r k) || changed r (k - 1) || changed r (k + 1))))
      | .cradle b i => (ownResvAt s (.cradle b i)).isSome && decide (ref = .cradle b i) && applied
    ∃ t, exec (.placedReceived p n ref coil weight width) s = .next t ∧
      ((∀ x, struck x = false) →
        t.link = received s ∧ OwnKept (fun x => x = ref) s t ∧
        Acts [.link, .map, .trucks] [] [.disputed, .truckConflict, .truckOver] s t) ∧
      (∀ x v, ownResvAt s x = some v → struck x = true → (∀ y, y ≠ x → struck y = false) →
        Removed x v (s.withLink (received s)) t) ∧
      Acts lossBlocks [] (.disputed :: .truckConflict :: .truckOver :: lossNotices) s t ∧
      match ref with
      | .slot row column =>
        (isSlot s row column →
          if conflict then
            contentAt t row column = .disputed ∧
            (if contentAt s row column = .disputed then sourceAt t row column = sourceAt s row column
              else sourceAt t row column = some (.peer p) ∧ UppersFreed row column s t ∧ Raised .disputed s t)
          else
            contentAt t row column = .occupied { coil := coil, weight := some weight, width := width } ∧
            sourceAt t row column = some (.peer p) ∧
            (contentAt t row column ≠ contentAt s row column → UppersFreed row column s t)) ∧
        (search = true → searched ref t) ∧ otherSlots ref (search = true) t ∧ otherCradles ref t ∧ SameTruckFacts s t
      | .cradle bay index =>
        searched ref t ∧ otherSlots ref True t ∧ otherCradles ref t ∧
        (∀ b, b ≠ bay → (bayRecord t b).map Truck.bare = (bayRecord s b).map Truck.bare) ∧
        if applied = false then
          Raised .truckConflict s t ∧ SameTruckFacts s t ∧
          (ownResvAt s ref = none →
            cradleContent t bay index = (cradleContent s bay index).map (CradleContent.without (heldByUnder p n)))
        else
          cradleContent t bay index = some (.occupied coil weight (.peer p)) ∧
          ∀ b k, bayRecord s bay = some b → b.cradles[index]? = some k →
            ∃ b', bayRecord t bay = some b' ∧ b'.A = b.A + rearShare b.trailer.L weight k.offset ∧
              b'.K + b'.A = b.K + b.A + weight ∧ b'.overLimit = b'.isOver ∧
              (b'.overLimit = true → Raised .truckOver s t) ∧
              { b'.bare with K := b.K, A := b.A, overLimit := b.overLimit } = b.bare

/-! ### Requests that only read (sections 10.2 and 10.6) -/

/-- R114, R115, R172, R193, R200, R214, R72, R205: the reading requests answer with a picture of the records and change nothing
but the reply; a request outside section 10.2 is refused with BAD_ARG. Small points of the layouts are choices (assumptions
15, 16, 44, 52, 57 and 58). -/
def Obligations.ReadingRequestsOnlyAnswer : Prop :=
  ∀ s : State, Running s →
    Answers .stateRead (.okWith (layoutState s)) s ∧ (layoutState s).length = 54 ∧
    Answers .taskRead (.okWith (layoutTask s)) s ∧
    Answers .unknownRequest (.err .badArg) s ∧
    (∀ bay, Answers (.truckRead bay) (if bay ≤ 1 then .okWith (layoutTruck (bayRecord s bay)) else .err .badArg) s) ∧
    (∀ id, Answers (.neighbourRead id)
      (if id = 0 then .okWith (layoutTable s.table) else if 30 < id then .err .badArg
        else .okWith (layoutEntry (entryOf s id))) s) ∧
    (∀ row column, Answers (.mapRead (.slot row column))
      (match slotAt s row column with
        | none => .err .badArg
        | some r => .okWith (layoutSlot r)) s) ∧
    (∀ bay index, Answers (.mapRead (.cradle bay index)) (.err .badArg) s) ∧
    (∀ coil, Answers (.mapFind coil)
      (match slotsHolding coil s, (cradleHolding coil 0 s).or (cradleHolding coil 1 s) with
        | p :: _, _ => .okWith (layoutPlace 1 (some (.slot p.1 p.2)) (contentAt s p.1 p.2).code)
        | [], some ref => .okWith (layoutPlace 2 (some ref) 0)
        | [], none => .okWith (layoutPlace (if onHook coil s then 3 else 0) none 0)) s) ∧
    (∀ item, Answers (.cfgRead item)
      (if s.link.state ≠ .config then .err .badState
        else if 64 ≤ item ∧ item ≤ 79 then
          (match s.perm.zones[item - 64]? with
            | none => .err .badArg
            | some z => .okWith (be 1 1 ++ layoutZone z.entry))
        else if 1 ≤ item ∧ item ≤ 43 then
          (match storedValues item s.cfg with
            | none => .okWith (be 1 0 ++ be (unsetBytes item) 0)
            | some bytes => .okWith (be 1 1 ++ bytes))
        else .err .badArg) s)
/-! ### Task tracker (chapter 8) -/

/-- R131 to R133, R105, R108 to R110, R149, R152, R153, R190: TASK_START, its checks in order, and the task and round it begins.
That a kind outside its list is refused before the rest, and that a running round counts as busy, are choices (assumptions
13 and 48). -/
def Obligations.TaskStartChecksAndClaims : Prop :=
  ∀ (id kind : Nat) (source target : Ref) (coil : CoilId) (priority : Nat) (s : State), Running s →
    let c := Instr.taskStart id kind source target coil priority
    if 1 < kind then Answers c (.err .badArg) s
    else if taskRunning s then Answers c (.err .busy) s
    else if s.link.state ≠ .active ∨ s.link.leaving = true then Answers c (.err .notActive) s
    else if s.weigh.load = .loaded then Answers c (.err .hookLoaded) s
    else if refIsCradle target ≠ decide (kind = 1) ∨ 7 < priority then Answers c (.err .badArg) s
    else if s.link.boxes.claim.isSome ∨ s.claims.heldRequests ≠ [] ∨ s.claims.round.isSome then Answers c (.err .linkBusy) s
    else
      match source, firstFailing (sourceTests s source coil) with
      | _, some r => Answers c r s
      | .cradle _ _, none => Answers c (.err .badArg) s
      | .slot row column, none =>
        let info := slotCoil (contentAt s row column)
        match firstFailing (targetTests s source target (info.bind CoilInfo.weight) (info.bind CoilInfo.width)) with
        | some r => Answers c r s
        | none =>
          let n := (s.claims.counter + 1) % 256
          let v : Reservation := { holder := .own, round := n, priority := priority, phase := .pending, since := s.clock.now }
          let entries : List ClaimEntry := [{ ref := source, dir := .outward coil }, { ref := target, dir := .inward }]
          ∃ t, exec c s = .next t ∧
            (∃ i, contentAt s row column = .occupied i ∧ i.coil = coil ∧ contentAt t row column = .reservedOut i v) ∧
            sourceAt t row column = some .own ∧
            (match target with
              | .slot r k => contentAt s r k = .empty ∧ contentAt t r k = .reservedIn v ∧ sourceAt t r k = some .own
              | .cradle bay index => cradleContent s bay index = some .free ∧
                  cradleContent t bay index = some (.reserved v)) ∧
            (∀ r k, .slot r k ≠ source → .slot r k ≠ target →
              contentAt t r k = contentAt s r k ∧ sourceAt t r k = sourceAt s r k) ∧
            (∀ bay index, .cradle bay index ≠ target → cradleContent t bay index = cradleContent s bay index) ∧
            SameTruckFacts s t ∧
            t.claims = { s.claims with
              counter := n
              round := some { number := n, purpose := .start, priority := priority, entries := entries,
                              stage := .queued, windowTime := 0 } } ∧
            t.link = { s.link with
              boxes := { s.link.boxes with claim := some { round := n, priority := priority, entries := entries } } } ∧
            t.tracker = { s.tracker with
              task := some { id := id, kind := if refIsCradle target then .load else .move, sourceRow := row,
                             sourceColumn := column, target := some target, coil := coil,
                             weight := info.bind CoilInfo.weight, width := info.bind CoilInfo.width,
                             priority := priority, state := .claiming, measured := none, reason := none, round := n,
                             waiting := none } } ∧
            Accepts lossBlocks [] [] (be 1 n) s t

/-- R155 to R157, R33, R116, R145, R159, R160, R169, R170, R188: TASK_CONFIRM by the task state, and the waiting booking made by
BOOKING_RESUMED. A take-out into a DISPUTED slot, a waiting booking's answer and a put-in into a DISPUTED slot are DEDUCED
(assumptions 11, 19 and 27), and that no search follows a put-in is a choice (assumption 58). -/
def Obligations.BookingsConfirmedAndResumed : Prop :=
  ∀ s : State, Running s →
    match s.tracker.task with
    | none => Answers .taskConfirm (.err .badState) s ∧ ∃ t, exec .bookingResumed s = .next t ∧ Acts [] [] [] s t
    | some k =>
      let kept (t : State) : Prop :=
        UnreservedSlotsKept (fun r c => k.source = .slot r c ∨ k.target = some (.slot r c)) s t
      let placed (t : State) : Prop :=
        match k.target with
        | none => t.tracker = s.tracker ∧ t.map = s.map ∧ t.link = s.link
        | some ref => PutsIn k ref s t
      (if k.waiting.isSome then Answers .taskConfirm (.err .linkBusy) s
        else
          match k.state with
          | .liftPending =>
            ∃ t, exec .taskConfirm s = .next t ∧ Accepts lossBlocks [] bookingNotices [] s t ∧ kept t ∧
              if s.link.boxes.book.isSome then
                t.tracker = { s.tracker with task := some { k with waiting := some .takeOut } } ∧ t.map = s.map
              else TakesOut k s t
          | .verifyHold =>
            ∃ t, exec .taskConfirm s = .next t ∧ t.tracker.hook = s.tracker.hook ∧
              match k.target with
              | none => t.tracker.task = some { k with weight := some k.measuredWeight, state := .targetLost } ∧
                  Accepts [.tracker] [] [] [] s t
              | some ref =>
                if targetStillFits s ref k.measuredWeight then
                  t.tracker.task = some { k with weight := some k.measuredWeight, state := .toTarget } ∧
                  Accepts [.tracker] [] [] [] s t
                else
                  t.tracker.task = some { k with weight := some k.measuredWeight, target := none, state := .targetLost } ∧
                  ownResvAt t ref = none ∧ (∀ v, ownResvAt s ref = some v → ReleaseAsked v.round ref t) ∧
                  LinkKeeps s.link.boxes.book s t ∧ kept t ∧ Accepts lossBlocks [.targetLost] [] [] s t
          | .placePending =>
            ∃ t, exec .taskConfirm s = .next t ∧ Accepts lossBlocks [] bookingNotices [] s t ∧ kept t ∧
              if s.link.boxes.book.isSome then
                t.tracker = { s.tracker with task := some { k with waiting := some .putIn } } ∧ t.map = s.map
              else placed t
          | _ => Answers .taskConfirm (.err .badState) s) ∧
      ∃ t, exec .bookingResumed s = .next t ∧ Acts lossBlocks [] bookingNotices s t ∧ kept t ∧
        if s.link.boxes.book.isSome then Acts [] [] [] s t
        else
          match k.waiting with
          | none => Acts [] [] [] s t
          | some .takeOut => TakesOut k s t
          | some .putIn => placed t
          | some .returnIn => Returns (ownResvAt s k.source) k s t

/-- R137, R136, R145, R155, R168 to R170: TASK_CANCEL by the task state. That a waiting booking answers before the state does, a
take-out into a DISPUTED slot, and the target of a task whose source is lost, are DEDUCED (assumptions 19, 11 and 51). -/
def Obligations.TaskCancelByTaskState : Prop :=
  ∀ s : State, Running s →
    match s.tracker.task with
    | none => Answers .taskCancel (.err .badState) s
    | some k =>
      if k.waiting.isSome then Answers .taskCancel (.err .linkBusy) s
      else
        let returns (t : State) : Prop :=
          t.tracker = { s.tracker with task := some { k with target := none, state := .returning } }
        let freed (t : State) : Prop :=
          ∀ ref, k.target = some ref → ownResvAt t ref = none ∧
            ∀ v, ownResvAt s ref = some v → ReleaseAsked v.round ref t
        match k.state with
        | .claiming | .toSource =>
          ∃ t, exec .taskCancel s = .next t ∧
            t.tracker = { s.tracker with
              task := some { k with target := none, state := .cancelled, reason := some .request, waiting := none } } ∧
            (k.state = .claiming → ∀ r ∈ s.claims.round, r.purpose ≠ .reassert → RoundClosed r s t) ∧
            OwnReleased s t ∧ LinkKeeps s.link.boxes.book s t ∧ Accepts lossBlocks [.cancelled] [] [] s t
        | .liftPending =>
          if s.link.boxes.book.isSome then Answers .taskCancel (.err .linkBusy) s
          else
            ∃ t, exec .taskCancel s = .next t ∧
              UnreservedSlotsKept (fun _ _ => False) s t ∧
              match ownResvAt s k.source, contentAt s k.sourceRow k.sourceColumn with
              | some v, .reservedOut _ _ =>
                LinkKeeps (some (.picked v.round k.source k.coil)) s t ∧
                (k.target ≠ some k.source → contentAt t k.sourceRow k.sourceColumn =
                  if coveredByCoil s k.sourceRow k.sourceColumn then .disputed else .reservedIn v) ∧
                (k.target ≠ some k.source → sourceAt t k.sourceRow k.sourceColumn = some .own ∧ freed t) ∧
                (coveredByCoil s k.sourceRow k.sourceColumn = true → ReleaseAsked v.round k.source t ∧ Raised .disputed s t) ∧
                t.tracker = { task := some { k with target := none, state := .returning }
                              hook := s.tracker.hook.map fun h => { h with coil := some k.coil, width := k.width } } ∧
                Accepts lossBlocks [] [.disputed] [] s t
              | _, _ =>
                t.tracker =
                  { task := some { k with target := none, state := .aborted, reason := some .sourceLost, waiting := none }
                    hook := s.tracker.hook.map fun h => { h with coil := none, width := none, origin := .unknown } } ∧
                OwnReleased s t ∧ LinkKeeps s.link.boxes.book s t ∧ Accepts lossBlocks [.hookUnknown, .aborted] [] [] s t
        | .verifyHold | .toTarget | .targetLost =>
          ∃ t, exec .taskCancel s = .next t ∧ returns t ∧ freed t ∧
            UnreservedSlotsKept (fun r c => k.target = some (.slot r c)) s t ∧ LinkKeeps s.link.boxes.book s t ∧
            (∀ r c, k.target ≠ some (.slot r c) → contentAt t r c = contentAt s r c) ∧ Accepts lossBlocks [] [] [] s t
        | .retargeting =>
          ∃ t, exec .taskCancel s = .next t ∧ returns t ∧
            (∀ r ∈ s.claims.round, r.purpose ≠ .reassert → RoundClosed r s t) ∧
            UnreservedSlotsKept (fun _ _ => False) s t ∧ LinkKeeps s.link.boxes.book s t ∧ Accepts lossBlocks [] [] [] s t
        | .returning => ∃ t, exec .taskCancel s = .next t ∧ Accepts [] [] [] [] s t
        | .placePending | .done | .cancelled | .claimLost | .aborted => Answers .taskCancel (.err .badState) s

/-- R131 to R133, R105, R109, R110, R149, R167, R169, R190: TASK_RETARGET, its checks in order, and the round it begins. That a
waiting booking answers before the state does is DEDUCED, and that a running round counts as busy a choice (assumptions 19
and 48). -/
def Obligations.TaskRetargetChecksAndClaims : Prop :=
  ∀ (target : Ref) (s : State), Running s →
    let c := Instr.taskRetarget target
    match s.tracker.task with
    | none => Answers c (.err .badState) s
    | some k =>
      if k.waiting.isSome then Answers c (.err .linkBusy) s
      else if k.state ≠ .targetLost then Answers c (.err .badState) s
      else if s.link.state ≠ .active then Answers c (.err .notActive) s
      else if (match target with
          | .slot row column => decide (31 < row ∨ 30 < column)
          | .cradle bay index => decide (1 < bay ∨ 5 < index)) = true then Answers c (.err .badArg) s
      else if s.link.boxes.claim.isSome ∨ s.claims.heldRequests ≠ [] ∨ s.claims.round.isSome then Answers c (.err .linkBusy) s
      else
        match firstFailing (targetTests s k.source target k.weight k.width) with
        | some r => Answers c r s
        | none =>
          let n := (s.claims.counter + 1) % 256
          let v : Reservation :=
            { holder := .own, round := n, priority := k.priority, phase := .pending, since := s.clock.now }
          ∃ t, exec c s = .next t ∧
            (match target with
              | .slot r col => contentAt s r col = .empty ∧ contentAt t r col = .reservedIn v ∧
                  sourceAt t r col = some .own
              | .cradle bay index => cradleContent s bay index = some .free ∧
                  cradleContent t bay index = some (.reserved v)) ∧
            (∀ r col, .slot r col ≠ target → contentAt t r col = contentAt s r col ∧ sourceAt t r col = sourceAt s r col) ∧
            (∀ bay index, .cradle bay index ≠ target → cradleContent t bay index = cradleContent s bay index) ∧
            SameTruckFacts s t ∧
            t.claims = { s.claims with
              counter := n
              round := some { number := n, purpose := .retarget, priority := k.priority,
                              entries := [{ ref := target, dir := .inward }], stage := .queued, windowTime := 0 } } ∧
            t.link = { s.link with
              boxes := { s.link.boxes with
                claim := some { round := n, priority := k.priority, entries := [{ ref := target, dir := .inward }] } } } ∧
            t.tracker = { s.tracker with
              task := some { k with
                target := some target, kind := if refIsCradle target then .load else .move, state := .retargeting
                round := n } } ∧
            Accepts lossBlocks [] [] (be 1 n) s t
/-! ### Truck loading (chapter 9) -/

/-- R186: the lever rule: the two shares sum to the weight, and the rear share is the nearest whole number, a half rounding
up. -/
def Obligations.LeverRuleRoundsToNearest : Prop :=
  ∀ (L x : Nat) (W : Int), 0 < L →
    frontShare L W x + rearShare L W x = W ∧
    2 * (W * x - rearShare L W x * L) < L ∧ 2 * (rearShare L W x * L - W * x) ≤ L

/-- R49, R178, R179, R182, R184: the three TRUCK requests, their checks in order, and their effect. -/
def Obligations.TruckRequestsChangeTheRecord : Prop :=
  ∀ (bay truckRef orientation : Nat) (trailer : Trailer) (offsets : List Nat) (s : State), Running s →
    let refusal : Option Status :=
      if s.link.state = .config ∨ s.link.leaving = true then some .notActive
      else if s.link.boxes.truck.isSome then some .linkBusy else none
    let queued (f : TruckFrame) : Link := { s.link with boxes := { s.link.boxes with truck := some f } }
    let otherBay (t : State) : Prop := ∀ b, b ≠ bay → bayRecord t b = bayRecord s b
    (let c := Instr.truckArrive bay truckRef orientation trailer offsets
      if 1 < bay ∨ offsets.length < 1 ∨ 6 < offsets.length ∨ 2 < orientation then Answers c (.err .badArg) s
      else
        match bayItem s.cfg bay, bayRecord s bay, refusal with
        | none, _, _ => Answers c (.err .badState) s
        | some _, some _, _ => Answers c (.err .bayBusy) s
        | some _, none, some st => Answers c (.err st) s
        | some b, none, none =>
          let o : Orientation := if orientation = 0 then .plus else if orientation = 1 then .minus else b.orientation
          let clamped := clampTrailer trailer
          let places := offsets.map fun x => min x 16000
          ∃ t, exec c s = .next t ∧ t.link = queued (.arrive bay truckRef o clamped places) ∧
            bayRecord t bay = some
              { closed := false, truckRef := truckRef, announcer := ownId s, orientation := o, trailer := clamped
                cradles := places.map fun x => { offset := x, content := .free }
                K := clamped.K0, A := clamped.A0, overLimit := false } ∧
            otherBay t ∧ Accepts [.link, .trucks] [.truckArrived] [] [] s t) ∧
    (if 1 < bay then Answers (.truckClose bay) (.err .badArg) s
      else
        match bayRecord s bay, refusal with
        | none, _ => Answers (.truckClose bay) (.err .badState) s
        | some b, r =>
          if b.closed then Answers (.truckClose bay) (.err .badState) s
          else
            match r with
            | some st => Answers (.truckClose bay) (.err st) s
            | none =>
              ∃ t, exec (.truckClose bay) s = .next t ∧ t.link = queued (.close bay b.truckRef) ∧
                bayRecord t bay = some { b with closed := true } ∧ otherBay t ∧
                Accepts [.link, .trucks] [] [] [] s t) ∧
    (if 1 < bay then Answers (.truckDepart bay) (.err .badArg) s
      else
        match bayRecord s bay, refusal with
        | none, _ => Answers (.truckDepart bay) (.err .badState) s
        | some b, r =>
          if b.cradles.any (fun k => decide (k.content.code = 1)) then Answers (.truckDepart bay) (.err .cradleReserved) s
          else
            match r with
            | some st => Answers (.truckDepart bay) (.err st) s
            | none =>
              ∃ t, exec (.truckDepart bay) s = .next t ∧ t.link = queued (.depart bay b.truckRef) ∧
                bayRecord t bay = none ∧ otherBay t ∧ Accepts [.link, .trucks] [.truckDeparted] [] [] s t)

/-- R179 to R181, R183, R185: the TRUCK frames of a peer, by the bay's item and record; R136, R142, R147, R165, R166: an own cradle
reservation lost with the record. That a frame of a bay above 1 is handed on, with no item, is DEDUCED (assumption 10);
assumptions 25, 51 and 55 are the choices of the removal. -/
def Obligations.TruckFramesChangeTheRecord : Prop :=
  let removed (bay : Nat) (s t : State) : Prop :=
    (∀ b i, b ≠ bay → ownResvAt s (.cradle b i) = none → cradleContent t b i = cradleContent s b i) ∧
    ∀ i v, ownResvAt s (.cradle bay i) = some v → (∀ j, j ≠ i → ownResvAt s (.cradle bay j) = none) →
      Removed (.cradle bay i) v (s.withLink (received s)) t
  (∀ (sender bay truckRef : Nat) (o : Orientation) (trailer : Trailer) (offsets : List Nat) (s : State), Running s →
    Delivered (.truckArriveReceived sender bay truckRef o trailer offsets) s →
    let clamped := clampTrailer trailer
    let places := offsets.map fun x => min x 16000
    let made : Truck :=
      { closed := false, truckRef := truckRef, announcer := sender, orientation := o, trailer := clamped
        cradles := places.map fun x => { offset := x, content := .free }
        K := clamped.K0, A := clamped.A0, overLimit := false }
    ∃ t, exec (.truckArriveReceived sender bay truckRef o trailer offsets) s = .next t ∧
      ((∀ i, ownResvAt s (.cradle bay i) = none) →
        t.link = received s ∧ OwnKept (fun _ => False) s t ∧ (∀ b, b ≠ bay → bayRecord t b = bayRecord s b) ∧
        Acts [.link, .trucks] [] [.truckArrived, .truckConflict] s t) ∧
      (∀ b, b ≠ bay → (bayRecord t b).map Truck.bare = (bayRecord s b).map Truck.bare) ∧
      match bayItem s.cfg bay, bayRecord s bay with
      | none, _ => t.link = received s ∧ Acts [.link] [.truckConflict] [] s t
      | some _, none => bayRecord t bay = some made ∧ t.link = received s ∧ Acts [.link, .trucks] [.truckArrived] [] s t
      | some _, some b =>
        if b.truckRef = truckRef ∧ b.orientation = o ∧ b.trailer = clamped ∧ b.cradles.map Cradle.offset = places then
          t.link = received s ∧ Acts [.link] [] [] s t
        else if b.closed = false ∧ b.cradles.all (fun k => decide (k.content.code ≠ 2)) = true ∧ sender ≤ b.announcer then
          bayRecord t bay = some made ∧ UnreservedSlotsKept (fun _ _ => False) s t ∧ removed bay s t ∧
          Acts lossBlocks [.truckArrived] lossNotices s t
        else t.link = received s ∧ Acts [.link] [.truckConflict] [] s t) ∧
  (∀ (sender bay truckRef : Nat) (s : State), Running s → Delivered (.truckCloseReceived sender bay truckRef) s →
    ∃ t, exec (.truckCloseReceived sender bay truckRef) s = .next t ∧ t.link = received s ∧
      match bayItem s.cfg bay, bayRecord s bay with
      | some _, some b =>
        if b.truckRef = truckRef then
          bayRecord t bay = some { b with closed := true } ∧ (∀ x, x ≠ bay → bayRecord t x = bayRecord s x) ∧
          Acts [.link, .trucks] [] [] s t
        else Acts [.link] [.truckConflict] [] s t
      | _, _ => Acts [.link] [.truckConflict] [] s t) ∧
  (∀ (sender bay truckRef : Nat) (s : State), Running s → Delivered (.truckDepartReceived sender bay truckRef) s →
    ∃ t, exec (.truckDepartReceived sender bay truckRef) s = .next t ∧
      ((∀ i, ownResvAt s (.cradle bay i) = none) →
        t.link = received s ∧ OwnKept (fun _ => False) s t ∧ (∀ b, b ≠ bay → bayRecord t b = bayRecord s b) ∧
        Acts [.link, .trucks] [] [.truckDeparted, .truckConflict] s t) ∧
      match bayItem s.cfg bay, bayRecord s bay with
      | some _, some b =>
        if b.truckRef = truckRef then
          bayRecord t bay = none ∧ (∀ x, x ≠ bay → (bayRecord t x).map Truck.bare = (bayRecord s x).map Truck.bare) ∧
          UnreservedSlotsKept (fun _ _ => False) s t ∧ removed bay s t ∧
          Acts lossBlocks [.truckDeparted] lossNotices s t
        else t.link = received s ∧ Acts [.link] [.truckConflict] [] s t
      | _, _ => t.link = received s ∧ Acts [.link] [] [] s t)
/-! ### Configuration and zones (sections 5.9 and 10.3) -/

/-- R22, R58, R66, R76, R81, R103, R144, R175, R200, R202 to R204: every CFG_WRITE, its checks in order, the value stored, the
reply that shows it, and what follows from it at once. That no item but those of R76 evaluates the entries, an item that is
not listed and a bay above 1 are DEDUCED (assumptions 9, 40 and 41). -/
def Obligations.CfgWriteStoresTheItem : Prop :=
  ∀ (c : Instr) (item : Nat) (values : List Nat) (s : State), Running s → cfgItem c = some (item, values) →
    let listed : Bool := decide (1 ≤ item) && decide (item ≤ 43)
    let count : Option Nat :=
      if item = 24 ∨ item = 25 then none
      else if item = 39 then some 6
      else if item = 41 ∨ item = 42 then some 3
      else if listed then some 1
      else if 64 ≤ item ∧ item ≤ 79 then some 9
      else none
    if count.any (fun n => decide (n ≠ values.length)) = true then Answers c (.err .badArg) s
    else if s.link.state ≠ .config then Answers c (.err .badState) s
    else if (!listed || namedValueBad item values || geometryRefused item values) = true then Answers c (.err .badArg) s
    else
      ∃ t, exec c s = .next t ∧ Written item values s.cfg t.cfg ∧
        (∀ j, j ≠ item → ¬ (item = 32 ∧ j = 33) → storedValues j t.cfg = storedValues j s.cfg) ∧
        t.weigh = (if item = 27 ∨ item = 28 ∨ item = 29 then { s.weigh with window := [], stableNet := none } else s.weigh) ∧
        (if item = 1 then
            t.table = { s.table with entries := s.table.entries.filter fun e => some e.id != t.cfg.stationId } ∧
            (if (entryOf s (t.cfg.stationId.getD 0)).isSome then AllReleased (heldBy (t.cfg.stationId.getD 0)) .own s t
              else t.map = s.map ∧ t.trucks.bay0 = s.trucks.bay0 ∧ t.trucks.bay1 = s.trucks.bay1)
          else t.trucks.bay0 = s.trucks.bay0 ∧ t.trucks.bay1 = s.trucks.bay1 ∧ t.table =
            if (4 ≤ item ∧ item ≤ 20) ∨ item = 36 ∨ item = 37 then
              { s.table with entries := s.table.entries.map (evalEntry t) }
            else s.table) ∧
        (if item = 1 ∧ s.cfg.stationId ≠ t.cfg.stationId ∨ item = 39 ∧ s.cfg.geometry ≠ t.cfg.geometry then
            t.link = { s.link with boxes := { s.link.boxes with release := none, book := none, truck := none } } ∧
            t.claims = { s.claims with heldRequests := [] }
          else t.link = s.link ∧ t.claims = s.claims) ∧
        (if item = 39 ∧ s.cfg.geometry ≠ t.cfg.geometry then
            ∀ g, t.cfg.geometry = some g →
              t.map = List.replicate (g.rows * columns g) { content := .unknown, source := .own }
          else item ≠ 1 → t.map = s.map) ∧
        Accepts [.cfg, .weigh, .table, .link, .claims, .map, .trucks] [] [] ((storedValues item t.cfg).getD []) s t

/-- R87, R88: ZONE_WRITE replaces one zone in CONFIG, and ZONE_ENABLE sets the switches of its change mask. The number sent with
ALWAYS, a valid flag above 1, the order of coordinates as sent, a change mask of 0 and the clearance height of a zone of
another kind are choices (assumptions 15, 17, 47, 53 and 57). -/
def Obligations.ZoneRequestsSetZonesAndSwitches : Prop :=
  (∀ (index : Nat) (z : ZoneArgs) (s : State), Running s →
    let c := Instr.zoneWrite index z
    if 1 < z.valid then Answers c (.err .badArg) s
    else if s.link.state ≠ .config then Answers c (.err .badState) s
    else if 15 < index ∨ 3 < z.kind ∨ 2 < z.condition ∨ (z.condition = 1 ∧ 7 < z.number) ∨
        (z.condition = 2 ∧ 1 < z.number) ∨ z.bridgeMax < z.bridgeMin ∨ z.trolleyMax < z.trolleyMin then
      Answers c (.err .badArg) s
    else
      ∃ (t : State) (kind : ZoneKind) (cond : ZoneCond), exec c s = .next t ∧ kind.code = z.kind ∧
        cond.code = (z.condition, if z.condition = 0 then 0 else z.number) ∧
        t.perm.zones.map Zone.entry = (s.perm.zones.map Zone.entry).set index
          { valid := decide (z.valid = 1)
            bridgeMin := min z.bridgeMin 400000, bridgeMax := min z.bridgeMax 400000
            trolleyMin := min z.trolleyMin 60000, trolleyMax := min z.trolleyMax 60000
            kind := kind, clearance := if kind = .clearance then min z.clearance 40000 else 0, cond := cond } ∧
        t.perm.switches = s.perm.switches ∧ t.perm.hoistNow = s.perm.hoistNow ∧ t.perm.hoistPrev = s.perm.hoistPrev ∧
        t.perm.hoistSpeed = s.perm.hoistSpeed ∧ Accepts [.perm] [] [] [] s t) ∧
  (∀ (change on : BitVec 8) (s : State), Running s →
    ∃ t, exec (.zoneEnable change on) s = .next t ∧
      (∀ i, t.perm.switches.getLsbD i = if change.getLsbD i then on.getLsbD i else s.perm.switches.getLsbD i) ∧
      t.perm.zones.map Zone.entry = s.perm.zones.map Zone.entry ∧ t.perm.hoistNow = s.perm.hoistNow ∧
      t.perm.hoistPrev = s.perm.hoistPrev ∧ t.perm.hoistSpeed = s.perm.hoistSpeed ∧
      Accepts [.perm] [] [] [BitVec.ofNat 8 t.perm.switches.toNat] s t)

/-! ### Control port and notices (chapter 10) -/

/-- R196 to R199: a request is taken while READY is high and an overrun while it is low; a reply read shifts out the held
reply, or the no-reply mark, and changes nothing else, and a transaction of no whole byte does nothing. What the data output
carries is the model's record (assumptions 8 and 34). -/
def Obligations.PortTransactions : Prop :=
  ∀ s : State, Running s →
    let shown (clocks : Nat) : List Byte :=
      let bytes := match s.port.reply with
        | none => [255, 0, 0, 0]
        | some r => r.bytes
      bytes.take clocks ++ List.replicate (clocks - bytes.length) 0
    (∀ clocks, exec (.readReply clocks) s = .next (s.withPort { s.port with dataOut := shown clocks })) ∧
    (∀ partialByte, exec (.chipSelectRise [] partialByte) s = .next s) ∧
    (∀ rest partialByte, exec (.chipSelectRise (0x80 :: rest) partialByte) s =
      .next (s.withPort { s.port with dataOut := shown rest.length })) ∧
    (∀ code rest partialByte, code ≠ 0x80 →
      let zeros := List.replicate (rest.length + 1) (0 : Byte)
      if s.port.ready then
        exec (.chipSelectRise (code :: rest) partialByte) s =
          .next (s.withPort { ready := false, request := some { bytes := code :: rest, partialByte := partialByte }
                              reply := none, dataOut := zeros })
      else
        ∃ t, exec (.chipSelectRise (code :: rest) partialByte) s = .next t ∧
          t.port = { s.port with dataOut := zeros } ∧ Keeps [.port] s t ∧ t.perm = s.perm ∧
          Notices [.portOverrun] [] s t ∧ t.notices.attn = attnLevel t)

/-- R210 to R213: the three notice requests change the notice unit alone, and ATTN follows. -/
def Obligations.NoticeRequestsReadClearEnable : Prop :=
  ∀ s : State, Running s →
    let answered (t : State) (payload : List Byte) : Prop :=
      t.port = { s.port with ready := true, request := none, reply := some (.okWith payload) } ∧ Keeps [.port] s t ∧
      t.perm = s.perm ∧ t.trucks = s.trucks ∧ t.notices.attn = attnLevel t
    (∃ t, exec .noticeRead s = .next t ∧ answered t (layoutNotices s.notices) ∧
      t.notices = { s.notices with groups := 0, attn := t.notices.attn }) ∧
    (∀ mask : BitVec 32,
      if mask.getLsbD 30 = true ∨ mask.getLsbD 31 = true then
        ∃ t, exec (.noticeClear mask) s = .next t ∧ t.port.reply = some (.err .badArg) ∧
          t.notices = { s.notices with attn := t.notices.attn } ∧ Keeps [.port] s t
      else
        ∃ t, exec (.noticeClear mask) s = .next t ∧ answered t (be 4 t.notices.sources.toNat) ∧
          t.notices = { s.notices with sources := s.notices.sources &&& ~~~mask, attn := t.notices.attn }) ∧
    (∀ (sources : BitVec 32) (groups : BitVec 8) (global : Nat),
      if sources.getLsbD 30 = true ∨ sources.getLsbD 31 = true ∨ groups.getLsbD 6 = true ∨ groups.getLsbD 7 = true ∨
          1 < global then
        ∃ t, exec (.noticeEnable sources groups global) s = .next t ∧ t.port.reply = some (.err .badArg) ∧
          t.notices = { s.notices with attn := t.notices.attn } ∧ Keeps [.port] s t
      else
        ∃ t, exec (.noticeEnable sources groups global) s = .next t ∧
          answered t (be 4 sources.toNat ++ be 1 groups.toNat ++ be 1 global) ∧
          t.notices = { s.notices with
            sourceEnable := sources, groupEnable := groups, global := decide (global = 1), attn := t.notices.attn })
/-! ### Motion permissions (chapter 5) -/

/-- R74: each output is at or below every offer made to it, and is one of them or FULL. R86, R91, R191: every command leaves
the zones and the truck check evaluated and raises their notices. R75: the line changes a command makes, as the model
records them (assumption 8), pair by pair (assumption 54); the link offer in LISTEN after a
RESTART is assumption 56. -/
def Obligations.OutputIsLowestOffer : Prop :=
  (∀ s : State, OutputsFollow s → Running s → ∀ d,
    (∀ o ∈ offers s d, (s.perm.outputs.get d).rank ≤ o.rank) ∧
    (s.perm.outputs.get d = .full ∨ s.perm.outputs.get d ∈ offers s d)) ∧
  Evaluated State.reset ∧
  (∀ (c : Instr) (s t : State), exec c s = .next t → Evaluated s →
    Evaluated t ∧
    (∀ (i : Nat) (z z' : Zone), s.perm.zones[i]? = some z → t.perm.zones[i]? = some z' →
      z.inside = false → z'.inside = true → Raised .zoneInside s t) ∧
    (s.trucks.checkStop = false → t.trucks.checkStop = true → Raised .loadLimit s t)) ∧
  (∀ (c : Instr) (s t : State), exec c s = .next t → c ≠ .pinResetRelease →
    t.perm.lineTrace = if t.perm.outputs = s.perm.outputs then s.perm.lineTrace
      else [Dir.bridgePlus, .bridgeMinus, .trolleyPlus, .trolleyMinus, .hoistUp, .hoistDown].flatMap fun d =>
        (lineSteps (s.perm.outputs.get d) (t.perm.outputs.get d)).map fun p => { dir := d, lineA := p.1, lineB := p.2 })

/-- R75: the lines of the four levels; an output goes from one level to another by changes of one line at a time, and passes
through no level above the higher of the two: between CREEP and SLOW through STOP, and between STOP and FULL through CREEP. -/
def Obligations.LinesNeverPassAHigherLevel : Prop :=
  Level.stop.lines = (false, false) ∧ Level.creep.lines = (true, false) ∧ Level.slow.lines = (false, true) ∧
  Level.full.lines = (true, true) ∧
  (∀ old new : Level,
    (∀ p ∈ lineSteps old new, ∃ l : Level, l.lines = p ∧ (l.rank ≤ old.rank ∨ l.rank ≤ new.rank)) ∧
    (old ≠ new → (lineSteps old new).getLast? = some new.lines) ∧
    (old.lines :: lineSteps old new).IsChain (fun p q => p.1 = q.1 ∨ p.2 = q.2)) ∧
  lineSteps .creep .slow = [(false, false), (false, true)] ∧ lineSteps .slow .creep = [(false, false), (true, false)] ∧
  lineSteps .stop .full = [(true, false), (true, true)] ∧ lineSteps .full .stop = [(true, false), (false, false)]

/-- R78: the plain level, the table of the held level, and that the held level never lies above the plain level. R76, R77, R79 to
R82, R84 to R86, R90, R92, R94: the evaluation of an entry, and, at every event and accepted request that evaluates them, of
every end limit and zone, with gap and required distance; a zone written starts from FULL. That the end limits are evaluated
at the events R84 does not name is DEDUCED (assumption 9). -/
def Obligations.HeldLevelFollowsTheGap : Prop :=
  (∀ (c : Cfg) (held : Level) (gap required : Int), held ≠ .creep →
    plainLevel c gap required =
      (if gap ≤ required then .stop else if gap ≤ required + c.slowBand then .slow else .full) ∧
    heldStep c held gap required =
      (if gap ≤ required then .stop
        else if gap ≤ required + c.slowBand then
          (if held = .stop then (if required + c.hysteresis < gap then .slow else .stop) else .slow)
        else if required + c.slowBand + c.hysteresis < gap then .full
        else if held = .stop then (if required + c.hysteresis < gap then .slow else .stop)
        else held) ∧
    (heldStep c held gap required).rank ≤ (plainLevel c gap required).rank) ∧
  (∀ t : State,
    let c := t.cfg
    let up (n d : Int) : Int := -((-n) / d)
    let stopping (a : Nat) (v : Int) : Int := up (v * v) (2 * a) + up (v * c.tReact) 1000
    let B := t.pos.bridge.current
    let T := t.pos.trolley.current
    let toward : Dir → Int
      | .bridgePlus => max 0 t.pos.bridge.speed
      | .bridgeMinus => max 0 (-t.pos.bridge.speed)
      | .trolleyPlus => max 0 t.pos.trolley.speed
      | .trolleyMinus => max 0 (-t.pos.trolley.speed)
      | .hoistUp => max 0 t.perm.hoistSpeed
      | .hoistDown => max 0 (-t.perm.hoistSpeed)
    let ownStop (d : Dir) : Int :=
      stopping (if d.isBridge then c.aBridge else if d.isTravel then c.aTrolley else c.aHoist) (toward d)
    let endGap : Dir → Int
      | .bridgePlus => c.runwayMax - (B + c.plusExtent)
      | .bridgeMinus => (B - c.minusExtent) - c.runwayMin
      | .trolleyPlus => c.trolleyMax - T
      | .trolleyMinus => T - c.trolleyMin
      | .hoistUp => c.hoistTop - t.pos.hoist.current
      | .hoistDown => t.pos.hoist.current - c.hoistBottom
    let R : Int := if t.weigh.load = .loaded then c.radiusLoaded else c.radiusUnloaded
    let H : Int := if t.pos.hoist.state = .valid then t.pos.hoist.current else 0
    let overBridge (z : ZoneEntry) : Bool := decide (B - R ≤ z.bridgeMax ∧ z.bridgeMin ≤ B + R)
    let overTrolley (z : ZoneEntry) : Bool := decide (T - R ≤ z.trolleyMax ∧ z.trolleyMin ≤ T + R)
    let acts (z : ZoneEntry) : Bool := zoneActive t z && match z.kind with
      | .keepOut => true
      | .loadedKeepOut => decide (t.weigh.load = .loaded)
      | .clearance => decide (t.weigh.load = .loaded ∧ H < z.clearance)
      | .slowArea => false
    let zoneLevel (z : ZoneEntry) (d : Dir) (held : Level) : Level :=
      let test (beside : Bool) (gap : Int) : Level :=
        if acts z && beside && decide (0 < gap) then heldStep c held gap (ownStop d + c.margin) else .full
      if acts z && overBridge z && overTrolley z then .full
      else
        match d with
        | .bridgePlus => test (overTrolley z) (z.bridgeMin - (B + R))
        | .bridgeMinus => test (overTrolley z) ((B - R) - z.bridgeMax)
        | .trolleyPlus => test (overBridge z) (z.trolleyMin - (T + R))
        | .trolleyMinus => test (overBridge z) ((T - R) - z.trolleyMax)
        | .hoistUp => .full
        | .hoistDown =>
          if zoneActive t z && decide (z.kind = .clearance ∧ t.weigh.load = .loaded) && overBridge z && overTrolley z then
            heldStep c held (H - z.clearance) (ownStop .hoistDown + c.margin)
          else .full
    (∀ e : Entry, evalEntry t e =
      let plus : Bool := decide (B < e.report.bridgePos)
      let grown : Int := up (c.vmax * (e.age + 20)) 1000
      let drifted : Int := if e.state = .lost then min grown c.lostDriftCap else grown
      let peer : Int := if e.state = .fresh then
          max 0 (if plus then -e.report.bridgeSpeed else e.report.bridgeSpeed) else c.vmax
      let gap : Int := (if plus then (e.report.bridgePos - e.report.minusExtent) - (B + c.plusExtent)
        else (B - c.minusExtent) - (e.report.bridgePos + e.report.plusExtent)) - drifted
      let required : Int := ownStop (if plus then .bridgePlus else .bridgeMinus) + stopping c.aBridge peer + c.margin
      { e with
        heldPlus := if plus then heldStep c e.heldPlus gap required else .full
        heldMinus := if plus then .full else heldStep c e.heldMinus gap required }) ∧
    ∀ (c' : Instr) (s : State), Running s → exec c' s = .next t →
      let accepted : Bool := t.port.reply.any fun r => r.status == .ok
      (match c' with
        | .positionSample | .markEdge _ | .weighingCycle _ _ _ _ | .truckArriveReceived _ _ _ _ _ _
        | .truckDepartReceived _ _ _ => True
        | .posReference _ _ | .zoneEnable _ _ | .zoneWrite _ _ | .truckArrive _ _ _ _ _ | .truckDepart _ => accepted = true
        | _ => (cfgItem c').isSome = true ∧ accepted = true) →
      let fresh (i : Nat) : Bool :=
        match c' with
        | .zoneWrite index _ => decide (index = i)
        | _ => false
      (∀ d, t.perm.limits.get d = if (axisOf t d).state = .valid then
        heldStep c (s.perm.limits.get d) (endGap d) (ownStop d) else .full) ∧
      t.perm.zones.length = s.perm.zones.length ∧
      ∀ (i : Nat) (old z : Zone), s.perm.zones[i]? = some old → t.perm.zones[i]? = some z →
        let before (l : Level) : Level := if fresh i then .full else l
        (fresh i = false → z.entry = old.entry) ∧
        z = { entry := z.entry
              heldBridgePlus := zoneLevel z.entry .bridgePlus (before old.heldBridgePlus)
              heldBridgeMinus := zoneLevel z.entry .bridgeMinus (before old.heldBridgeMinus)
              heldTrolleyPlus := zoneLevel z.entry .trolleyPlus (before old.heldTrolleyPlus)
              heldTrolleyMinus := zoneLevel z.entry .trolleyMinus (before old.heldTrolleyMinus)
              heldHoistDown := zoneLevel z.entry .hoistDown (before old.heldHoistDown)
              inside := acts z.entry && overBridge z.entry && overTrolley z.entry })

/-- R31, R54, R68, R79, R81, R83 to R85, R91, R93, R95, R97, R191, R208: what the link state and each condition allow, whatever
the others offer: nothing in CONFIG and under reset, no bridge travel in LISTEN and HALTED and in IDCLASH but for carrying,
no more than CREEP of the bridge outside ACTIVE, and the level of every other condition that holds. R86, R89, R91, R95 to
R97, R151, R176, R190, R191: when the conditions of place hold. -/
def Obligations.ConditionsLimitMotion : Prop :=
  (∀ s : State, OutputsFollow s →
     (s.clock.resetHeld = true ∨ s.link.state = .config → s.perm.outputs = Levels.all .stop) ∧
     ∀ d, d.isBridge = true →
       (s.link.state = .listen ∨ s.link.state = .halted → s.perm.outputs.get d = .stop) ∧
       (s.link.state = .idclash → carryingCoil s = false → s.perm.outputs.get d = .stop) ∧
       (s.link.state ≠ .active → (s.perm.outputs.get d).rank ≤ Level.creep.rank)) ∧
  (∀ (s : State) (d : Dir), OutputsFollow s →
     let atMost (l : Level) : Prop := (s.perm.outputs.get d).rank ≤ l.rank
     (s.table.untracked = true → d.isBridge = true → atMost .creep) ∧
     ((axisOf s d).state ≠ .valid → atMost .creep) ∧
     ((axisOf s d).state = .valid → atMost (s.perm.limits.get d)) ∧
     (s.weigh.overload.set = true → (d.isTravel = true → atMost .slow) ∧ (d = .hoistUp → atMost .stop)) ∧
     (s.weigh.slack.set = true → d = .hoistDown → atMost .stop) ∧
     (s.weigh.a.fault = true ∨ s.weigh.b.fault = true → d.isTravel = false → atMost .creep) ∧
     (storeStops s = true ∨ taskHolds s = true ∨ truckStops s = true → d = .hoistDown → atMost .stop) ∧
     (∀ z ∈ s.perm.zones, zoneInside s z.entry = true →
       (d.isTravel = true → atMost .creep) ∧ (d = .hoistDown → atMost .stop)) ∧
     (∀ z ∈ s.perm.zones, zoneActive s z.entry = true → z.entry.kind = .slowArea → overlaps s z.entry = true →
       d.isTravel = true → atMost .slow) ∧
     (∀ z ∈ s.perm.zones, zoneInside s z.entry = false → z.entry.kind ≠ .slowArea → atMost (z.held d)) ∧
     (∀ e ∈ s.table.entries, (d = .bridgePlus ∧ onPlusSide s e = true ∨ d = .bridgeMinus ∧ onPlusSide s e = false) →
       atMost (if d = .bridgePlus then e.heldPlus else e.heldMinus) ∧
       (e.state = .stale → atMost .slow) ∧ (e.state = .lost → atMost .creep) ∧
       (e.report.posState ≠ .valid → atMost .creep))) ∧
  (∀ s : State,
     let B := s.pos.bridge.current
     let T := s.pos.trolley.current
     let loaded : Prop := s.weigh.load = .loaded
     let R : Int := if s.weigh.load = .loaded then s.cfg.radiusLoaded else s.cfg.radiusUnloaded
     let H : Int := if s.pos.hoist.state = .valid then s.pos.hoist.current else 0
     let near (window : Nat) (x y : Int) : Prop := x - y ≤ window ∧ y - x ≤ window
     (∀ row column, hookOver s (.slot row column) = true ↔ ∃ g ∈ s.cfg.geometry,
       row < g.rows ∧ column < 2 * g.lower - 1 ∧
       near s.cfg.slotWindow B (g.rowBase + row * g.rowPitch) ∧
       near s.cfg.slotWindow T (g.posBase + (column * g.posPitch) / 2)) ∧
     (∀ bay index, hookOver s (.cradle bay index) = true ↔ ∃ b ∈ bayItem s.cfg bay, ∃ r ∈ bayRecord s bay,
       ∃ k ∈ r.cradles[index]?, near s.cfg.cradleWindow T b.line ∧
         near s.cfg.cradleWindow B (if r.orientation = .plus then b.kingpin + k.offset else b.kingpin - k.offset)) ∧
     (storeStops s = true ↔ loaded ∧ ∃ row column, ∃ r ∈ slotAt s row column, hookOver s (.slot row column) = true ∧
       ((match r.content with
          | .occupied _ | .reservedOut _ _ | .disputed | .closed => True
          | .reservedIn v => v.holder ≠ .own
          | .unknown | .empty => False) ∨
        (column % 2 = 1 ∧ ¬ (isOccupied (contentAt s row (column - 1)) = true ∧
          isOccupied (contentAt s row (column + 1)) = true))) ∧
       ∀ k ∈ s.tracker.task,
         (k.source = .slot row column → k.state ∈ [.done, .cancelled, .claimLost, .aborted]) ∧
         (k.target = some (.slot row column) →
           k.state ∉ [.claiming, .toSource, .liftPending, .verifyHold, .toTarget, .placePending])) ∧
     (taskHolds s = true ↔ loaded ∧ ∃ k ∈ s.tracker.task, hookOver s k.source = false ∧
       (k.state ∈ [.verifyHold, .targetLost, .retargeting, .returning] ∨
         (k.state ∈ [.liftPending, .toTarget, .placePending] ∧ s.link.state ≠ .active))) ∧
     (truckStops s = true ↔ loaded ∧ ∃ bay index, ∃ r ∈ bayRecord s bay, ∃ k ∈ r.cradles[index]?,
       hookOver s (.cradle bay index) = true ∧
       plannedFits r k (s.weigh.stableNet.getD (s.weigh.lastStable.getD 0)) = false) ∧
     ∀ z : ZoneEntry,
       (zoneActive s z = true ↔ z.valid = true ∧ match z.cond with
         | .always => True
         | .switch n => s.perm.switches.getLsbD n = true
         | .truck bay => (bayRecord s bay).isSome = true) ∧
       (overlaps s z = true ↔ B - R ≤ z.bridgeMax ∧ z.bridgeMin ≤ B + R ∧ T - R ≤ z.trolleyMax ∧ z.trolleyMin ≤ T + R) ∧
       (zoneInside s z = true ↔ zoneActive s z = true ∧ overlaps s z = true ∧ match z.kind with
         | .keepOut => True
         | .loadedKeepOut => loaded
         | .clearance => loaded ∧ H < z.clearance
         | .slowArea => False))

/-- R37, R38, R42 and section 3.1: a STATUS or farewell sent by a station is read from its bits on the line by every receiver as
it was sent, with the inserted bits (after the last CRC bit: assumption 18), the CRC and every field. -/
def Obligations.StatusFrameReadAsSent : Prop :=
  ∀ (sender : Nat) (r : StatusReport) (farewell : Bool), senderOk sender = true → statusWf r = true →
    lineCommand (statusLine sender r farewell) =
      some (if farewell then .farewellReceived sender r else .statusReceived sender r)
end

