-- ==== Sys2Proof/Laws/State.lean ====
section
/-! SUPPORT. One lemma per field per named update of the state, all true by rfl. -/

namespace Sys2Proof.Machine

variable (s : State)

section
variable (x : Clock)
@[simp] theorem State.withClock_clock : (s.withClock x).clock = x := rfl
@[simp] theorem State.withClock_cfg : (s.withClock x).cfg = s.cfg := rfl
@[simp] theorem State.withClock_pos : (s.withClock x).pos = s.pos := rfl
@[simp] theorem State.withClock_weigh : (s.withClock x).weigh = s.weigh := rfl
@[simp] theorem State.withClock_link : (s.withClock x).link = s.link := rfl
@[simp] theorem State.withClock_table : (s.withClock x).table = s.table := rfl
@[simp] theorem State.withClock_perm : (s.withClock x).perm = s.perm := rfl
@[simp] theorem State.withClock_map : (s.withClock x).map = s.map := rfl
@[simp] theorem State.withClock_claims : (s.withClock x).claims = s.claims := rfl
@[simp] theorem State.withClock_tracker : (s.withClock x).tracker = s.tracker := rfl
@[simp] theorem State.withClock_trucks : (s.withClock x).trucks = s.trucks := rfl
@[simp] theorem State.withClock_port : (s.withClock x).port = s.port := rfl
@[simp] theorem State.withClock_notices : (s.withClock x).notices = s.notices := rfl
@[simp] theorem State.withClock_pending : (s.withClock x).pending = s.pending := rfl
end

section
variable (x : Cfg)
@[simp] theorem State.withCfg_clock : (s.withCfg x).clock = s.clock := rfl
@[simp] theorem State.withCfg_cfg : (s.withCfg x).cfg = x := rfl
@[simp] theorem State.withCfg_pos : (s.withCfg x).pos = s.pos := rfl
@[simp] theorem State.withCfg_weigh : (s.withCfg x).weigh = s.weigh := rfl
@[simp] theorem State.withCfg_link : (s.withCfg x).link = s.link := rfl
@[simp] theorem State.withCfg_table : (s.withCfg x).table = s.table := rfl
@[simp] theorem State.withCfg_perm : (s.withCfg x).perm = s.perm := rfl
@[simp] theorem State.withCfg_map : (s.withCfg x).map = s.map := rfl
@[simp] theorem State.withCfg_claims : (s.withCfg x).claims = s.claims := rfl
@[simp] theorem State.withCfg_tracker : (s.withCfg x).tracker = s.tracker := rfl
@[simp] theorem State.withCfg_trucks : (s.withCfg x).trucks = s.trucks := rfl
@[simp] theorem State.withCfg_port : (s.withCfg x).port = s.port := rfl
@[simp] theorem State.withCfg_notices : (s.withCfg x).notices = s.notices := rfl
@[simp] theorem State.withCfg_pending : (s.withCfg x).pending = s.pending := rfl
end

section
variable (x : PositionUnit)
@[simp] theorem State.withPos_clock : (s.withPos x).clock = s.clock := rfl
@[simp] theorem State.withPos_cfg : (s.withPos x).cfg = s.cfg := rfl
@[simp] theorem State.withPos_pos : (s.withPos x).pos = x := rfl
@[simp] theorem State.withPos_weigh : (s.withPos x).weigh = s.weigh := rfl
@[simp] theorem State.withPos_link : (s.withPos x).link = s.link := rfl
@[simp] theorem State.withPos_table : (s.withPos x).table = s.table := rfl
@[simp] theorem State.withPos_perm : (s.withPos x).perm = s.perm := rfl
@[simp] theorem State.withPos_map : (s.withPos x).map = s.map := rfl
@[simp] theorem State.withPos_claims : (s.withPos x).claims = s.claims := rfl
@[simp] theorem State.withPos_tracker : (s.withPos x).tracker = s.tracker := rfl
@[simp] theorem State.withPos_trucks : (s.withPos x).trucks = s.trucks := rfl
@[simp] theorem State.withPos_port : (s.withPos x).port = s.port := rfl
@[simp] theorem State.withPos_notices : (s.withPos x).notices = s.notices := rfl
@[simp] theorem State.withPos_pending : (s.withPos x).pending = s.pending := rfl
end

section
variable (x : WeighingUnit)
@[simp] theorem State.withWeigh_clock : (s.withWeigh x).clock = s.clock := rfl
@[simp] theorem State.withWeigh_cfg : (s.withWeigh x).cfg = s.cfg := rfl
@[simp] theorem State.withWeigh_pos : (s.withWeigh x).pos = s.pos := rfl
@[simp] theorem State.withWeigh_weigh : (s.withWeigh x).weigh = x := rfl
@[simp] theorem State.withWeigh_link : (s.withWeigh x).link = s.link := rfl
@[simp] theorem State.withWeigh_table : (s.withWeigh x).table = s.table := rfl
@[simp] theorem State.withWeigh_perm : (s.withWeigh x).perm = s.perm := rfl
@[simp] theorem State.withWeigh_map : (s.withWeigh x).map = s.map := rfl
@[simp] theorem State.withWeigh_claims : (s.withWeigh x).claims = s.claims := rfl
@[simp] theorem State.withWeigh_tracker : (s.withWeigh x).tracker = s.tracker := rfl
@[simp] theorem State.withWeigh_trucks : (s.withWeigh x).trucks = s.trucks := rfl
@[simp] theorem State.withWeigh_port : (s.withWeigh x).port = s.port := rfl
@[simp] theorem State.withWeigh_notices : (s.withWeigh x).notices = s.notices := rfl
@[simp] theorem State.withWeigh_pending : (s.withWeigh x).pending = s.pending := rfl
end

section
variable (x : Link)
@[simp] theorem State.withLink_clock : (s.withLink x).clock = s.clock := rfl
@[simp] theorem State.withLink_cfg : (s.withLink x).cfg = s.cfg := rfl
@[simp] theorem State.withLink_pos : (s.withLink x).pos = s.pos := rfl
@[simp] theorem State.withLink_weigh : (s.withLink x).weigh = s.weigh := rfl
@[simp] theorem State.withLink_link : (s.withLink x).link = x := rfl
@[simp] theorem State.withLink_table : (s.withLink x).table = s.table := rfl
@[simp] theorem State.withLink_perm : (s.withLink x).perm = s.perm := rfl
@[simp] theorem State.withLink_map : (s.withLink x).map = s.map := rfl
@[simp] theorem State.withLink_claims : (s.withLink x).claims = s.claims := rfl
@[simp] theorem State.withLink_tracker : (s.withLink x).tracker = s.tracker := rfl
@[simp] theorem State.withLink_trucks : (s.withLink x).trucks = s.trucks := rfl
@[simp] theorem State.withLink_port : (s.withLink x).port = s.port := rfl
@[simp] theorem State.withLink_notices : (s.withLink x).notices = s.notices := rfl
@[simp] theorem State.withLink_pending : (s.withLink x).pending = s.pending := rfl
end

section
variable (x : NeighbourTable)
@[simp] theorem State.withTable_clock : (s.withTable x).clock = s.clock := rfl
@[simp] theorem State.withTable_cfg : (s.withTable x).cfg = s.cfg := rfl
@[simp] theorem State.withTable_pos : (s.withTable x).pos = s.pos := rfl
@[simp] theorem State.withTable_weigh : (s.withTable x).weigh = s.weigh := rfl
@[simp] theorem State.withTable_link : (s.withTable x).link = s.link := rfl
@[simp] theorem State.withTable_table : (s.withTable x).table = x := rfl
@[simp] theorem State.withTable_perm : (s.withTable x).perm = s.perm := rfl
@[simp] theorem State.withTable_map : (s.withTable x).map = s.map := rfl
@[simp] theorem State.withTable_claims : (s.withTable x).claims = s.claims := rfl
@[simp] theorem State.withTable_tracker : (s.withTable x).tracker = s.tracker := rfl
@[simp] theorem State.withTable_trucks : (s.withTable x).trucks = s.trucks := rfl
@[simp] theorem State.withTable_port : (s.withTable x).port = s.port := rfl
@[simp] theorem State.withTable_notices : (s.withTable x).notices = s.notices := rfl
@[simp] theorem State.withTable_pending : (s.withTable x).pending = s.pending := rfl
end

section
variable (x : PermissionUnit)
@[simp] theorem State.withPerm_clock : (s.withPerm x).clock = s.clock := rfl
@[simp] theorem State.withPerm_cfg : (s.withPerm x).cfg = s.cfg := rfl
@[simp] theorem State.withPerm_pos : (s.withPerm x).pos = s.pos := rfl
@[simp] theorem State.withPerm_weigh : (s.withPerm x).weigh = s.weigh := rfl
@[simp] theorem State.withPerm_link : (s.withPerm x).link = s.link := rfl
@[simp] theorem State.withPerm_table : (s.withPerm x).table = s.table := rfl
@[simp] theorem State.withPerm_perm : (s.withPerm x).perm = x := rfl
@[simp] theorem State.withPerm_map : (s.withPerm x).map = s.map := rfl
@[simp] theorem State.withPerm_claims : (s.withPerm x).claims = s.claims := rfl
@[simp] theorem State.withPerm_tracker : (s.withPerm x).tracker = s.tracker := rfl
@[simp] theorem State.withPerm_trucks : (s.withPerm x).trucks = s.trucks := rfl
@[simp] theorem State.withPerm_port : (s.withPerm x).port = s.port := rfl
@[simp] theorem State.withPerm_notices : (s.withPerm x).notices = s.notices := rfl
@[simp] theorem State.withPerm_pending : (s.withPerm x).pending = s.pending := rfl
end

section
variable (x : List SlotRecord)
@[simp] theorem State.withMap_clock : (s.withMap x).clock = s.clock := rfl
@[simp] theorem State.withMap_cfg : (s.withMap x).cfg = s.cfg := rfl
@[simp] theorem State.withMap_pos : (s.withMap x).pos = s.pos := rfl
@[simp] theorem State.withMap_weigh : (s.withMap x).weigh = s.weigh := rfl
@[simp] theorem State.withMap_link : (s.withMap x).link = s.link := rfl
@[simp] theorem State.withMap_table : (s.withMap x).table = s.table := rfl
@[simp] theorem State.withMap_perm : (s.withMap x).perm = s.perm := rfl
@[simp] theorem State.withMap_map : (s.withMap x).map = x := rfl
@[simp] theorem State.withMap_claims : (s.withMap x).claims = s.claims := rfl
@[simp] theorem State.withMap_tracker : (s.withMap x).tracker = s.tracker := rfl
@[simp] theorem State.withMap_trucks : (s.withMap x).trucks = s.trucks := rfl
@[simp] theorem State.withMap_port : (s.withMap x).port = s.port := rfl
@[simp] theorem State.withMap_notices : (s.withMap x).notices = s.notices := rfl
@[simp] theorem State.withMap_pending : (s.withMap x).pending = s.pending := rfl
end

section
variable (x : ClaimEngine)
@[simp] theorem State.withClaims_clock : (s.withClaims x).clock = s.clock := rfl
@[simp] theorem State.withClaims_cfg : (s.withClaims x).cfg = s.cfg := rfl
@[simp] theorem State.withClaims_pos : (s.withClaims x).pos = s.pos := rfl
@[simp] theorem State.withClaims_weigh : (s.withClaims x).weigh = s.weigh := rfl
@[simp] theorem State.withClaims_link : (s.withClaims x).link = s.link := rfl
@[simp] theorem State.withClaims_table : (s.withClaims x).table = s.table := rfl
@[simp] theorem State.withClaims_perm : (s.withClaims x).perm = s.perm := rfl
@[simp] theorem State.withClaims_map : (s.withClaims x).map = s.map := rfl
@[simp] theorem State.withClaims_claims : (s.withClaims x).claims = x := rfl
@[simp] theorem State.withClaims_tracker : (s.withClaims x).tracker = s.tracker := rfl
@[simp] theorem State.withClaims_trucks : (s.withClaims x).trucks = s.trucks := rfl
@[simp] theorem State.withClaims_port : (s.withClaims x).port = s.port := rfl
@[simp] theorem State.withClaims_notices : (s.withClaims x).notices = s.notices := rfl
@[simp] theorem State.withClaims_pending : (s.withClaims x).pending = s.pending := rfl
end

section
variable (x : Tracker)
@[simp] theorem State.withTracker_clock : (s.withTracker x).clock = s.clock := rfl
@[simp] theorem State.withTracker_cfg : (s.withTracker x).cfg = s.cfg := rfl
@[simp] theorem State.withTracker_pos : (s.withTracker x).pos = s.pos := rfl
@[simp] theorem State.withTracker_weigh : (s.withTracker x).weigh = s.weigh := rfl
@[simp] theorem State.withTracker_link : (s.withTracker x).link = s.link := rfl
@[simp] theorem State.withTracker_table : (s.withTracker x).table = s.table := rfl
@[simp] theorem State.withTracker_perm : (s.withTracker x).perm = s.perm := rfl
@[simp] theorem State.withTracker_map : (s.withTracker x).map = s.map := rfl
@[simp] theorem State.withTracker_claims : (s.withTracker x).claims = s.claims := rfl
@[simp] theorem State.withTracker_tracker : (s.withTracker x).tracker = x := rfl
@[simp] theorem State.withTracker_trucks : (s.withTracker x).trucks = s.trucks := rfl
@[simp] theorem State.withTracker_port : (s.withTracker x).port = s.port := rfl
@[simp] theorem State.withTracker_notices : (s.withTracker x).notices = s.notices := rfl
@[simp] theorem State.withTracker_pending : (s.withTracker x).pending = s.pending := rfl
end

section
variable (x : TruckUnit)
@[simp] theorem State.withTrucks_clock : (s.withTrucks x).clock = s.clock := rfl
@[simp] theorem State.withTrucks_cfg : (s.withTrucks x).cfg = s.cfg := rfl
@[simp] theorem State.withTrucks_pos : (s.withTrucks x).pos = s.pos := rfl
@[simp] theorem State.withTrucks_weigh : (s.withTrucks x).weigh = s.weigh := rfl
@[simp] theorem State.withTrucks_link : (s.withTrucks x).link = s.link := rfl
@[simp] theorem State.withTrucks_table : (s.withTrucks x).table = s.table := rfl
@[simp] theorem State.withTrucks_perm : (s.withTrucks x).perm = s.perm := rfl
@[simp] theorem State.withTrucks_map : (s.withTrucks x).map = s.map := rfl
@[simp] theorem State.withTrucks_claims : (s.withTrucks x).claims = s.claims := rfl
@[simp] theorem State.withTrucks_tracker : (s.withTrucks x).tracker = s.tracker := rfl
@[simp] theorem State.withTrucks_trucks : (s.withTrucks x).trucks = x := rfl
@[simp] theorem State.withTrucks_port : (s.withTrucks x).port = s.port := rfl
@[simp] theorem State.withTrucks_notices : (s.withTrucks x).notices = s.notices := rfl
@[simp] theorem State.withTrucks_pending : (s.withTrucks x).pending = s.pending := rfl
end

section
variable (x : Port)
@[simp] theorem State.withPort_clock : (s.withPort x).clock = s.clock := rfl
@[simp] theorem State.withPort_cfg : (s.withPort x).cfg = s.cfg := rfl
@[simp] theorem State.withPort_pos : (s.withPort x).pos = s.pos := rfl
@[simp] theorem State.withPort_weigh : (s.withPort x).weigh = s.weigh := rfl
@[simp] theorem State.withPort_link : (s.withPort x).link = s.link := rfl
@[simp] theorem State.withPort_table : (s.withPort x).table = s.table := rfl
@[simp] theorem State.withPort_perm : (s.withPort x).perm = s.perm := rfl
@[simp] theorem State.withPort_map : (s.withPort x).map = s.map := rfl
@[simp] theorem State.withPort_claims : (s.withPort x).claims = s.claims := rfl
@[simp] theorem State.withPort_tracker : (s.withPort x).tracker = s.tracker := rfl
@[simp] theorem State.withPort_trucks : (s.withPort x).trucks = s.trucks := rfl
@[simp] theorem State.withPort_port : (s.withPort x).port = x := rfl
@[simp] theorem State.withPort_notices : (s.withPort x).notices = s.notices := rfl
@[simp] theorem State.withPort_pending : (s.withPort x).pending = s.pending := rfl
end

section
variable (x : NoticeUnit)
@[simp] theorem State.withNotices_clock : (s.withNotices x).clock = s.clock := rfl
@[simp] theorem State.withNotices_cfg : (s.withNotices x).cfg = s.cfg := rfl
@[simp] theorem State.withNotices_pos : (s.withNotices x).pos = s.pos := rfl
@[simp] theorem State.withNotices_weigh : (s.withNotices x).weigh = s.weigh := rfl
@[simp] theorem State.withNotices_link : (s.withNotices x).link = s.link := rfl
@[simp] theorem State.withNotices_table : (s.withNotices x).table = s.table := rfl
@[simp] theorem State.withNotices_perm : (s.withNotices x).perm = s.perm := rfl
@[simp] theorem State.withNotices_map : (s.withNotices x).map = s.map := rfl
@[simp] theorem State.withNotices_claims : (s.withNotices x).claims = s.claims := rfl
@[simp] theorem State.withNotices_tracker : (s.withNotices x).tracker = s.tracker := rfl
@[simp] theorem State.withNotices_trucks : (s.withNotices x).trucks = s.trucks := rfl
@[simp] theorem State.withNotices_port : (s.withNotices x).port = s.port := rfl
@[simp] theorem State.withNotices_notices : (s.withNotices x).notices = x := rfl
@[simp] theorem State.withNotices_pending : (s.withNotices x).pending = s.pending := rfl
end

section
variable (x : List Instr)
@[simp] theorem State.withPending_clock : (s.withPending x).clock = s.clock := rfl
@[simp] theorem State.withPending_cfg : (s.withPending x).cfg = s.cfg := rfl
@[simp] theorem State.withPending_pos : (s.withPending x).pos = s.pos := rfl
@[simp] theorem State.withPending_weigh : (s.withPending x).weigh = s.weigh := rfl
@[simp] theorem State.withPending_link : (s.withPending x).link = s.link := rfl
@[simp] theorem State.withPending_table : (s.withPending x).table = s.table := rfl
@[simp] theorem State.withPending_perm : (s.withPending x).perm = s.perm := rfl
@[simp] theorem State.withPending_map : (s.withPending x).map = s.map := rfl
@[simp] theorem State.withPending_claims : (s.withPending x).claims = s.claims := rfl
@[simp] theorem State.withPending_tracker : (s.withPending x).tracker = s.tracker := rfl
@[simp] theorem State.withPending_trucks : (s.withPending x).trucks = s.trucks := rfl
@[simp] theorem State.withPending_port : (s.withPending x).port = s.port := rfl
@[simp] theorem State.withPending_notices : (s.withPending x).notices = s.notices := rfl
@[simp] theorem State.withPending_pending : (s.withPending x).pending = x := rfl
end

end Sys2Proof.Machine
end

