-- ==== Sys2Proof/Laws/Ops.lean ====
section
/-! SUPPORT. What each shared operation leaves unchanged, one lemma per block of the state, and what the end of a step
(`settle`) does. -/

namespace Sys2Proof.Machine

/-! ### Notices -/

@[simp] theorem raise_clock (n : Notice) (s : State) : (raise n s).clock = s.clock := rfl
@[simp] theorem raise_cfg (n : Notice) (s : State) : (raise n s).cfg = s.cfg := rfl
@[simp] theorem raise_pos (n : Notice) (s : State) : (raise n s).pos = s.pos := rfl
@[simp] theorem raise_weigh (n : Notice) (s : State) : (raise n s).weigh = s.weigh := rfl
@[simp] theorem raise_link (n : Notice) (s : State) : (raise n s).link = s.link := rfl
@[simp] theorem raise_table (n : Notice) (s : State) : (raise n s).table = s.table := rfl
@[simp] theorem raise_perm (n : Notice) (s : State) : (raise n s).perm = s.perm := rfl
@[simp] theorem raise_map (n : Notice) (s : State) : (raise n s).map = s.map := rfl
@[simp] theorem raise_claims (n : Notice) (s : State) : (raise n s).claims = s.claims := rfl
@[simp] theorem raise_tracker (n : Notice) (s : State) : (raise n s).tracker = s.tracker := rfl
@[simp] theorem raise_trucks (n : Notice) (s : State) : (raise n s).trucks = s.trucks := rfl
@[simp] theorem raise_port (n : Notice) (s : State) : (raise n s).port = s.port := rfl
@[simp] theorem raise_pending (n : Notice) (s : State) : (raise n s).pending = s.pending := rfl

@[simp] theorem driveAttn_clock (s : State) : (driveAttn s).clock = s.clock := rfl
@[simp] theorem driveAttn_cfg (s : State) : (driveAttn s).cfg = s.cfg := rfl
@[simp] theorem driveAttn_pos (s : State) : (driveAttn s).pos = s.pos := rfl
@[simp] theorem driveAttn_weigh (s : State) : (driveAttn s).weigh = s.weigh := rfl
@[simp] theorem driveAttn_link (s : State) : (driveAttn s).link = s.link := rfl
@[simp] theorem driveAttn_table (s : State) : (driveAttn s).table = s.table := rfl
@[simp] theorem driveAttn_perm (s : State) : (driveAttn s).perm = s.perm := rfl
@[simp] theorem driveAttn_map (s : State) : (driveAttn s).map = s.map := rfl
@[simp] theorem driveAttn_claims (s : State) : (driveAttn s).claims = s.claims := rfl
@[simp] theorem driveAttn_tracker (s : State) : (driveAttn s).tracker = s.tracker := rfl
@[simp] theorem driveAttn_trucks (s : State) : (driveAttn s).trucks = s.trucks := rfl
@[simp] theorem driveAttn_port (s : State) : (driveAttn s).port = s.port := rfl
@[simp] theorem driveAttn_pending (s : State) : (driveAttn s).pending = s.pending := rfl

/-! ### Records -/

@[simp] theorem setSlot_clock (row column : Nat) (r : SlotRecord) (s : State) : (setSlot row column r s).clock = s.clock := by unfold setSlot; (repeat' split) <;> rfl
@[simp] theorem setSlot_cfg (row column : Nat) (r : SlotRecord) (s : State) : (setSlot row column r s).cfg = s.cfg := by unfold setSlot; (repeat' split) <;> rfl
@[simp] theorem setSlot_pos (row column : Nat) (r : SlotRecord) (s : State) : (setSlot row column r s).pos = s.pos := by unfold setSlot; (repeat' split) <;> rfl
@[simp] theorem setSlot_weigh (row column : Nat) (r : SlotRecord) (s : State) : (setSlot row column r s).weigh = s.weigh := by unfold setSlot; (repeat' split) <;> rfl
@[simp] theorem setSlot_link (row column : Nat) (r : SlotRecord) (s : State) : (setSlot row column r s).link = s.link := by unfold setSlot; (repeat' split) <;> rfl
@[simp] theorem setSlot_table (row column : Nat) (r : SlotRecord) (s : State) : (setSlot row column r s).table = s.table := by unfold setSlot; (repeat' split) <;> rfl
@[simp] theorem setSlot_perm (row column : Nat) (r : SlotRecord) (s : State) : (setSlot row column r s).perm = s.perm := by unfold setSlot; (repeat' split) <;> rfl
@[simp] theorem setSlot_claims (row column : Nat) (r : SlotRecord) (s : State) : (setSlot row column r s).claims = s.claims := by unfold setSlot; (repeat' split) <;> rfl
@[simp] theorem setSlot_tracker (row column : Nat) (r : SlotRecord) (s : State) : (setSlot row column r s).tracker = s.tracker := by unfold setSlot; (repeat' split) <;> rfl
@[simp] theorem setSlot_trucks (row column : Nat) (r : SlotRecord) (s : State) : (setSlot row column r s).trucks = s.trucks := by unfold setSlot; (repeat' split) <;> rfl
@[simp] theorem setSlot_port (row column : Nat) (r : SlotRecord) (s : State) : (setSlot row column r s).port = s.port := by unfold setSlot; (repeat' split) <;> rfl
@[simp] theorem setSlot_notices (row column : Nat) (r : SlotRecord) (s : State) : (setSlot row column r s).notices = s.notices := by unfold setSlot; (repeat' split) <;> rfl
@[simp] theorem setSlot_pending (row column : Nat) (r : SlotRecord) (s : State) : (setSlot row column r s).pending = s.pending := by unfold setSlot; (repeat' split) <;> rfl

@[simp] theorem setBay_clock (bay : Nat) (t : Option Truck) (s : State) : (setBay bay t s).clock = s.clock := by unfold setBay; (repeat' split) <;> rfl
@[simp] theorem setBay_cfg (bay : Nat) (t : Option Truck) (s : State) : (setBay bay t s).cfg = s.cfg := by unfold setBay; (repeat' split) <;> rfl
@[simp] theorem setBay_pos (bay : Nat) (t : Option Truck) (s : State) : (setBay bay t s).pos = s.pos := by unfold setBay; (repeat' split) <;> rfl
@[simp] theorem setBay_weigh (bay : Nat) (t : Option Truck) (s : State) : (setBay bay t s).weigh = s.weigh := by unfold setBay; (repeat' split) <;> rfl
@[simp] theorem setBay_link (bay : Nat) (t : Option Truck) (s : State) : (setBay bay t s).link = s.link := by unfold setBay; (repeat' split) <;> rfl
@[simp] theorem setBay_table (bay : Nat) (t : Option Truck) (s : State) : (setBay bay t s).table = s.table := by unfold setBay; (repeat' split) <;> rfl
@[simp] theorem setBay_perm (bay : Nat) (t : Option Truck) (s : State) : (setBay bay t s).perm = s.perm := by unfold setBay; (repeat' split) <;> rfl
@[simp] theorem setBay_map (bay : Nat) (t : Option Truck) (s : State) : (setBay bay t s).map = s.map := by unfold setBay; (repeat' split) <;> rfl
@[simp] theorem setBay_claims (bay : Nat) (t : Option Truck) (s : State) : (setBay bay t s).claims = s.claims := by unfold setBay; (repeat' split) <;> rfl
@[simp] theorem setBay_tracker (bay : Nat) (t : Option Truck) (s : State) : (setBay bay t s).tracker = s.tracker := by unfold setBay; (repeat' split) <;> rfl
@[simp] theorem setBay_port (bay : Nat) (t : Option Truck) (s : State) : (setBay bay t s).port = s.port := by unfold setBay; (repeat' split) <;> rfl
@[simp] theorem setBay_notices (bay : Nat) (t : Option Truck) (s : State) : (setBay bay t s).notices = s.notices := by unfold setBay; (repeat' split) <;> rfl
@[simp] theorem setBay_pending (bay : Nat) (t : Option Truck) (s : State) : (setBay bay t s).pending = s.pending := by unfold setBay; (repeat' split) <;> rfl

@[simp] theorem setCradle_clock (bay index : Nat) (c : CradleContent) (s : State) : (setCradle bay index c s).clock = s.clock := by unfold setCradle; split <;> simp
@[simp] theorem setCradle_cfg (bay index : Nat) (c : CradleContent) (s : State) : (setCradle bay index c s).cfg = s.cfg := by unfold setCradle; split <;> simp
@[simp] theorem setCradle_pos (bay index : Nat) (c : CradleContent) (s : State) : (setCradle bay index c s).pos = s.pos := by unfold setCradle; split <;> simp
@[simp] theorem setCradle_weigh (bay index : Nat) (c : CradleContent) (s : State) : (setCradle bay index c s).weigh = s.weigh := by unfold setCradle; split <;> simp
@[simp] theorem setCradle_link (bay index : Nat) (c : CradleContent) (s : State) : (setCradle bay index c s).link = s.link := by unfold setCradle; split <;> simp
@[simp] theorem setCradle_table (bay index : Nat) (c : CradleContent) (s : State) : (setCradle bay index c s).table = s.table := by unfold setCradle; split <;> simp
@[simp] theorem setCradle_perm (bay index : Nat) (c : CradleContent) (s : State) : (setCradle bay index c s).perm = s.perm := by unfold setCradle; split <;> simp
@[simp] theorem setCradle_map (bay index : Nat) (c : CradleContent) (s : State) : (setCradle bay index c s).map = s.map := by unfold setCradle; split <;> simp
@[simp] theorem setCradle_claims (bay index : Nat) (c : CradleContent) (s : State) : (setCradle bay index c s).claims = s.claims := by unfold setCradle; split <;> simp
@[simp] theorem setCradle_tracker (bay index : Nat) (c : CradleContent) (s : State) : (setCradle bay index c s).tracker = s.tracker := by unfold setCradle; split <;> simp
@[simp] theorem setCradle_port (bay index : Nat) (c : CradleContent) (s : State) : (setCradle bay index c s).port = s.port := by unfold setCradle; split <;> simp
@[simp] theorem setCradle_notices (bay index : Nat) (c : CradleContent) (s : State) : (setCradle bay index c s).notices = s.notices := by unfold setCradle; split <;> simp
@[simp] theorem setCradle_pending (bay index : Nat) (c : CradleContent) (s : State) : (setCradle bay index c s).pending = s.pending := by unfold setCradle; split <;> simp

@[simp] theorem releaseWhere_clock (p : Reservation → Bool) (c : ChangeSource) (s : State) : (releaseWhere p c s).clock = s.clock := rfl
@[simp] theorem releaseWhere_cfg (p : Reservation → Bool) (c : ChangeSource) (s : State) : (releaseWhere p c s).cfg = s.cfg := rfl
@[simp] theorem releaseWhere_pos (p : Reservation → Bool) (c : ChangeSource) (s : State) : (releaseWhere p c s).pos = s.pos := rfl
@[simp] theorem releaseWhere_weigh (p : Reservation → Bool) (c : ChangeSource) (s : State) : (releaseWhere p c s).weigh = s.weigh := rfl
@[simp] theorem releaseWhere_link (p : Reservation → Bool) (c : ChangeSource) (s : State) : (releaseWhere p c s).link = s.link := rfl
@[simp] theorem releaseWhere_table (p : Reservation → Bool) (c : ChangeSource) (s : State) : (releaseWhere p c s).table = s.table := rfl
@[simp] theorem releaseWhere_perm (p : Reservation → Bool) (c : ChangeSource) (s : State) : (releaseWhere p c s).perm = s.perm := rfl
@[simp] theorem releaseWhere_claims (p : Reservation → Bool) (c : ChangeSource) (s : State) : (releaseWhere p c s).claims = s.claims := rfl
@[simp] theorem releaseWhere_tracker (p : Reservation → Bool) (c : ChangeSource) (s : State) : (releaseWhere p c s).tracker = s.tracker := rfl
@[simp] theorem releaseWhere_port (p : Reservation → Bool) (c : ChangeSource) (s : State) : (releaseWhere p c s).port = s.port := rfl
@[simp] theorem releaseWhere_notices (p : Reservation → Bool) (c : ChangeSource) (s : State) : (releaseWhere p c s).notices = s.notices := rfl
@[simp] theorem releaseWhere_pending (p : Reservation → Bool) (c : ChangeSource) (s : State) : (releaseWhere p c s).pending = s.pending := rfl

@[simp] theorem releasePeer_clock (id : Nat) (s : State) : (releasePeer id s).clock = s.clock := rfl
@[simp] theorem releasePeer_cfg (id : Nat) (s : State) : (releasePeer id s).cfg = s.cfg := rfl
@[simp] theorem releasePeer_pos (id : Nat) (s : State) : (releasePeer id s).pos = s.pos := rfl
@[simp] theorem releasePeer_weigh (id : Nat) (s : State) : (releasePeer id s).weigh = s.weigh := rfl
@[simp] theorem releasePeer_link (id : Nat) (s : State) : (releasePeer id s).link = s.link := rfl
@[simp] theorem releasePeer_table (id : Nat) (s : State) : (releasePeer id s).table = s.table := rfl
@[simp] theorem releasePeer_perm (id : Nat) (s : State) : (releasePeer id s).perm = s.perm := rfl
@[simp] theorem releasePeer_claims (id : Nat) (s : State) : (releasePeer id s).claims = s.claims := rfl
@[simp] theorem releasePeer_tracker (id : Nat) (s : State) : (releasePeer id s).tracker = s.tracker := rfl
@[simp] theorem releasePeer_port (id : Nat) (s : State) : (releasePeer id s).port = s.port := rfl
@[simp] theorem releasePeer_notices (id : Nat) (s : State) : (releasePeer id s).notices = s.notices := rfl
@[simp] theorem releasePeer_pending (id : Nat) (s : State) : (releasePeer id s).pending = s.pending := rfl

@[simp] theorem mapReservations_clock (f : Reservation → Reservation) (s : State) : (mapReservations f s).clock = s.clock := rfl
@[simp] theorem mapReservations_cfg (f : Reservation → Reservation) (s : State) : (mapReservations f s).cfg = s.cfg := rfl
@[simp] theorem mapReservations_pos (f : Reservation → Reservation) (s : State) : (mapReservations f s).pos = s.pos := rfl
@[simp] theorem mapReservations_weigh (f : Reservation → Reservation) (s : State) : (mapReservations f s).weigh = s.weigh := rfl
@[simp] theorem mapReservations_link (f : Reservation → Reservation) (s : State) : (mapReservations f s).link = s.link := rfl
@[simp] theorem mapReservations_table (f : Reservation → Reservation) (s : State) : (mapReservations f s).table = s.table := rfl
@[simp] theorem mapReservations_perm (f : Reservation → Reservation) (s : State) : (mapReservations f s).perm = s.perm := rfl
@[simp] theorem mapReservations_claims (f : Reservation → Reservation) (s : State) : (mapReservations f s).claims = s.claims := rfl
@[simp] theorem mapReservations_tracker (f : Reservation → Reservation) (s : State) : (mapReservations f s).tracker = s.tracker := rfl
@[simp] theorem mapReservations_port (f : Reservation → Reservation) (s : State) : (mapReservations f s).port = s.port := rfl
@[simp] theorem mapReservations_notices (f : Reservation → Reservation) (s : State) : (mapReservations f s).notices = s.notices := rfl
@[simp] theorem mapReservations_pending (f : Reservation → Reservation) (s : State) : (mapReservations f s).pending = s.pending := rfl

@[simp] theorem releaseRef_clock (p : Reservation → Bool) (c : ChangeSource) (ref : Ref) (s : State) : (releaseRef p c ref s).clock = s.clock := by unfold releaseRef; (repeat' split) <;> (first | rfl | simp)
@[simp] theorem releaseRef_cfg (p : Reservation → Bool) (c : ChangeSource) (ref : Ref) (s : State) : (releaseRef p c ref s).cfg = s.cfg := by unfold releaseRef; (repeat' split) <;> (first | rfl | simp)
@[simp] theorem releaseRef_pos (p : Reservation → Bool) (c : ChangeSource) (ref : Ref) (s : State) : (releaseRef p c ref s).pos = s.pos := by unfold releaseRef; (repeat' split) <;> (first | rfl | simp)
@[simp] theorem releaseRef_weigh (p : Reservation → Bool) (c : ChangeSource) (ref : Ref) (s : State) : (releaseRef p c ref s).weigh = s.weigh := by unfold releaseRef; (repeat' split) <;> (first | rfl | simp)
@[simp] theorem releaseRef_link (p : Reservation → Bool) (c : ChangeSource) (ref : Ref) (s : State) : (releaseRef p c ref s).link = s.link := by unfold releaseRef; (repeat' split) <;> (first | rfl | simp)
@[simp] theorem releaseRef_table (p : Reservation → Bool) (c : ChangeSource) (ref : Ref) (s : State) : (releaseRef p c ref s).table = s.table := by unfold releaseRef; (repeat' split) <;> (first | rfl | simp)
@[simp] theorem releaseRef_perm (p : Reservation → Bool) (c : ChangeSource) (ref : Ref) (s : State) : (releaseRef p c ref s).perm = s.perm := by unfold releaseRef; (repeat' split) <;> (first | rfl | simp)
@[simp] theorem releaseRef_claims (p : Reservation → Bool) (c : ChangeSource) (ref : Ref) (s : State) : (releaseRef p c ref s).claims = s.claims := by unfold releaseRef; (repeat' split) <;> (first | rfl | simp)
@[simp] theorem releaseRef_tracker (p : Reservation → Bool) (c : ChangeSource) (ref : Ref) (s : State) : (releaseRef p c ref s).tracker = s.tracker := by unfold releaseRef; (repeat' split) <;> (first | rfl | simp)
@[simp] theorem releaseRef_port (p : Reservation → Bool) (c : ChangeSource) (ref : Ref) (s : State) : (releaseRef p c ref s).port = s.port := by unfold releaseRef; (repeat' split) <;> (first | rfl | simp)
@[simp] theorem releaseRef_notices (p : Reservation → Bool) (c : ChangeSource) (ref : Ref) (s : State) : (releaseRef p c ref s).notices = s.notices := by unfold releaseRef; (repeat' split) <;> (first | rfl | simp)
@[simp] theorem releaseRef_pending (p : Reservation → Bool) (c : ChangeSource) (ref : Ref) (s : State) : (releaseRef p c ref s).pending = s.pending := by unfold releaseRef; (repeat' split) <;> (first | rfl | simp)

@[simp] theorem updateResv_clock (f : Reservation → Reservation) (ref : Ref) (s : State) : (updateResv f ref s).clock = s.clock := by unfold updateResv; (repeat' split) <;> (first | rfl | simp)
@[simp] theorem updateResv_cfg (f : Reservation → Reservation) (ref : Ref) (s : State) : (updateResv f ref s).cfg = s.cfg := by unfold updateResv; (repeat' split) <;> (first | rfl | simp)
@[simp] theorem updateResv_pos (f : Reservation → Reservation) (ref : Ref) (s : State) : (updateResv f ref s).pos = s.pos := by unfold updateResv; (repeat' split) <;> (first | rfl | simp)
@[simp] theorem updateResv_weigh (f : Reservation → Reservation) (ref : Ref) (s : State) : (updateResv f ref s).weigh = s.weigh := by unfold updateResv; (repeat' split) <;> (first | rfl | simp)
@[simp] theorem updateResv_link (f : Reservation → Reservation) (ref : Ref) (s : State) : (updateResv f ref s).link = s.link := by unfold updateResv; (repeat' split) <;> (first | rfl | simp)
@[simp] theorem updateResv_table (f : Reservation → Reservation) (ref : Ref) (s : State) : (updateResv f ref s).table = s.table := by unfold updateResv; (repeat' split) <;> (first | rfl | simp)
@[simp] theorem updateResv_perm (f : Reservation → Reservation) (ref : Ref) (s : State) : (updateResv f ref s).perm = s.perm := by unfold updateResv; (repeat' split) <;> (first | rfl | simp)
@[simp] theorem updateResv_claims (f : Reservation → Reservation) (ref : Ref) (s : State) : (updateResv f ref s).claims = s.claims := by unfold updateResv; (repeat' split) <;> (first | rfl | simp)
@[simp] theorem updateResv_tracker (f : Reservation → Reservation) (ref : Ref) (s : State) : (updateResv f ref s).tracker = s.tracker := by unfold updateResv; (repeat' split) <;> (first | rfl | simp)
@[simp] theorem updateResv_port (f : Reservation → Reservation) (ref : Ref) (s : State) : (updateResv f ref s).port = s.port := by unfold updateResv; (repeat' split) <;> (first | rfl | simp)
@[simp] theorem updateResv_notices (f : Reservation → Reservation) (ref : Ref) (s : State) : (updateResv f ref s).notices = s.notices := by unfold updateResv; (repeat' split) <;> (first | rfl | simp)
@[simp] theorem updateResv_pending (f : Reservation → Reservation) (ref : Ref) (s : State) : (updateResv f ref s).pending = s.pending := by unfold updateResv; (repeat' split) <;> (first | rfl | simp)

@[simp] theorem reserveRef_clock (d : ClaimDir) (r : Reservation) (c : ChangeSource) (ref : Ref) (s : State) : (reserveRef d r c ref s).clock = s.clock := by unfold reserveRef; (repeat' split) <;> (first | rfl | simp)
@[simp] theorem reserveRef_cfg (d : ClaimDir) (r : Reservation) (c : ChangeSource) (ref : Ref) (s : State) : (reserveRef d r c ref s).cfg = s.cfg := by unfold reserveRef; (repeat' split) <;> (first | rfl | simp)
@[simp] theorem reserveRef_pos (d : ClaimDir) (r : Reservation) (c : ChangeSource) (ref : Ref) (s : State) : (reserveRef d r c ref s).pos = s.pos := by unfold reserveRef; (repeat' split) <;> (first | rfl | simp)
@[simp] theorem reserveRef_weigh (d : ClaimDir) (r : Reservation) (c : ChangeSource) (ref : Ref) (s : State) : (reserveRef d r c ref s).weigh = s.weigh := by unfold reserveRef; (repeat' split) <;> (first | rfl | simp)
@[simp] theorem reserveRef_link (d : ClaimDir) (r : Reservation) (c : ChangeSource) (ref : Ref) (s : State) : (reserveRef d r c ref s).link = s.link := by unfold reserveRef; (repeat' split) <;> (first | rfl | simp)
@[simp] theorem reserveRef_table (d : ClaimDir) (r : Reservation) (c : ChangeSource) (ref : Ref) (s : State) : (reserveRef d r c ref s).table = s.table := by unfold reserveRef; (repeat' split) <;> (first | rfl | simp)
@[simp] theorem reserveRef_perm (d : ClaimDir) (r : Reservation) (c : ChangeSource) (ref : Ref) (s : State) : (reserveRef d r c ref s).perm = s.perm := by unfold reserveRef; (repeat' split) <;> (first | rfl | simp)
@[simp] theorem reserveRef_claims (d : ClaimDir) (r : Reservation) (c : ChangeSource) (ref : Ref) (s : State) : (reserveRef d r c ref s).claims = s.claims := by unfold reserveRef; (repeat' split) <;> (first | rfl | simp)
@[simp] theorem reserveRef_tracker (d : ClaimDir) (r : Reservation) (c : ChangeSource) (ref : Ref) (s : State) : (reserveRef d r c ref s).tracker = s.tracker := by unfold reserveRef; (repeat' split) <;> (first | rfl | simp)
@[simp] theorem reserveRef_port (d : ClaimDir) (r : Reservation) (c : ChangeSource) (ref : Ref) (s : State) : (reserveRef d r c ref s).port = s.port := by unfold reserveRef; (repeat' split) <;> (first | rfl | simp)
@[simp] theorem reserveRef_notices (d : ClaimDir) (r : Reservation) (c : ChangeSource) (ref : Ref) (s : State) : (reserveRef d r c ref s).notices = s.notices := by unfold reserveRef; (repeat' split) <;> (first | rfl | simp)
@[simp] theorem reserveRef_pending (d : ClaimDir) (r : Reservation) (c : ChangeSource) (ref : Ref) (s : State) : (reserveRef d r c ref s).pending = s.pending := by unfold reserveRef; (repeat' split) <;> (first | rfl | simp)

/-! ### Mailboxes -/

@[simp] theorem setBoxes_clock (b : Mailboxes) (s : State) : (setBoxes b s).clock = s.clock := rfl
@[simp] theorem setBoxes_cfg (b : Mailboxes) (s : State) : (setBoxes b s).cfg = s.cfg := rfl
@[simp] theorem setBoxes_pos (b : Mailboxes) (s : State) : (setBoxes b s).pos = s.pos := rfl
@[simp] theorem setBoxes_weigh (b : Mailboxes) (s : State) : (setBoxes b s).weigh = s.weigh := rfl
@[simp] theorem setBoxes_table (b : Mailboxes) (s : State) : (setBoxes b s).table = s.table := rfl
@[simp] theorem setBoxes_perm (b : Mailboxes) (s : State) : (setBoxes b s).perm = s.perm := rfl
@[simp] theorem setBoxes_map (b : Mailboxes) (s : State) : (setBoxes b s).map = s.map := rfl
@[simp] theorem setBoxes_claims (b : Mailboxes) (s : State) : (setBoxes b s).claims = s.claims := rfl
@[simp] theorem setBoxes_tracker (b : Mailboxes) (s : State) : (setBoxes b s).tracker = s.tracker := rfl
@[simp] theorem setBoxes_trucks (b : Mailboxes) (s : State) : (setBoxes b s).trucks = s.trucks := rfl
@[simp] theorem setBoxes_port (b : Mailboxes) (s : State) : (setBoxes b s).port = s.port := rfl
@[simp] theorem setBoxes_notices (b : Mailboxes) (s : State) : (setBoxes b s).notices = s.notices := rfl
@[simp] theorem setBoxes_pending (b : Mailboxes) (s : State) : (setBoxes b s).pending = s.pending := rfl

/-- R46: a RELEASE request that the mailbox takes changes the mailboxes alone. -/
theorem putRelease_some {x : ReleaseFrame} {s t : State} (h : putRelease x s = some t) : ∃ b, t = setBoxes b s := by
  unfold putRelease at h
  split at h
  · exact ⟨_, (Option.some.inj h).symm⟩
  · split at h
    · exact ⟨_, (Option.some.inj h).symm⟩
    · cases h

/-- R145: a RELEASE asked for changes the mailboxes or the list of held requests. -/
theorem askRelease_form (x : ReleaseFrame) (s : State) :
    ∃ b c, askRelease x s = (setBoxes b s).withClaims { s.claims with heldRequests := c } := by
  unfold askRelease
  split
  · exact ⟨s.link.boxes, s.claims.heldRequests, rfl⟩
  · split
    · rename_i h
      obtain ⟨b, rfl⟩ := putRelease_some h
      exact ⟨b, s.claims.heldRequests, rfl⟩
    · exact ⟨s.link.boxes, _, rfl⟩

@[simp] theorem askRelease_clock (x : ReleaseFrame) (s : State) : (askRelease x s).clock = s.clock := by
  obtain ⟨b, c, h⟩ := askRelease_form x s; rw [h]; rfl
@[simp] theorem askRelease_cfg (x : ReleaseFrame) (s : State) : (askRelease x s).cfg = s.cfg := by
  obtain ⟨b, c, h⟩ := askRelease_form x s; rw [h]; rfl
@[simp] theorem askRelease_pos (x : ReleaseFrame) (s : State) : (askRelease x s).pos = s.pos := by
  obtain ⟨b, c, h⟩ := askRelease_form x s; rw [h]; rfl
@[simp] theorem askRelease_weigh (x : ReleaseFrame) (s : State) : (askRelease x s).weigh = s.weigh := by
  obtain ⟨b, c, h⟩ := askRelease_form x s; rw [h]; rfl
@[simp] theorem askRelease_table (x : ReleaseFrame) (s : State) : (askRelease x s).table = s.table := by
  obtain ⟨b, c, h⟩ := askRelease_form x s; rw [h]; rfl
@[simp] theorem askRelease_perm (x : ReleaseFrame) (s : State) : (askRelease x s).perm = s.perm := by
  obtain ⟨b, c, h⟩ := askRelease_form x s; rw [h]; rfl
@[simp] theorem askRelease_map (x : ReleaseFrame) (s : State) : (askRelease x s).map = s.map := by
  obtain ⟨b, c, h⟩ := askRelease_form x s; rw [h]; rfl
@[simp] theorem askRelease_tracker (x : ReleaseFrame) (s : State) : (askRelease x s).tracker = s.tracker := by
  obtain ⟨b, c, h⟩ := askRelease_form x s; rw [h]; rfl
@[simp] theorem askRelease_trucks (x : ReleaseFrame) (s : State) : (askRelease x s).trucks = s.trucks := by
  obtain ⟨b, c, h⟩ := askRelease_form x s; rw [h]; rfl
@[simp] theorem askRelease_port (x : ReleaseFrame) (s : State) : (askRelease x s).port = s.port := by
  obtain ⟨b, c, h⟩ := askRelease_form x s; rw [h]; rfl
@[simp] theorem askRelease_notices (x : ReleaseFrame) (s : State) : (askRelease x s).notices = s.notices := by
  obtain ⟨b, c, h⟩ := askRelease_form x s; rw [h]; rfl
@[simp] theorem askRelease_pending (x : ReleaseFrame) (s : State) : (askRelease x s).pending = s.pending := by
  obtain ⟨b, c, h⟩ := askRelease_form x s; rw [h]; rfl

@[simp] theorem askReleases_clock (fs : List ReleaseFrame) (s : State) : (askReleases fs s).clock = s.clock := by
  unfold askReleases; induction fs generalizing s with
  | nil => rfl
  | cons x xs ih => simp [ih]
@[simp] theorem askReleases_cfg (fs : List ReleaseFrame) (s : State) : (askReleases fs s).cfg = s.cfg := by
  unfold askReleases; induction fs generalizing s with
  | nil => rfl
  | cons x xs ih => simp [ih]
@[simp] theorem askReleases_pos (fs : List ReleaseFrame) (s : State) : (askReleases fs s).pos = s.pos := by
  unfold askReleases; induction fs generalizing s with
  | nil => rfl
  | cons x xs ih => simp [ih]
@[simp] theorem askReleases_weigh (fs : List ReleaseFrame) (s : State) : (askReleases fs s).weigh = s.weigh := by
  unfold askReleases; induction fs generalizing s with
  | nil => rfl
  | cons x xs ih => simp [ih]
@[simp] theorem askReleases_table (fs : List ReleaseFrame) (s : State) : (askReleases fs s).table = s.table := by
  unfold askReleases; induction fs generalizing s with
  | nil => rfl
  | cons x xs ih => simp [ih]
@[simp] theorem askReleases_perm (fs : List ReleaseFrame) (s : State) : (askReleases fs s).perm = s.perm := by
  unfold askReleases; induction fs generalizing s with
  | nil => rfl
  | cons x xs ih => simp [ih]
@[simp] theorem askReleases_map (fs : List ReleaseFrame) (s : State) : (askReleases fs s).map = s.map := by
  unfold askReleases; induction fs generalizing s with
  | nil => rfl
  | cons x xs ih => simp [ih]
@[simp] theorem askReleases_tracker (fs : List ReleaseFrame) (s : State) : (askReleases fs s).tracker = s.tracker := by
  unfold askReleases; induction fs generalizing s with
  | nil => rfl
  | cons x xs ih => simp [ih]
@[simp] theorem askReleases_trucks (fs : List ReleaseFrame) (s : State) : (askReleases fs s).trucks = s.trucks := by
  unfold askReleases; induction fs generalizing s with
  | nil => rfl
  | cons x xs ih => simp [ih]
@[simp] theorem askReleases_port (fs : List ReleaseFrame) (s : State) : (askReleases fs s).port = s.port := by
  unfold askReleases; induction fs generalizing s with
  | nil => rfl
  | cons x xs ih => simp [ih]
@[simp] theorem askReleases_notices (fs : List ReleaseFrame) (s : State) : (askReleases fs s).notices = s.notices := by
  unfold askReleases; induction fs generalizing s with
  | nil => rfl
  | cons x xs ih => simp [ih]
@[simp] theorem askReleases_pending (fs : List ReleaseFrame) (s : State) : (askReleases fs s).pending = s.pending := by
  unfold askReleases; induction fs generalizing s with
  | nil => rfl
  | cons x xs ih => simp [ih]

@[simp] theorem askObject_clock (x : ObjectFrame) (s : State) : (askObject x s).clock = s.clock := by unfold askObject; (repeat' split) <;> rfl
@[simp] theorem askObject_cfg (x : ObjectFrame) (s : State) : (askObject x s).cfg = s.cfg := by unfold askObject; (repeat' split) <;> rfl
@[simp] theorem askObject_pos (x : ObjectFrame) (s : State) : (askObject x s).pos = s.pos := by unfold askObject; (repeat' split) <;> rfl
@[simp] theorem askObject_weigh (x : ObjectFrame) (s : State) : (askObject x s).weigh = s.weigh := by unfold askObject; (repeat' split) <;> rfl
@[simp] theorem askObject_table (x : ObjectFrame) (s : State) : (askObject x s).table = s.table := by unfold askObject; (repeat' split) <;> rfl
@[simp] theorem askObject_perm (x : ObjectFrame) (s : State) : (askObject x s).perm = s.perm := by unfold askObject; (repeat' split) <;> rfl
@[simp] theorem askObject_map (x : ObjectFrame) (s : State) : (askObject x s).map = s.map := by unfold askObject; (repeat' split) <;> rfl
@[simp] theorem askObject_claims (x : ObjectFrame) (s : State) : (askObject x s).claims = s.claims := by unfold askObject; (repeat' split) <;> rfl
@[simp] theorem askObject_tracker (x : ObjectFrame) (s : State) : (askObject x s).tracker = s.tracker := by unfold askObject; (repeat' split) <;> rfl
@[simp] theorem askObject_trucks (x : ObjectFrame) (s : State) : (askObject x s).trucks = s.trucks := by unfold askObject; (repeat' split) <;> rfl
@[simp] theorem askObject_port (x : ObjectFrame) (s : State) : (askObject x s).port = s.port := by unfold askObject; (repeat' split) <;> rfl
@[simp] theorem askObject_pending (x : ObjectFrame) (s : State) : (askObject x s).pending = s.pending := by unfold askObject; (repeat' split) <;> rfl

@[simp] theorem withdrawClaim_clock (x : ReleaseFrame) (s : State) : (withdrawClaim x s).clock = s.clock := by unfold withdrawClaim; (repeat' split) <;> rfl
@[simp] theorem withdrawClaim_cfg (x : ReleaseFrame) (s : State) : (withdrawClaim x s).cfg = s.cfg := by unfold withdrawClaim; (repeat' split) <;> rfl
@[simp] theorem withdrawClaim_pos (x : ReleaseFrame) (s : State) : (withdrawClaim x s).pos = s.pos := by unfold withdrawClaim; (repeat' split) <;> rfl
@[simp] theorem withdrawClaim_weigh (x : ReleaseFrame) (s : State) : (withdrawClaim x s).weigh = s.weigh := by unfold withdrawClaim; (repeat' split) <;> rfl
@[simp] theorem withdrawClaim_table (x : ReleaseFrame) (s : State) : (withdrawClaim x s).table = s.table := by unfold withdrawClaim; (repeat' split) <;> rfl
@[simp] theorem withdrawClaim_perm (x : ReleaseFrame) (s : State) : (withdrawClaim x s).perm = s.perm := by unfold withdrawClaim; (repeat' split) <;> rfl
@[simp] theorem withdrawClaim_map (x : ReleaseFrame) (s : State) : (withdrawClaim x s).map = s.map := by unfold withdrawClaim; (repeat' split) <;> rfl
@[simp] theorem withdrawClaim_claims (x : ReleaseFrame) (s : State) : (withdrawClaim x s).claims = s.claims := by unfold withdrawClaim; (repeat' split) <;> rfl
@[simp] theorem withdrawClaim_tracker (x : ReleaseFrame) (s : State) : (withdrawClaim x s).tracker = s.tracker := by unfold withdrawClaim; (repeat' split) <;> rfl
@[simp] theorem withdrawClaim_trucks (x : ReleaseFrame) (s : State) : (withdrawClaim x s).trucks = s.trucks := by unfold withdrawClaim; (repeat' split) <;> rfl
@[simp] theorem withdrawClaim_port (x : ReleaseFrame) (s : State) : (withdrawClaim x s).port = s.port := by unfold withdrawClaim; (repeat' split) <;> rfl
@[simp] theorem withdrawClaim_notices (x : ReleaseFrame) (s : State) : (withdrawClaim x s).notices = s.notices := by unfold withdrawClaim; (repeat' split) <;> rfl
@[simp] theorem withdrawClaim_pending (x : ReleaseFrame) (s : State) : (withdrawClaim x s).pending = s.pending := by unfold withdrawClaim; (repeat' split) <;> rfl

@[simp] theorem endAttempt_clock (s : State) : (endAttempt s).clock = s.clock := by unfold endAttempt; (repeat' split) <;> rfl
@[simp] theorem endAttempt_cfg (s : State) : (endAttempt s).cfg = s.cfg := by unfold endAttempt; (repeat' split) <;> rfl
@[simp] theorem endAttempt_pos (s : State) : (endAttempt s).pos = s.pos := by unfold endAttempt; (repeat' split) <;> rfl
@[simp] theorem endAttempt_weigh (s : State) : (endAttempt s).weigh = s.weigh := by unfold endAttempt; (repeat' split) <;> rfl
@[simp] theorem endAttempt_table (s : State) : (endAttempt s).table = s.table := by unfold endAttempt; (repeat' split) <;> rfl
@[simp] theorem endAttempt_perm (s : State) : (endAttempt s).perm = s.perm := by unfold endAttempt; (repeat' split) <;> rfl
@[simp] theorem endAttempt_map (s : State) : (endAttempt s).map = s.map := by unfold endAttempt; (repeat' split) <;> rfl
@[simp] theorem endAttempt_claims (s : State) : (endAttempt s).claims = s.claims := by unfold endAttempt; (repeat' split) <;> rfl
@[simp] theorem endAttempt_tracker (s : State) : (endAttempt s).tracker = s.tracker := by unfold endAttempt; (repeat' split) <;> rfl
@[simp] theorem endAttempt_trucks (s : State) : (endAttempt s).trucks = s.trucks := by unfold endAttempt; (repeat' split) <;> rfl
@[simp] theorem endAttempt_port (s : State) : (endAttempt s).port = s.port := by unfold endAttempt; (repeat' split) <;> rfl
@[simp] theorem endAttempt_notices (s : State) : (endAttempt s).notices = s.notices := by unfold endAttempt; (repeat' split) <;> rfl
@[simp] theorem endAttempt_pending (s : State) : (endAttempt s).pending = s.pending := by unfold endAttempt; (repeat' split) <;> rfl

/-! ### Task, hook and reply -/

@[simp] theorem updateTask_clock (f : Task → Task) (s : State) : (updateTask f s).clock = s.clock := rfl
@[simp] theorem updateTask_cfg (f : Task → Task) (s : State) : (updateTask f s).cfg = s.cfg := rfl
@[simp] theorem updateTask_pos (f : Task → Task) (s : State) : (updateTask f s).pos = s.pos := rfl
@[simp] theorem updateTask_weigh (f : Task → Task) (s : State) : (updateTask f s).weigh = s.weigh := rfl
@[simp] theorem updateTask_link (f : Task → Task) (s : State) : (updateTask f s).link = s.link := rfl
@[simp] theorem updateTask_table (f : Task → Task) (s : State) : (updateTask f s).table = s.table := rfl
@[simp] theorem updateTask_perm (f : Task → Task) (s : State) : (updateTask f s).perm = s.perm := rfl
@[simp] theorem updateTask_map (f : Task → Task) (s : State) : (updateTask f s).map = s.map := rfl
@[simp] theorem updateTask_claims (f : Task → Task) (s : State) : (updateTask f s).claims = s.claims := rfl
@[simp] theorem updateTask_trucks (f : Task → Task) (s : State) : (updateTask f s).trucks = s.trucks := rfl
@[simp] theorem updateTask_port (f : Task → Task) (s : State) : (updateTask f s).port = s.port := rfl
@[simp] theorem updateTask_notices (f : Task → Task) (s : State) : (updateTask f s).notices = s.notices := rfl
@[simp] theorem updateTask_pending (f : Task → Task) (s : State) : (updateTask f s).pending = s.pending := rfl

@[simp] theorem setHook_clock (h : Option Hook) (s : State) : (setHook h s).clock = s.clock := rfl
@[simp] theorem setHook_cfg (h : Option Hook) (s : State) : (setHook h s).cfg = s.cfg := rfl
@[simp] theorem setHook_pos (h : Option Hook) (s : State) : (setHook h s).pos = s.pos := rfl
@[simp] theorem setHook_weigh (h : Option Hook) (s : State) : (setHook h s).weigh = s.weigh := rfl
@[simp] theorem setHook_link (h : Option Hook) (s : State) : (setHook h s).link = s.link := rfl
@[simp] theorem setHook_table (h : Option Hook) (s : State) : (setHook h s).table = s.table := rfl
@[simp] theorem setHook_perm (h : Option Hook) (s : State) : (setHook h s).perm = s.perm := rfl
@[simp] theorem setHook_map (h : Option Hook) (s : State) : (setHook h s).map = s.map := rfl
@[simp] theorem setHook_claims (h : Option Hook) (s : State) : (setHook h s).claims = s.claims := rfl
@[simp] theorem setHook_trucks (h : Option Hook) (s : State) : (setHook h s).trucks = s.trucks := rfl
@[simp] theorem setHook_port (h : Option Hook) (s : State) : (setHook h s).port = s.port := rfl
@[simp] theorem setHook_notices (h : Option Hook) (s : State) : (setHook h s).notices = s.notices := rfl
@[simp] theorem setHook_pending (h : Option Hook) (s : State) : (setHook h s).pending = s.pending := rfl

@[simp] theorem respond_clock (r : Reply) (s : State) : (respond r s).clock = s.clock := rfl
@[simp] theorem respond_cfg (r : Reply) (s : State) : (respond r s).cfg = s.cfg := rfl
@[simp] theorem respond_pos (r : Reply) (s : State) : (respond r s).pos = s.pos := rfl
@[simp] theorem respond_weigh (r : Reply) (s : State) : (respond r s).weigh = s.weigh := rfl
@[simp] theorem respond_link (r : Reply) (s : State) : (respond r s).link = s.link := rfl
@[simp] theorem respond_table (r : Reply) (s : State) : (respond r s).table = s.table := rfl
@[simp] theorem respond_perm (r : Reply) (s : State) : (respond r s).perm = s.perm := rfl
@[simp] theorem respond_map (r : Reply) (s : State) : (respond r s).map = s.map := rfl
@[simp] theorem respond_claims (r : Reply) (s : State) : (respond r s).claims = s.claims := rfl
@[simp] theorem respond_tracker (r : Reply) (s : State) : (respond r s).tracker = s.tracker := rfl
@[simp] theorem respond_trucks (r : Reply) (s : State) : (respond r s).trucks = s.trucks := rfl
@[simp] theorem respond_notices (r : Reply) (s : State) : (respond r s).notices = s.notices := rfl
@[simp] theorem respond_pending (r : Reply) (s : State) : (respond r s).pending = s.pending := rfl

/-! ### Evaluations -/

@[simp] theorem evalEntries_clock (s : State) : (evalEntries s).clock = s.clock := rfl
@[simp] theorem evalEntries_cfg (s : State) : (evalEntries s).cfg = s.cfg := rfl
@[simp] theorem evalEntries_pos (s : State) : (evalEntries s).pos = s.pos := rfl
@[simp] theorem evalEntries_weigh (s : State) : (evalEntries s).weigh = s.weigh := rfl
@[simp] theorem evalEntries_link (s : State) : (evalEntries s).link = s.link := rfl
@[simp] theorem evalEntries_perm (s : State) : (evalEntries s).perm = s.perm := rfl
@[simp] theorem evalEntries_map (s : State) : (evalEntries s).map = s.map := rfl
@[simp] theorem evalEntries_claims (s : State) : (evalEntries s).claims = s.claims := rfl
@[simp] theorem evalEntries_tracker (s : State) : (evalEntries s).tracker = s.tracker := rfl
@[simp] theorem evalEntries_trucks (s : State) : (evalEntries s).trucks = s.trucks := rfl
@[simp] theorem evalEntries_port (s : State) : (evalEntries s).port = s.port := rfl
@[simp] theorem evalEntries_notices (s : State) : (evalEntries s).notices = s.notices := rfl
@[simp] theorem evalEntries_pending (s : State) : (evalEntries s).pending = s.pending := rfl

@[simp] theorem evalEntryOf_clock (id : Nat) (s : State) : (evalEntryOf id s).clock = s.clock := rfl
@[simp] theorem evalEntryOf_cfg (id : Nat) (s : State) : (evalEntryOf id s).cfg = s.cfg := rfl
@[simp] theorem evalEntryOf_pos (id : Nat) (s : State) : (evalEntryOf id s).pos = s.pos := rfl
@[simp] theorem evalEntryOf_weigh (id : Nat) (s : State) : (evalEntryOf id s).weigh = s.weigh := rfl
@[simp] theorem evalEntryOf_link (id : Nat) (s : State) : (evalEntryOf id s).link = s.link := rfl
@[simp] theorem evalEntryOf_perm (id : Nat) (s : State) : (evalEntryOf id s).perm = s.perm := rfl
@[simp] theorem evalEntryOf_map (id : Nat) (s : State) : (evalEntryOf id s).map = s.map := rfl
@[simp] theorem evalEntryOf_claims (id : Nat) (s : State) : (evalEntryOf id s).claims = s.claims := rfl
@[simp] theorem evalEntryOf_tracker (id : Nat) (s : State) : (evalEntryOf id s).tracker = s.tracker := rfl
@[simp] theorem evalEntryOf_trucks (id : Nat) (s : State) : (evalEntryOf id s).trucks = s.trucks := rfl
@[simp] theorem evalEntryOf_port (id : Nat) (s : State) : (evalEntryOf id s).port = s.port := rfl
@[simp] theorem evalEntryOf_notices (id : Nat) (s : State) : (evalEntryOf id s).notices = s.notices := rfl
@[simp] theorem evalEntryOf_pending (id : Nat) (s : State) : (evalEntryOf id s).pending = s.pending := rfl

@[simp] theorem evalLimits_clock (s : State) : (evalLimits s).clock = s.clock := rfl
@[simp] theorem evalLimits_cfg (s : State) : (evalLimits s).cfg = s.cfg := rfl
@[simp] theorem evalLimits_pos (s : State) : (evalLimits s).pos = s.pos := rfl
@[simp] theorem evalLimits_weigh (s : State) : (evalLimits s).weigh = s.weigh := rfl
@[simp] theorem evalLimits_link (s : State) : (evalLimits s).link = s.link := rfl
@[simp] theorem evalLimits_table (s : State) : (evalLimits s).table = s.table := rfl
@[simp] theorem evalLimits_map (s : State) : (evalLimits s).map = s.map := rfl
@[simp] theorem evalLimits_claims (s : State) : (evalLimits s).claims = s.claims := rfl
@[simp] theorem evalLimits_tracker (s : State) : (evalLimits s).tracker = s.tracker := rfl
@[simp] theorem evalLimits_trucks (s : State) : (evalLimits s).trucks = s.trucks := rfl
@[simp] theorem evalLimits_port (s : State) : (evalLimits s).port = s.port := rfl
@[simp] theorem evalLimits_notices (s : State) : (evalLimits s).notices = s.notices := rfl
@[simp] theorem evalLimits_pending (s : State) : (evalLimits s).pending = s.pending := rfl

@[simp] theorem evalZones_clock (s : State) : (evalZones s).clock = s.clock := by unfold evalZones; simp only; split <;> rfl
@[simp] theorem evalZones_cfg (s : State) : (evalZones s).cfg = s.cfg := by unfold evalZones; simp only; split <;> rfl
@[simp] theorem evalZones_pos (s : State) : (evalZones s).pos = s.pos := by unfold evalZones; simp only; split <;> rfl
@[simp] theorem evalZones_weigh (s : State) : (evalZones s).weigh = s.weigh := by unfold evalZones; simp only; split <;> rfl
@[simp] theorem evalZones_link (s : State) : (evalZones s).link = s.link := by unfold evalZones; simp only; split <;> rfl
@[simp] theorem evalZones_table (s : State) : (evalZones s).table = s.table := by unfold evalZones; simp only; split <;> rfl
@[simp] theorem evalZones_map (s : State) : (evalZones s).map = s.map := by unfold evalZones; simp only; split <;> rfl
@[simp] theorem evalZones_claims (s : State) : (evalZones s).claims = s.claims := by unfold evalZones; simp only; split <;> rfl
@[simp] theorem evalZones_tracker (s : State) : (evalZones s).tracker = s.tracker := by unfold evalZones; simp only; split <;> rfl
@[simp] theorem evalZones_trucks (s : State) : (evalZones s).trucks = s.trucks := by unfold evalZones; simp only; split <;> rfl
@[simp] theorem evalZones_port (s : State) : (evalZones s).port = s.port := by unfold evalZones; simp only; split <;> rfl
@[simp] theorem evalZones_pending (s : State) : (evalZones s).pending = s.pending := by unfold evalZones; simp only; split <;> rfl

@[simp] theorem evalTruckCheck_clock (s : State) : (evalTruckCheck s).clock = s.clock := by unfold evalTruckCheck; simp only; split <;> rfl
@[simp] theorem evalTruckCheck_cfg (s : State) : (evalTruckCheck s).cfg = s.cfg := by unfold evalTruckCheck; simp only; split <;> rfl
@[simp] theorem evalTruckCheck_pos (s : State) : (evalTruckCheck s).pos = s.pos := by unfold evalTruckCheck; simp only; split <;> rfl
@[simp] theorem evalTruckCheck_weigh (s : State) : (evalTruckCheck s).weigh = s.weigh := by unfold evalTruckCheck; simp only; split <;> rfl
@[simp] theorem evalTruckCheck_link (s : State) : (evalTruckCheck s).link = s.link := by unfold evalTruckCheck; simp only; split <;> rfl
@[simp] theorem evalTruckCheck_table (s : State) : (evalTruckCheck s).table = s.table := by unfold evalTruckCheck; simp only; split <;> rfl
@[simp] theorem evalTruckCheck_perm (s : State) : (evalTruckCheck s).perm = s.perm := by unfold evalTruckCheck; simp only; split <;> rfl
@[simp] theorem evalTruckCheck_map (s : State) : (evalTruckCheck s).map = s.map := by unfold evalTruckCheck; simp only; split <;> rfl
@[simp] theorem evalTruckCheck_claims (s : State) : (evalTruckCheck s).claims = s.claims := by unfold evalTruckCheck; simp only; split <;> rfl
@[simp] theorem evalTruckCheck_tracker (s : State) : (evalTruckCheck s).tracker = s.tracker := by unfold evalTruckCheck; simp only; split <;> rfl
@[simp] theorem evalTruckCheck_port (s : State) : (evalTruckCheck s).port = s.port := by unfold evalTruckCheck; simp only; split <;> rfl
@[simp] theorem evalTruckCheck_pending (s : State) : (evalTruckCheck s).pending = s.pending := by unfold evalTruckCheck; simp only; split <;> rfl

@[simp] theorem driveOutputs_clock (s : State) : (driveOutputs s).clock = s.clock := by unfold driveOutputs; simp only; split <;> rfl
@[simp] theorem driveOutputs_cfg (s : State) : (driveOutputs s).cfg = s.cfg := by unfold driveOutputs; simp only; split <;> rfl
@[simp] theorem driveOutputs_pos (s : State) : (driveOutputs s).pos = s.pos := by unfold driveOutputs; simp only; split <;> rfl
@[simp] theorem driveOutputs_weigh (s : State) : (driveOutputs s).weigh = s.weigh := by unfold driveOutputs; simp only; split <;> rfl
@[simp] theorem driveOutputs_link (s : State) : (driveOutputs s).link = s.link := by unfold driveOutputs; simp only; split <;> rfl
@[simp] theorem driveOutputs_table (s : State) : (driveOutputs s).table = s.table := by unfold driveOutputs; simp only; split <;> rfl
@[simp] theorem driveOutputs_map (s : State) : (driveOutputs s).map = s.map := by unfold driveOutputs; simp only; split <;> rfl
@[simp] theorem driveOutputs_claims (s : State) : (driveOutputs s).claims = s.claims := by unfold driveOutputs; simp only; split <;> rfl
@[simp] theorem driveOutputs_tracker (s : State) : (driveOutputs s).tracker = s.tracker := by unfold driveOutputs; simp only; split <;> rfl
@[simp] theorem driveOutputs_trucks (s : State) : (driveOutputs s).trucks = s.trucks := by unfold driveOutputs; simp only; split <;> rfl
@[simp] theorem driveOutputs_port (s : State) : (driveOutputs s).port = s.port := by unfold driveOutputs; simp only; split <;> rfl
@[simp] theorem driveOutputs_notices (s : State) : (driveOutputs s).notices = s.notices := by unfold driveOutputs; simp only; split <;> rfl
@[simp] theorem driveOutputs_pending (s : State) : (driveOutputs s).pending = s.pending := by unfold driveOutputs; simp only; split <;> rfl

@[simp] theorem settle_clock (s : State) : (settle s).clock = s.clock := by simp [settle]
@[simp] theorem settle_cfg (s : State) : (settle s).cfg = s.cfg := by simp [settle]
@[simp] theorem settle_pos (s : State) : (settle s).pos = s.pos := by simp [settle]
@[simp] theorem settle_weigh (s : State) : (settle s).weigh = s.weigh := by simp [settle]
@[simp] theorem settle_link (s : State) : (settle s).link = s.link := by simp [settle]
@[simp] theorem settle_table (s : State) : (settle s).table = s.table := by simp [settle]
@[simp] theorem settle_map (s : State) : (settle s).map = s.map := by simp [settle]
@[simp] theorem settle_claims (s : State) : (settle s).claims = s.claims := by simp [settle]
@[simp] theorem settle_tracker (s : State) : (settle s).tracker = s.tracker := by simp [settle]
@[simp] theorem settle_port (s : State) : (settle s).port = s.port := by simp [settle]
@[simp] theorem settle_pending (s : State) : (settle s).pending = s.pending := by simp [settle]

@[simp] theorem evalTruckCheck_bay0 (s : State) : (evalTruckCheck s).trucks.bay0 = s.trucks.bay0 := by
  unfold evalTruckCheck; simp only; split <;> rfl
@[simp] theorem evalTruckCheck_bay1 (s : State) : (evalTruckCheck s).trucks.bay1 = s.trucks.bay1 := by
  unfold evalTruckCheck; simp only; split <;> rfl

/-- The end of a step keeps both truck records. -/
@[simp] theorem settle_bay0 (s : State) : (settle s).trucks.bay0 = s.trucks.bay0 := by simp [settle]
@[simp] theorem settle_bay1 (s : State) : (settle s).trucks.bay1 = s.trucks.bay1 := by simp [settle]

/-! ### The wrappers of the meanings -/

/-- An event while the reset input is not held acts and settles. -/
theorem event_of_running (body : State → State) {s : State} (h : s.clock.resetHeld = false) :
    event body s = settle (body s) := by simp [event, h]

/-- An event while the reset input is held changes nothing (R208). -/
theorem event_of_held (body : State → State) {s : State} (h : s.clock.resetHeld = true) : event body s = s := by
  simp [event, h]

/-- A request while the reset input is held changes nothing (R208). -/
theorem request_of_held (body : State → State × Reply) {s : State} (h : s.clock.resetHeld = true) :
    request body s = s := by simp [request, h]

/-- A request answered OK is settled, and its reply is held. -/
theorem request_of_ok (body : State → State × Reply) {s : State} (h : s.clock.resetHeld = false)
    (ok : (body s).2.status = .ok) : request body s = respond (body s).2 (settle (body s).1) := by
  simp [request, h, ok]

/-- A refused request is answered and settles nothing. -/
theorem request_of_refused (body : State → State × Reply) {s : State} (h : s.clock.resetHeld = false)
    (bad : (body s).2.status ≠ .ok) : request body s = respond (body s).2 (body s).1 := by
  simp [request, h, bad]

/-- A reading request changes the port alone. -/
theorem readRequest_of_running (f : State → Reply) {s : State} (h : s.clock.resetHeld = false) :
    readRequest f s = respond (f s) s := by simp [readRequest, h]

end Sys2Proof.Machine
end

