-- ==== Sys2Proof/Laws/Frames.lean ====
section
/-! SUPPORT. How frames and notices compose, and what the end of a step leaves: the lemmas by which a claim about a
command is reduced to a claim about its body. -/

namespace Sys2Proof.Machine

/-! ### Bits -/

theorem onlySets_refl {w : Nat} (bits : List Nat) (u : BitVec w) : OnlySets bits u u := by
  intro i; constructor
  · exact Or.inl
  · rintro (h | ⟨-, h⟩) <;> exact h

theorem onlySets_mono {w : Nat} {a b : List Nat} {u v : BitVec w} (hab : ∀ i ∈ a, i ∈ b) (h : OnlySets a u v) :
    OnlySets b u v := by
  intro i
  have := h i
  constructor
  · intro hv
    rcases this.1 hv with h1 | ⟨h1, h2⟩
    · exact Or.inl h1
    · exact Or.inr ⟨hab i h1, h2⟩
  · rintro (h1 | ⟨-, h1⟩)
    · exact this.2 (Or.inl h1)
    · exact h1

theorem onlySets_trans {w : Nat} {a b : List Nat} {u v x : BitVec w} (h : OnlySets a u v) (k : OnlySets b v x) :
    OnlySets (a ++ b) u x := by
  intro i
  constructor
  · intro hx
    rcases (k i).1 hx with hv | ⟨hb, -⟩
    · rcases (h i).1 hv with hu | ⟨ha, -⟩
      · exact Or.inl hu
      · exact Or.inr ⟨List.mem_append_left _ ha, hx⟩
    · exact Or.inr ⟨List.mem_append_right _ hb, hx⟩
  · rintro (hu | ⟨-, hx⟩)
    · exact (k i).2 (Or.inl ((h i).2 (Or.inl hu)))
    · exact hx

theorem getLsbD_bitMask (w k i : Nat) : (bitMask w k).getLsbD i = (decide (i < w) && decide (i = k)) := by
  simp only [bitMask, BitVec.getLsbD_ofNat, Nat.testBit_two_pow, eq_comm (a := k)]

theorem onlySets_or {w : Nat} (u : BitVec w) (k : Nat) : OnlySets [k] u (u ||| bitMask w k) := by
  intro i
  simp only [BitVec.getLsbD_or, getLsbD_bitMask, List.mem_singleton, Bool.or_eq_true, Bool.and_eq_true, decide_eq_true_eq]
  constructor
  · rintro (h | ⟨h1, h2⟩)
    · exact Or.inl h
    · exact Or.inr ⟨h2, Or.inr ⟨h1, h2⟩⟩
  · rintro (h | ⟨-, h⟩)
    · exact Or.inl h
    · exact h

/-! ### Notices -/

theorem notice_bit_lt (n : Notice) : n.bit < 32 := by cases n <;> decide
theorem notice_group_lt (n : Notice) : n.group < 8 := by cases n <;> decide

/-- The mask test of R209 asks for the enable bit of the source. -/
theorem sourceEnabled_iff (n : Notice) (u : NoticeUnit) :
    sourceEnabled n u = false ↔ u.sourceEnable &&& bitMask 32 n.bit = 0 := by
  unfold sourceEnabled
  constructor
  · intro h
    apply BitVec.eq_of_getLsbD_eq
    intro i _
    simp only [BitVec.getLsbD_and, getLsbD_bitMask]
    by_cases hi : i = n.bit
    · subst hi; simp only [h, Bool.false_and]; exact BitVec.getLsbD_zero.symm
    · simp [hi]
  · intro h
    have := congrArg (fun x : BitVec 32 => x.getLsbD n.bit) h
    simp only [BitVec.getLsbD_and, getLsbD_bitMask, notice_bit_lt, decide_true, Bool.and_true] at this
    rw [this]; exact BitVec.getLsbD_zero

/-- The group flags after a raise. -/
theorem raise_groups (n : Notice) (s : State) : (raise n s).notices.groups =
    if sourceEnabled n s.notices then s.notices.groups ||| bitMask 8 n.group else s.notices.groups := by
  show (if s.notices.sourceEnable &&& bitMask 32 n.bit = 0 then s.notices.groups
    else s.notices.groups ||| bitMask 8 n.group) = _
  cases he : sourceEnabled n s.notices with
  | false => rw [if_pos ((sourceEnabled_iff n s.notices).1 he)]; rfl
  | true =>
    rw [if_neg (fun h => by rw [(sourceEnabled_iff n s.notices).2 h] at he; cases he)]; rfl

theorem raisesOnly_refl (ns : List Notice) (s : State) : RaisesOnly ns s s :=
  ⟨onlySets_refl _ _, onlySets_refl _ _, rfl, rfl, rfl⟩

/-- States with the same notice unit raise the same. -/
theorem raisesOnly_of_eq {ns : List Notice} {s t : State} (h : t.notices = s.notices) : RaisesOnly ns s t := by
  refine ⟨?_, ?_, ?_, ?_, ?_⟩ <;> simp [h, onlySets_refl]

theorem raisesOnly_mono {a b : List Notice} {s t : State} (hab : ∀ n ∈ a, n ∈ b) (h : RaisesOnly a s t) :
    RaisesOnly b s t := by
  obtain ⟨h1, h2, h3⟩ := h
  refine ⟨onlySets_mono ?_ h1, onlySets_mono ?_ h2, h3⟩
  · intro i hi
    obtain ⟨n, hn, rfl⟩ := List.mem_map.1 hi
    exact List.mem_map.2 ⟨n, hab n hn, rfl⟩
  · intro i hi
    obtain ⟨n, hn, rfl⟩ := List.mem_map.1 hi
    obtain ⟨hn, he⟩ := List.mem_filter.1 hn
    exact List.mem_map.2 ⟨n, List.mem_filter.2 ⟨hab n hn, he⟩, rfl⟩

theorem sourceEnabled_congr {n : Notice} {u v : NoticeUnit} (h : v.sourceEnable = u.sourceEnable) :
    sourceEnabled n v = sourceEnabled n u := by simp [sourceEnabled, h]

theorem raisesOnly_trans {a b : List Notice} {s t u : State} (h : RaisesOnly a s t) (k : RaisesOnly b t u) :
    RaisesOnly (a ++ b) s u := by
  obtain ⟨h1, h2, h3, h4, h5⟩ := h
  obtain ⟨k1, k2, k3, k4, k5⟩ := k
  refine ⟨?_, ?_, k3.trans h3, k4.trans h4, k5.trans h5⟩
  · rw [List.map_append]; exact onlySets_trans h1 k1
  · rw [List.filter_append, List.map_append]
    refine onlySets_trans h2 ?_
    have : (b.filter fun n => sourceEnabled n s.notices) = b.filter fun n => sourceEnabled n t.notices :=
      List.filter_congr fun n _ => (sourceEnabled_congr h3).symm
    rw [this]; exact k2

/-- A raise sets no flag but those of its notice. -/
theorem raise_raisesOnly (n : Notice) (s : State) : RaisesOnly [n] s (raise n s) := by
  refine ⟨onlySets_or _ _, ?_, rfl, rfl, rfl⟩
  rw [raise_groups]
  cases he : sourceEnabled n s.notices with
  | false => exact onlySets_refl _ _
  | true => simpa [he] using onlySets_or s.notices.groups n.group

/-- A raised notice has its flags set (R209). -/
theorem raise_raised (n : Notice) (s : State) : Raised n s (raise n s) := by
  constructor
  · show (s.notices.sources ||| bitMask 32 n.bit).getLsbD n.bit = true
    rw [BitVec.getLsbD_or, getLsbD_bitMask]; simp [notice_bit_lt]
  · intro he
    rw [raise_groups, if_pos he, BitVec.getLsbD_or, getLsbD_bitMask]; simp [notice_group_lt]

/-- A raise stays raised through a step that only raises. -/
theorem raised_trans {n : Notice} {b : List Notice} {s t u : State} (h : Raised n s t) (k : RaisesOnly b t u) :
    Raised n s u :=
  ⟨(k.1 _).2 (Or.inl h.1), fun he => (k.2.1 _).2 (Or.inl (h.2 he))⟩

/-- What is raised after a step that only raises is raised from before it. -/
theorem raised_before {n : Notice} {a : List Notice} {s t u : State} (h : RaisesOnly a s t) (k : Raised n t u) :
    Raised n s u :=
  ⟨k.1, fun he => k.2 (by rw [sourceEnabled_congr h.2.2.1]; exact he)⟩

theorem notices_refl (may : List Notice) (s : State) : Notices [] may s s := ⟨by simp, raisesOnly_refl _ _⟩

theorem notices_of_eq {may : List Notice} {s t : State} (h : t.notices = s.notices) : Notices [] may s t :=
  ⟨by simp, raisesOnly_of_eq h⟩

theorem notices_raise (n : Notice) (s : State) : Notices [n] [] s (raise n s) :=
  ⟨by simpa using raise_raised n s, by simpa using raise_raisesOnly n s⟩

theorem notices_trans {m1 m2 y1 y2 : List Notice} {s t u : State} (h : Notices m1 y1 s t) (k : Notices m2 y2 t u) :
    Notices (m1 ++ m2) (y1 ++ y2) s u := by
  refine ⟨fun n hn => ?_, ?_⟩
  · rcases List.mem_append.1 hn with hn | hn
    · exact raised_trans (h.1 n hn) k.2
    · exact raised_before h.2 (k.1 n hn)
  · refine raisesOnly_mono ?_ (raisesOnly_trans h.2 k.2)
    intro n hn; simp only [List.mem_append] at hn ⊢; tauto

theorem notices_mono {m y y' : List Notice} {s t : State} (h : Notices m y s t) (hy : ∀ n ∈ y, n ∈ m ++ y') :
    Notices m y' s t := by
  refine ⟨h.1, raisesOnly_mono ?_ h.2⟩
  intro n hn
  rcases List.mem_append.1 hn with hn | hn
  · exact List.mem_append_left _ hn
  · exact hy n hn

/-! ### Blocks -/

theorem sameBlock_refl (s : State) (b : Block) : SameBlock s s b := by cases b <;> simp [SameBlock]

theorem sameBlock_trans {s t u : State} {b : Block} (h : SameBlock s t b) (k : SameBlock t u b) : SameBlock s u b := by
  cases b <;> simp only [SameBlock] at * <;> first | exact k.trans h | skip
  · exact ⟨k.1.trans h.1, k.2.1.trans h.2.1, k.2.2.1.trans h.2.2.1, k.2.2.2.1.trans h.2.2.2.1,
      k.2.2.2.2.trans h.2.2.2.2⟩
  · exact ⟨k.1.trans h.1, k.2.trans h.2⟩

theorem keeps_refl (touched : List Block) (s : State) : Keeps touched s s := ⟨rfl, fun b _ => sameBlock_refl s b⟩

theorem keeps_mono {a b : List Block} {s t : State} (hab : ∀ x ∈ a, x ∈ b) (h : Keeps a s t) : Keeps b s t :=
  ⟨h.1, fun x hx => h.2 x fun hxa => hx (hab x hxa)⟩

theorem keeps_trans {a : List Block} {s t u : State} (h : Keeps a s t) (k : Keeps a t u) : Keeps a s u :=
  ⟨k.1.trans h.1, fun b hb => sameBlock_trans (h.2 b hb) (k.2 b hb)⟩

theorem keeps_raise (n : Notice) (s : State) : Keeps [] s (raise n s) :=
  ⟨rfl, fun b _ => by cases b <;> simp [SameBlock]⟩

theorem keeps_driveAttn (s : State) : Keeps [] s (driveAttn s) := ⟨rfl, fun b _ => by cases b <;> simp [SameBlock]⟩

/-! ### The end of a step -/

@[simp] theorem evalZone_entry (s : State) (z : Zone) : (evalZone s z).entry = z.entry := rfl

theorem keeps_evalLimits (s : State) : Keeps [] s (evalLimits s) :=
  ⟨rfl, fun b _ => by cases b <;> simp [SameBlock, evalLimits]⟩

theorem keeps_evalZones (s : State) : Keeps [] s (evalZones s) := by
  refine ⟨by simp, fun b _ => ?_⟩
  cases b <;> simp [SameBlock]
  unfold evalZones; simp only
  split <;> simp [List.map_map, Function.comp_def]

theorem keeps_evalTruckCheck (s : State) : Keeps [] s (evalTruckCheck s) :=
  ⟨by simp, fun b _ => by cases b <;> simp [SameBlock]⟩

theorem keeps_driveOutputs (s : State) : Keeps [] s (driveOutputs s) := by
  refine ⟨by simp, fun b _ => ?_⟩
  cases b <;> simp [SameBlock]
  unfold driveOutputs; simp only
  split <;> simp

/-- The end of a step keeps every block; only what is evaluated changes. -/
theorem keeps_settle (s : State) : Keeps [] s (settle s) :=
  keeps_trans (keeps_evalLimits s) (keeps_trans (keeps_evalZones _) (keeps_trans (keeps_evalTruckCheck _)
    (keeps_trans (keeps_driveOutputs _) (keeps_driveAttn _))))

theorem raisesOnly_evalZones (s : State) : RaisesOnly [.zoneInside] s (evalZones s) := by
  unfold evalZones; simp only
  split
  · exact raise_raisesOnly _ _
  · exact raisesOnly_of_eq rfl

theorem raisesOnly_evalTruckCheck (s : State) : RaisesOnly [.loadLimit] s (evalTruckCheck s) := by
  unfold evalTruckCheck; simp only
  split
  · exact raise_raisesOnly _ _
  · exact raisesOnly_of_eq rfl

/-- The end of a step raises ZONE_INSIDE and LOAD_LIMIT at most. -/
theorem raisesOnly_settle (s : State) : RaisesOnly evaluationNotices s (settle s) := by
  have h1 : RaisesOnly [] s (evalLimits s) := raisesOnly_of_eq (by simp [evalLimits])
  have h2 := raisesOnly_trans h1 (raisesOnly_evalZones (evalLimits s))
  have h3 := raisesOnly_trans h2 (raisesOnly_evalTruckCheck (evalZones (evalLimits s)))
  have h4 : RaisesOnly [] _ (driveOutputs (evalTruckCheck (evalZones (evalLimits s)))) :=
    raisesOnly_of_eq (driveOutputs_notices _)
  have h5 : RaisesOnly [] _ (driveAttn (driveOutputs (evalTruckCheck (evalZones (evalLimits s))))) :=
    ⟨onlySets_refl _ _, onlySets_refl _ _, rfl, rfl, rfl⟩
  exact raisesOnly_mono (by simp [evaluationNotices]) (raisesOnly_trans h3 (raisesOnly_trans h4 h5))

/-- What a level depends on: not the outputs, their trace or the notices. -/
theorem levelsOf_congr {s t : State} (h1 : t.clock = s.clock) (h2 : t.cfg = s.cfg) (h3 : t.pos = s.pos)
    (h4 : t.weigh = s.weigh) (h5 : t.link = s.link) (h6 : t.table = s.table) (h7 : t.map = s.map)
    (h8 : t.tracker = s.tracker) (h9 : t.trucks = s.trucks) (h10 : t.perm.zones = s.perm.zones)
    (h11 : t.perm.limits = s.perm.limits) (h12 : t.perm.switches = s.perm.switches) : levelsOf t = levelsOf s := by
  obtain ⟨c1, c2, c3, c4, c5, c6, ⟨z, sw, li, hn, hp, hs, ou, tr⟩, c8, c9, c10, c11, c12, c13, c14⟩ := s
  obtain ⟨d1, d2, d3, d4, d5, d6, ⟨z', sw', li', hn', hp', hs', ou', tr'⟩, d8, d9, d10, d11, d12, d13, d14⟩ := t
  simp only at h1 h2 h3 h4 h5 h6 h7 h8 h9 h10 h11 h12
  subst h1 h2 h3 h4 h5 h6 h7 h8 h9 h10 h11 h12
  rfl

/-- After the outputs are driven they are at the levels of the offers (R74). -/
theorem driveOutputs_outputs (s : State) : (driveOutputs s).perm.outputs = levelsOf (driveOutputs s) := by
  have : levelsOf (driveOutputs s) = levelsOf s := by
    unfold driveOutputs; simp only
    split
    · rfl
    · exact levelsOf_congr rfl rfl rfl rfl rfl rfl rfl rfl rfl rfl rfl rfl
  rw [this]
  unfold driveOutputs; simp only
  split
  · rename_i h; exact h.symm
  · rfl

theorem attnLevel_congr {s t : State} (h1 : t.clock = s.clock) (h2 : t.notices.global = s.notices.global)
    (h3 : t.notices.groups = s.notices.groups) (h4 : t.notices.groupEnable = s.notices.groupEnable) :
    attnLevel t = attnLevel s := by simp [attnLevel, h1, h2, h3, h4]

theorem driveAttn_attn (s : State) : (driveAttn s).notices.attn = attnLevel (driveAttn s) := rfl

theorem levelsOf_driveAttn (s : State) : levelsOf (driveAttn s) = levelsOf s :=
  levelsOf_congr rfl rfl rfl rfl rfl rfl rfl rfl rfl rfl rfl rfl

theorem levelsOf_withPort (p : Port) (s : State) : levelsOf (s.withPort p) = levelsOf s :=
  levelsOf_congr rfl rfl rfl rfl rfl rfl rfl rfl rfl rfl rfl rfl

/-- After the end of a step the outputs follow. -/
theorem outputsFollow_settle (s : State) : OutputsFollow (settle s) := by
  constructor
  · rw [settle, driveAttn_perm, levelsOf_driveAttn, driveOutputs_outputs]
  · rw [settle]; exact driveAttn_attn _

/-- The frame of a step is the frame of its body. -/
theorem acts_settle {touched : List Block} {must may : List Notice} {s b : State} (h : Keeps touched s b)
    (n : Notices must may s b) : Acts touched must may s (settle b) := by
  refine ⟨keeps_trans h (keeps_mono (by simp) (keeps_settle b)), ?_, outputsFollow_settle b⟩
  have := notices_trans n (⟨by simp, by simpa using raisesOnly_settle b⟩ : Notices [] evaluationNotices b (settle b))
  simpa using this

/-- The outputs do not depend on the port. -/
theorem outputsFollow_withPort {s : State} (p : Port) (h : OutputsFollow s) : OutputsFollow (s.withPort p) :=
   ⟨by rw [State.withPort_perm, levelsOf_withPort, h.1], h.2⟩

theorem keeps_withPort (p : Port) (s : State) : Keeps [.port] s (s.withPort p) :=
  ⟨rfl, fun b hb => by cases b <;> simp_all [SameBlock]⟩

/-- The frame of an accepted request is the frame of its body. -/
theorem accepts_settle {touched : List Block} {must may : List Notice} {payload : List Byte} {s b : State}
    (h : Keeps touched s b) (n : Notices must may s b) (hp : b.port = s.port) :
    Accepts touched must may payload s (respond (.okWith payload) (settle b)) := by
  obtain ⟨k, m, o⟩ := acts_settle h n
  refine ⟨⟨?_, ?_, outputsFollow_withPort _ o⟩, ?_⟩
  · exact keeps_trans (keeps_mono (by simp_all) k) (keeps_mono (by simp) (keeps_withPort _ _))
  · exact m
  · simp [respond, hp]

end Sys2Proof.Machine
end

