-- ==== Sys2Proof/Tests/Slice0.lean ====
section
/-! SUPPORT. Tests of the model. Expected results come from the manual's worked cases and tables, or from its rules worked
out by hand. A theorem named `witness_<Name>` shows a state and operands that meet the hypotheses of the claim `<Name>`,
and what comes of them at the bounds of its cases. -/

namespace Sys2Proof.Tests

open Sys2Proof Sys2Proof.Machine

set_option maxRecDepth 8000

/-! ### Helpers -/

/-- The state after a command. -/
def after (c : Instr) (s : State) : State :=
  match exec c s with
  | .next t => t
  | _ => .reset

/-- The reply held after a command. -/
def replyOf (c : Instr) (s : State) : Option Reply := (after c s).port.reply

/-- A command is refused with a status. -/
def refuses (c : Instr) (st : Status) (s : State) : Bool := replyOf c s == some (.err st)

/-- A command is answered with OK. -/
def accepts (c : Instr) (s : State) : Bool := (replyOf c s).any fun r => r.status == .ok

/-- An occupied slot. -/
def coilIn (n w k : Nat) : SlotRecord :=
  { content := .occupied { coil := BitVec.ofNat 32 n, weight := some w, width := some k }, source := .crane }

/-- An empty slot. -/
def emptySlot : SlotRecord := { content := .empty, source := .crane }

/-- The row of the worked case of section 6.8, and a second row of empty slots that stands for its row 7. -/
def yardMap : List SlotRecord :=
  [coilIn 1001 1800 3, coilIn 1004 1500 3, coilIn 1002 2000 4, emptySlot, coilIn 1003 1900 3,
   emptySlot, emptySlot, emptySlot, emptySlot, emptySlot]

/-- Two rows of three lower positions. -/
def yardGeometry : Geometry :=
  { rows := 2, lower := 3, rowBase := 5000, rowPitch := 3200, posBase := 1800, posPitch := 2400 }

/-- The peer's report of the worked gap cases (section 5.6). -/
def report : Report :=
  { bridgePos := 58000, bridgeSpeed := -300, plusExtent := 6000, minusExtent := 5500, trolleyPos := 0, hookHeight := 0,
    load := .unloaded, posState := .valid, summary := .idle, stableNet := none }

/-- An entry with that report. -/
def entry (id age : Nat) (st : EntryState) : Entry :=
  { id := id, state := st, age := age, report := report, foreign := false, heldPlus := .full, heldMinus := .full }

/-- Station 6 in ACTIVE, with stations 3 and 5 in its table, a trailer place in each bay and the map above. -/
def yard : State :=
  let bay : BayItem := { kingpin := 20000, line := 30000, orientation := .plus }
  let s := State.reset.withCfg { Cfg.reset with
    stationId := some 6, geometry := some yardGeometry, bay0 := some bay, bay1 := some bay }
  let s := s.withLink { Link.reset with state := .active }
  { s.withTable { NeighbourTable.reset with entries := [entry 3 0 .fresh, entry 5 0 .fresh] } with map := yardMap }

/-- The station in CONFIG. -/
def atConfig : State := yard.withLink { Link.reset with state := .config }

/-- The link of the yard changed. -/
def withLinkOf (f : Link → Link) : State := yard.withLink (f yard.link)

/-- A task of the yard: coil 1004 from slot (0, 1) to slot (0, 3). -/
def task (st : TaskState) : Task :=
  { id := 7, kind := .move, sourceRow := 0, sourceColumn := 1, target := some (.slot 0 3), coil := 1004,
    weight := some 1500, width := some 3, priority := 4, state := st, measured := some 1510, reason := none, round := 40,
    waiting := none }

/-- A reservation of the station, or of a peer, under round 40. -/
def resv (h : Holder) (p : Phase) : Reservation := { holder := h, round := 40, priority := 4, phase := p, since := 0 }

/-- The map with the task's two slots reserved. -/
def reservedMap (v : Reservation) : List SlotRecord :=
  (yardMap.set 1 { content := .reservedOut { coil := 1004, weight := some 1500, width := some 3 } v, source := .own }).set 3
    { content := .reservedIn v, source := .own }

/-- The yard with the task in a state, both slots HELD, and the hook over the source. -/
def withTask (st : TaskState) : State :=
  let s := { yard with map := reservedMap (resv .own .held) }
  let s := s.withTracker { task := some (task st), hook := some { coil := none, weight := 1510, width := none, origin := .task } }
  s.withPos { s.pos with
    bridge := { s.pos.bridge with current := 5000, state := .valid }
    trolley := { s.pos.trolley with current := 3000, state := .valid } }

/-- The yard with the task in CLAIMING, its reservations PENDING and its round OPEN. -/
def withRound : State :=
  let s := { yard with map := reservedMap (resv .own .pending) }
  (s.withTracker { task := some (task .claiming), hook := none }).withClaims
    { counter := 40
      round := some { number := 40, purpose := .start, priority := 4,
                      entries := [{ ref := .slot 0 1, dir := .outward 1004 }, { ref := .slot 0 3, dir := .inward }],
                      stage := .opened, windowTime := 300 }
      heldRequests := [] }

/-- The trailer of the worked loading case (section 9.10), announced in bay 0. -/
def trailer : Trailer := { L := 9000, K0 := 520, A0 := 680, Kmax := 1500, Amax := 2400, Gmax := 3800, Kmin := 600 }

/-- The yard with a trailer LOADING in bay 0, its second cradle occupied. -/
def withTruck : State :=
  let record : Truck :=
      { closed := false, truckRef := 77, announcer := 5, orientation := .plus, trailer := trailer
        cradles := [{ offset := 2000, content := .free }, { offset := 5400, content := .occupied 9 2150 .own }]
        K := 1380, A := 1970, overLimit := false }
  { yard with trucks := { TruckUnit.reset with bay0 := some record } }

/-- A status that passes R42. -/
def goodStatus : StatusReport := { report := report, signature := 0 }

/-! ### Well-formed commands: an ill-formed term for each check -/

/-- R42: the sender of a frame, and the fields of a STATUS. -/
theorem test_wellFormed_status :
    WellFormed (.statusReceived 3 goodStatus) = true ∧ WellFormed (.statusReceived 0 goodStatus) = false ∧
    WellFormed (.farewellReceived 31 goodStatus) = false ∧
    WellFormed (.statusReceived 3 { goodStatus with signature := 65536 }) = false ∧
    WellFormed (.statusReceived 3 { goodStatus with report := { report with bridgePos := 400001 } }) = false ∧
    WellFormed (.statusReceived 3 { goodStatus with report := { report with stableNet := some 32768 } }) = false ∧
    WellFormed (.statusReceived 3 { goodStatus with report := { report with stableNet := some (-32769) } }) = false := by
  decide

/-- R42: the frames of claims and bookings. -/
theorem test_wellFormed_claims :
    WellFormed (.claimReceived 3 1 7 [{ ref := .slot 0 1, dir := .inward }]) = true ∧
    WellFormed (.claimReceived 3 256 7 [{ ref := .slot 0 1, dir := .inward }]) = false ∧
    WellFormed (.claimReceived 3 1 8 [{ ref := .slot 0 1, dir := .inward }]) = false ∧
    WellFormed (.claimReceived 3 1 7 []) = false ∧
    WellFormed (.claimReceived 3 1 7 [{ ref := .slot 0 1, dir := .inward }, { ref := .slot 0 1, dir := .inward }]) = false ∧
    WellFormed (.claimReceived 3 1 7 [{ ref := .cradle 0 0, dir := .outward 5 }]) = false ∧
    WellFormed (.objectReceived 3 256 1 (.slot 0 0)) = false ∧ WellFormed (.objectReceived 3 6 256 (.slot 0 0)) = false ∧
    WellFormed (.objectReceived 3 6 1 (.cradle 2 0)) = false ∧
    WellFormed (.releaseReceived 3 1 []) = false ∧ WellFormed (.releaseReceived 3 256 [.slot 0 0]) = false ∧
    WellFormed (.pickedReceived 3 1 (.cradle 0 0) 5) = false ∧ WellFormed (.pickedReceived 3 256 (.slot 0 0) 5) = false ∧
    WellFormed (.placedReceived 3 1 (.slot 0 0) 5 12001 none) = false ∧
    WellFormed (.placedReceived 3 1 (.slot 0 0) 5 12000 (some 8)) = false ∧
    WellFormed (.placedReceived 3 256 (.slot 0 0) 5 12000 (some 7)) = false := by decide

/-- R42: the TRUCK frames, and the references and identifiers of the internal steps. -/
theorem test_wellFormed_trucks :
    WellFormed (.truckArriveReceived 3 1 77 .plus trailer [0]) = true ∧
    WellFormed (.truckArriveReceived 3 2 77 .plus trailer [0]) = true ∧
    WellFormed (.truckArriveReceived 3 256 77 .plus trailer [0]) = false ∧
    WellFormed (.truckArriveReceived 3 1 65536 .plus trailer [0]) = false ∧
    WellFormed (.truckArriveReceived 3 1 77 .plus trailer []) = false ∧
    WellFormed (.truckArriveReceived 3 1 77 .plus trailer [65536]) = false ∧
    WellFormed (.truckArriveReceived 3 1 77 .plus { trailer with Kmin := 65536 } [0]) = false ∧
    WellFormed (.truckCloseReceived 3 256 77) = false ∧ WellFormed (.truckDepartReceived 3 1 65536) = false ∧
    WellFormed (.peerReservationHeld (.cradle 2 0)) = false ∧ WellFormed (.entryStale 0) = false ∧
    WellFormed (.neighbourLost 31) = false := by decide

/-- Section 10.2: the fields of the requests. -/
theorem test_wellFormed_requests :
    WellFormed (.cfgWrite 256 []) = false ∧ WellFormed (.cfgWrite 4 [256 ^ 4]) = false ∧
    WellFormed (.cfgWriteStationId 256) = false ∧ WellFormed (.cfgWriteBeat (256 ^ 4)) = false ∧
    WellFormed (.cfgWriteGeometry { yardGeometry with rows := 256 }) = false ∧
    WellFormed (.cfgWriteWeighing .tare 65536) = false ∧ WellFormed (.cfgWriteBay 2 0 0 0) = false ∧
    WellFormed (.cfgWriteBay 0 (256 ^ 4) 0 0) = false ∧ WellFormed (.cfgRead 256) = false ∧
    WellFormed (.zoneWrite 256 ⟨1, 0, 0, 0, 0, 0, 0, 0, 0⟩) = false ∧
    WellFormed (.zoneWrite 0 ⟨1, 0, 0, 0, 65536, 0, 0, 0, 0⟩) = false ∧
    WellFormed (.posReference 256 0) = false ∧ WellFormed (.posReference 0 (256 ^ 4)) = false ∧
    WellFormed (.mapWrite (.slot 256 0) 1 none none none) = false ∧
    WellFormed (.mapWrite (.slot 0 0) 256 none none none) = false ∧
    WellFormed (.mapWrite (.slot 0 0) 1 none (some 65536) none) = false ∧
    WellFormed (.mapWrite (.slot 0 0) 1 none none (some 256)) = false ∧ WellFormed (.mapRead (.cradle 0 256)) = false ∧
    WellFormed (.taskStart 65536 0 (.slot 0 0) (.slot 0 1) 5 0) = false ∧
    WellFormed (.taskStart 1 256 (.slot 0 0) (.slot 0 1) 5 0) = false ∧
    WellFormed (.taskStart 1 0 (.slot 0 0) (.slot 0 1) 5 256) = false ∧ WellFormed (.taskRetarget (.slot 0 256)) = false ∧
    WellFormed (.truckArrive 0 65536 0 trailer [0]) = false ∧ WellFormed (.truckArrive 0 1 256 trailer [0]) = false ∧
    WellFormed (.truckClose 256) = false ∧ WellFormed (.truckDepart 256) = false ∧ WellFormed (.truckRead 256) = false ∧
    WellFormed (.neighbourRead 256) = false ∧ WellFormed (.neighbourDrop 256) = false ∧
    WellFormed (.noticeEnable 0 0 256) = false := by decide

/-! ### Position (chapter 1) -/

/-- The bridge of the worked referencing (section 1.6), with its captured count. -/
def marked (count : Nat) (offset current previous : Int) (st : PosState) (r : Option Int) : State :=
  let s := yard.withCfg { yard.cfg with scaleBridge := 500, marksBridge := [20000, 150000, 330000] }
  s.withPos { s.pos with bridge :=
    { s.pos.bridge with counter := BitVec.ofNat 32 count, offset := offset, current := current, previous := previous
                        state := st, remembered := r } }

/-- The bridge after the mark edge. -/
def markedBridge (s : State) : Int × PosState × Option Int × Int × Int :=
  let u := (after (.markEdge .bridge) s).pos.bridge
  (u.offset, u.state, u.remembered, u.current, u.previous)

/-- The three flags of the table of section 1.6: refused, confirming, accepted. -/
theorem witness_MarkEdgeCorrectsOrDoubts :
    Running (marked 240000 0 120000 120000 .unreferenced none) ∧
    (marksOf (marked 0 0 0 0 .valid none).cfg .bridge = [20000, 150000, 330000] ∧ marksOf yard.cfg .bridge = []) ∧
    markedBridge (marked 240000 0 120000 120000 .unreferenced none) = (0, .suspect, some 30000, 120000, 120000) ∧
    markedBridge (marked 599976 0 299960 299942 .suspect (some 30000)) = (30012, .valid, none, 329972, 329954) ∧
    markedBridge (marked 240010 30012 150017 150017 .valid none) = (29995, .valid, none, 150000, 150000) := by decide

/-- R8: an error of exactly the tolerance is accepted, one more is not. -/
theorem test_markEdge_tolerance :
    (markedBridge (marked 299900 0 0 0 .valid none)).2.1 = .valid ∧
    (markedBridge (marked 299898 0 0 0 .valid none)).2.1 = .suspect := by decide

/-- The sample after the second flag: 330,018 at 2,300 mm/s, no jump (section 1.6). -/
theorem witness_PositionSampleTakesPositions :
    let s := marked 600012 30012 329972 329954 .valid none
    let u := (after .positionSample s).pos.bridge
    Running s ∧ u.current = 330018 ∧ u.previous = 329972 ∧ u.speed = 2300 ∧ u.state = .valid := by decide

/-- R5, section 1.9: a change of 95 mm is a jump at vmax 1,500; a change of 60 mm (60 × 25 = 1,500) is none. -/
theorem test_positionSample_jump :
    let u := (after .positionSample (marked 420990 0 210400 210380 .valid none)).pos.bridge
    (u.current, u.speed, u.state) = (210495, 4750, .suspect) ∧
    (after .positionSample (marked 420920 0 210400 210380 .valid none)).pos.bridge.state = .valid := by decide

/-- R1: one line counts one, up or down with wrap; both lines together are an encoder fault. -/
theorem witness_EncoderTransitionCounts :
    Running yard ∧ (after (.encoderTransition .bridge true false) yard).pos.bridge.counter = 1 ∧
    (after (.encoderTransition .trolley false true) yard).pos.trolley.counter = 0xFFFFFFFF ∧
    (after (.encoderTransition .hoist true true) yard).pos.hoist.state = .suspect ∧
    (after (.encoderTransition .hoist true true) yard).notices.sources = BitVec.ofNat 32 (2 ^ Notice.posSuspect.bit) := by
  decide

/-- R11, R12: the checks of POS_REFERENCE at their bounds, and its effect. -/
theorem witness_PosReferenceSetsAxis :
    Running yard ∧ refuses (.posReference 3 0) .badArg yard = true ∧ refuses (.posReference 1 60001) .badArg yard = true ∧
    accepts (.posReference 1 60000) yard = true ∧ refuses (.posReference 0 0) .moving (marked 0 0 5 4 .valid none) = true ∧
    (after (.posReference 0 31000) (marked 3 0 5 5 .suspect (some 9))).pos.bridge.offset = 30999 ∧
    (after (.posReference 2 40000) yard).pos.hoist.state = .valid := by decide

/-! ### Weighing (chapter 2) -/

/-- The window table of R18. -/
theorem test_windowBase :
    ([0, 63, 64, 95, 96, 600, 991, 1023].map fun c => windowBase (coarseValue c)) = [0, 0, 0, 0, 1, 8, 14, 14] := by decide

/-- The worked weighing case and its fast lift and scale ends (section 2.10). -/
theorem test_channelValue :
    channelValue (coarseCode 9601) 9601 = 9600 ∧ channelWeight 9600 2000 = 1172 ∧
    channelValue (coarseCode 9486) 9486 = 9486 ∧ channelWeight 9486 2000 = 1158 ∧
    channelValue (coarseCode 9601) 10300 = 9608 ∧ channelWeight 9608 2000 = 1173 ∧
    channelValue (coarseCode 16300) 16300 = 16300 ∧ channelValue (coarseCode 16383) 16383 = 16376 ∧
    channelValue (coarseCode 700) 700 = 700 := by decide

/-- The table of R24: means rounded to the nearest whole unit, toward minus infinity for a negative sum. -/
theorem test_windowMean :
    windowMean [2, 1, 2, 3, 2, 2, 1, 2] = 2 ∧ windowMean [-3, -2, -3, -2, -2, -3, -2, -2] = -2 ∧
    windowMean [2150, 2150, 2151, 2151, 2150, 2150, 2151, 2151] = 2151 := by decide

/-- The yard with a tare, a load state and a window. -/
def weighed (load : LoadState) (window : List Int) (s : State) : State :=
  let s := s.withCfg { s.cfg with tare := 180 }
  s.withWeigh { s.weigh with load := load, window := window }

/-- Section 2.10: gross 2,330, net 2,150, stable where seven equal nets stand before it. -/
theorem witness_WeighingCycleMeasures :
    let s := weighed .unloaded (List.replicate 7 2150) yard
    let w := (after (.weighingCycle 9601 9601 9486 9486) s).weigh
    Running s ∧ w.gross = 2330 ∧ w.net = some 2150 ∧ w.stableNet = some 2150 ∧ w.window.length = 8 ∧
    (after (.weighingCycle 9601 9601 9486 9486) (weighed .unloaded (List.replicate 6 2150) yard)).weigh.stableNet = none := by
  decide

/-- R25, R26, R28, R29, R30: the thresholds and runs at their bounds. -/
theorem witness_WeighingCycleJudges :
    let s := weighed .unloaded (List.replicate 7 2150) yard
    let held (n : Nat) : State := s.withWeigh { s.weigh with a := { Channel.reset with railRun := n } }
    let slackAt (n : Nat) : State := s.withWeigh { s.weigh with slack := { Condition.reset with setRun := n } }
    Running s ∧ (after (.weighingCycle 9601 9601 9486 9486) s).weigh.load = .loaded ∧
    (after (.weighingCycle 9601 9601 9486 9486)
      (s.withCfg { s.cfg with liftThreshold := 2151 })).weigh.load = .unloaded ∧
    (after (.weighingCycle 5 5 9486 9486) (held 4)).weigh.a.fault = true ∧
    (after (.weighingCycle 5 5 9486 9486) (held 3)).weigh.a.fault = false ∧
    (after (.weighingCycle 5 5 5 5) (slackAt 2)).weigh.slack.set = true ∧
    (after (.weighingCycle 5 5 5 5) (slackAt 1)).weigh.slack.set = false := by decide

/-- R32: ZERO_SET in UNLOADED with a stable net moves the nets and the tare; else NOT_STABLE. -/
theorem witness_ZeroSetTakesStableGross :
    let s := weighed .unloaded (List.replicate 8 7) yard
    let stable := s.withWeigh { s.weigh with stableNet := some 7, lastStable := some 7 }
    Running stable ∧ replyOf .zeroSet stable = some (.okWith [0, 187]) ∧
    (after .zeroSet stable).weigh.stableNet = some 0 ∧ (after .zeroSet stable).cfg.tare = 187 ∧
    refuses .zeroSet .notStable s = true ∧
    refuses .zeroSet .notStable (stable.withWeigh { stable.weigh with load := .loaded }) = true := by decide

/-- A cycle of the worked weights before the task. -/
def lifts (s : State) : State := after (.weighingCycle 9601 9601 9486 9486) (weighed .unloaded (List.replicate 7 2150) s)

/-- A cycle that finds the hook empty. -/
def lands (s : State) : State := after (.weighingCycle 746 746 746 746) (weighed .loaded (List.replicate 7 2) s)

/-- R154, R155, R162, R164: a LIFT with no task, in TO_SOURCE over the source, and in CLAIMING. -/
theorem witness_LiftIsJudgedByTask :
    Running (weighed .unloaded (List.replicate 7 2150) (withTask .toSource)) ∧ (lifts (withTask .toSource)).weigh.load = .loaded ∧
    (lifts yard).tracker.hook = some { coil := none, weight := 2150, width := none, origin := .unknown } ∧
    (lifts (withTask .toSource)).tracker.task.map Task.state = some .verifyHold ∧
    contentAt (lifts (withTask .toSource)) 0 1 = .reservedIn (resv .own .held) ∧
    (lifts (withTask .claiming)).tracker.task.map Task.reason = some (some .earlyLift) := by decide

/-- The yard with the task in a state and the hook over the target. -/
def overTarget (st : TaskState) : State :=
  let s := withTask st
  s.withPos { s.pos with trolley := { s.pos.trolley with current := 5400, state := .valid } }

/-- R158 to R160, R163: a SET_DOWN at the target, at the source and elsewhere. -/
theorem witness_SetDownIsJudgedByTask :
    Running (weighed .loaded (List.replicate 7 2) (overTarget .toTarget)) ∧
    (lands (overTarget .toTarget)).weigh.load = .unloaded ∧
    (lands (overTarget .toTarget)).tracker = { task := some { task .toTarget with state := .done }, hook := none } ∧
    contentAt (lands (overTarget .toTarget)) 0 3 =
      .occupied { coil := 1004, weight := some 1510, width := some 3 } ∧
    (lands (withTask .returning)).tracker.task.map Task.reason = some (some .returned) ∧
    (lands (overTarget .liftPending)).tracker.task.map Task.reason = some (some .wrongSetdown) := by decide

/-! ### The yard line (chapter 3) -/

/-- The table of R43. -/
theorem test_signature :
    signatureOf { rows := 12, lower := 10, rowPitch := 3200, posPitch := 2400, rowBase := 5000, posBase := 1800 } = 24770 ∧
    signatureOf { rows := 32, lower := 16, rowPitch := 12000, posPitch := 3500, rowBase := 20000, posBase := 2000 } = 4556 := by
  decide

/-- R39, R40, R45: the mailbox with the lowest class is offered; a withdrawn CLAIM leaves with a lost attempt. -/
theorem witness_AttemptsStartAndLose :
    let boxes := { Mailboxes.reset with
      claim := some { round := 1, priority := 0, entries := [] }, book := some (.picked 1 (.slot 0 0) 5) }
    let s := withLinkOf fun l => { l with boxes := boxes }
    let lost := withLinkOf fun l =>
      { l with boxes := boxes, sending := some .claim, withdrawal := some { round := 1, refs := [.slot 0 0] } }
    Running s ∧ (after .frameStart s).link.sending = some .claim ∧
    (after .frameStart (s.withLink { s.link with state := .listen })).link.sending = none ∧
    (after .arbitrationLost lost).link.boxes.claim = none ∧ (after .arbitrationLost lost).link.sending = none := by decide

/-- R50, R57: 88 goes to 96 and enters MUTED, 87 to 95 and does not. -/
theorem witness_TransmitErrorCountsAndMutes :
    let s (n : Nat) := withLinkOf fun l => { l with sending := some .status, txErr := n }
    Running (s 88) ∧ (after .transmitError (s 88)).link.state = .muted ∧ (after .transmitError (s 88)).link.txErr = 96 ∧
    (after .transmitError (s 87)).link.state = .active ∧ (after .transmitError (s 87)).link.txErr = 95 := by decide

/-- R51, R53: LINK_NOISY at the rise from 8 to 9, the count stops at 255; the own identifier in LISTEN and in HALTED. -/
theorem witness_ReceiveErrorsAndClashes :
    let s (n : Nat) := withLinkOf fun l => { l with rxErr := n }
    let noisy : BitVec 32 := BitVec.ofNat 32 (2 ^ Notice.linkNoisy.bit)
    Running (s 8) ∧ (after .receiveError (s 8)).notices.sources = noisy ∧ (after .receiveError (s 9)).notices.sources = 0 ∧
    (after .receiveError (s 255)).link.rxErr = 255 ∧
    (after .ownIdentifierFrame (withLinkOf fun l => { l with state := .listen })).link.state = .idclash ∧
    (after .ownIdentifierFrame (withLinkOf fun l => { l with state := .halted })).link.state = .halted := by decide

/-- R50, R51: a line fault while sending and while receiving. -/
theorem witness_LineFaultEndsTraffic :
    let sending := withLinkOf fun l => { l with sending := some .book, txErr := 96 }
    Running yard ∧ (after (.lineFault true false) sending).link.txErr = 96 ∧
    (after (.lineFault true false) sending).link.state = .muted ∧ (after (.lineFault true true) yard).link.rxErr = 1 ∧
    (after (.lineFault true false) yard).link.rxErr = 0 ∧ (after (.lineFault false true) sending).link.sending = some .book := by
  decide

/-- R41, R56, R134: a CLAIM sent opens its round; a farewell sent enters HALTED. -/
theorem witness_FrameSentEmptiesItsMailbox :
    let claim := withRound.withLink { withRound.link with
      sending := some .claim, txErr := 3, boxes := { Mailboxes.reset with claim := some ⟨40, 4, []⟩ } }
    let farewell := withLinkOf fun l =>
      { l with sending := some .status, leaving := true,
               boxes := { Mailboxes.reset with status := some { status := goodStatus, farewell := true } } }
    Running claim ∧ ((after .frameSent claim).claims.round.map fun r => (r.stage, r.windowTime)) = some (.opened, 0) ∧
    (after .frameSent claim).link.txErr = 2 ∧ (after .frameSent claim).link.boxes.claim = none ∧
    Running farewell ∧ (after .frameSent farewell).link.state = .halted := by decide

/-- R55, R57: the tenth beat of LISTEN and the twentieth of MUTED, and the beats before them. -/
theorem witness_BeatExpiryByLinkState :
    let listen (n : Nat) := withLinkOf fun l => { l with state := .listen, beats := n }
    let muted (n : Nat) := withLinkOf fun l => { l with state := .muted, beats := n, txErr := 96 }
    Running (listen 9) ∧ (after .beatExpiry (listen 9)).link.state = .active ∧
    (after .beatExpiry (listen 9)).link.boxes.status.isSome = true ∧ (after .beatExpiry (listen 8)).link.state = .listen ∧
    (after .beatExpiry (muted 19)).link.state = .listen ∧ (after .beatExpiry (muted 19)).link.txErr = 0 ∧
    (after .beatExpiry (muted 18)).link.state = .muted := by decide

/-- R44, R56: a composition put off, and the farewell once the mailboxes are empty. -/
theorem witness_StatusComposedWhenDue :
    let off := withLinkOf fun l => { l with statusDeferred := true }
    let leaving := withLinkOf fun l => { l with leaving := true }
    Running off ∧ ((after .deferredStatusCompose off).link.boxes.status.map StatusFrame.farewell) = some false ∧
    ((after .farewellCompose leaving).link.boxes.status.map StatusFrame.farewell) = some true ∧
    (after .farewellCompose yard).link.boxes.status = none := by decide

/-- R55, R56: JOIN in CONFIG, in HALTED and in ACTIVE; LEAVE in ACTIVE, in LISTEN, with a task, and in CONFIG. -/
theorem witness_JoinAndLeaveByLinkState :
    let at_ (st : LinkState) := withLinkOf fun l => { l with state := st }
    Running atConfig ∧ (after .join atConfig).link.state = .listen ∧
    (after .join atConfig).link.signature = 2 * 1000 + 3 * 37 + 3200 + 2400 + 5000 + 1800 ∧
    (after .join (at_ .halted)).link.state = .listen ∧ refuses .join .badState yard = true ∧
    refuses .join .badState State.reset = true ∧
    (after .leave yard).link.leaving = true ∧ (after .leave (at_ .listen)).link.state = .config ∧
    refuses .leave .busy (withTask .toSource) = true ∧ refuses .leave .badState atConfig = true := by decide

/-- R42, R52, R53: a frame in CONFIG, a malformed one, one with the own identifier, and one of a foreign sender. -/
theorem witness_FramesKeptFromTheirOwners :
    let c (sender priority : Nat) := Instr.claimReceived sender 1 priority [{ ref := .slot 0 3, dir := .inward }]
    let foreign := yard.withTable { yard.table with entries := [{ entry 3 0 .fresh with foreign := true }] }
    Running yard ∧ frameParts (c 3 8) = some (3, false, true) ∧ frameParts (c 6 7) = some (6, true, true) ∧
    (after (c 3 7) atConfig).link = atConfig.link ∧ (after (c 3 8) yard).link.rxErr = 1 ∧
    (after (c 31 7) yard).link.rxErr = 1 ∧ (after (c 6 7) yard).link.state = .idclash ∧
    (after (c 3 7) foreign).map = foreign.map := by decide

/-- R46, R48, R145: RELEASE requests merged and held, OBJECT requests queued and dropped, and a retry. -/
theorem witness_MailboxesTakeReleasesAndObjects :
    let r (n col : Nat) : ReleaseFrame := { round := n, refs := [.slot 0 col] }
    let o (col : Nat) : ObjectFrame := { claimant := 3, round := 1, ref := .slot 0 col }
    let full := withLinkOf fun l => { l with boxes := { Mailboxes.reset with release := some (r 1 0), objects := [o 0, o 1] } }
    let waiting := yard.withClaims { yard.claims with heldRequests := [r 1 0, r 1 1, r 2 2] }
    (askRelease (r 1 1) full).link.boxes.release = some { round := 1, refs := [.slot 0 0, .slot 0 1] } ∧
    (askRelease (r 2 1) full).claims.heldRequests = [r 2 1] ∧ askObject (o 1) full = full ∧
    (askObject (o 2) full).link = full.link ∧ (askObject (o 2) yard).link.boxes.objects = [o 2] ∧
    Running waiting ∧
    (after .releaseRequestRetry waiting).link.boxes.release = some { round := 1, refs := [.slot 0 0, .slot 0 1] } ∧
    (after .releaseRequestRetry waiting).claims.heldRequests = [r 2 2] := by decide

/-! ### The neighbour table (chapter 4) -/

/-- R61 to R63, R68: a refresh, a new entry, a foreign report and a full table. -/
theorem witness_StatusReceivedFeedsTheTable :
    let c (sender signature : Nat) := Instr.statusReceived sender { goodStatus with signature := signature }
    let full := yard.withTable { yard.table with
      entries := [7, 8, 9, 10, 11, 12, 13, 14, 15, 16, 17, 18].map fun i => entry i 5 .fresh }
    Running yard ∧ frameParts (c 3 0) = some (3, true, false) ∧ senderOk 3 = true ∧ (3 : Nat) ≠ ownId yard ∧
    yard.link.state ≠ .config ∧ (after (c 3 1) yard).table.entries.map Entry.foreign = [true, false] ∧
    (after (c 4 0) yard).table.entries.map Entry.id = [3, 4, 5] ∧
    (after (c 3 0) full).table.untracked = true ∧ (after (c 3 0) full).table.entries.length = 12 := by decide

/-- R64 to R67, R69: the ages at 3 and 10 beats of 100 ms, a farewell and NEIGHBOUR_DROP. -/
theorem witness_EntriesAgeAndLeave :
    let s (age : Nat) (st : EntryState) := yard.withTable { NeighbourTable.reset with entries := [entry 3 age st] }
    let states (t : State) := t.table.entries.map Entry.state
    let crowd (age : Nat) := yard.withTable { NeighbourTable.reset with untracked := true, untrackedAge := age }
    Running (s 301 .fresh) ∧ states (after (.entryStale 3) (s 301 .fresh)) = [.stale] ∧
    states (after (.entryStale 3) (s 300 .fresh)) = [.fresh] ∧ states (after (.neighbourLost 3) (s 1001 .stale)) = [.lost] ∧
    states (after (.neighbourLost 3) (s 1000 .stale)) = [.stale] ∧ (after .untrackedClear (crowd 1001)).table.untracked = false ∧
    (after .untrackedClear (crowd 1000)).table.untracked = true ∧
    (after (.farewellReceived 3 goodStatus) yard).table.entries.map Entry.id = [5] ∧
    (after (.neighbourDrop 3) (s 1001 .lost)).table.entries = [] ∧ refuses (.neighbourDrop 3) .notLost yard = true ∧
    refuses (.neighbourDrop 4) .notLost yard = true ∧ refuses (.neighbourDrop 0) .badArg yard = true ∧
    refuses (.neighbourDrop 31) .badArg yard = true ∧ refuses (.neighbourDrop 30) .notLost yard = true := by decide

/-! ### Motion permissions (chapter 5) -/

/-- The own crane of the gap cases (section 5.6). -/
def driving (position speed : Int) (e : Entry) : State :=
  let s := yard.withPos { yard.pos with
    bridge := { yard.pos.bridge with current := position, speed := speed, state := .valid } }
  s.withTable { s.table with entries := [e] }

/-- Cases 1 and 3 of section 5.6: the distances, the gap, the required distance and the held level. -/
theorem test_gap_cases :
    let s1 := driving 40000 900 (entry 3 60 .fresh)
    let e3 := { entry 3 350 .stale with report := { report with bridgePos := 57790 } }
    let s3 := driving 40900 400 e3
    stoppingDistance Cfg.reset 300 900 = 1710 ∧ stoppingDistance Cfg.reset 300 300 = 270 ∧
    entryGap s1 (entry 3 60 .fresh) = 6380 ∧ entryRequired s1 (entry 3 60 .fresh) = 2980 ∧
    (evalEntry s1 (entry 3 60 .fresh)).heldPlus = .full ∧
    entryGap s3 e3 = 4835 ∧ entryRequired s3 e3 = 5777 ∧ (evalEntry s3 e3).heldPlus = .stop := by decide

/-- Case 4 of section 5.6: the drift of a LOST entry and its cap. -/
theorem test_drift : drift Cfg.reset (entry 3 1001 .lost) = 1532 ∧ drift Cfg.reset (entry 3 6647 .lost) = 10000 ∧
    drift Cfg.reset (entry 3 6646 .lost) = 9999 := by decide

/-- The table of R78 at its bounds, with a required distance of 2,980. -/
theorem witness_HeldLevelFollowsTheGap :
    let f := fun h g => heldStep Cfg.reset h g 2980
    (Level.full ≠ .creep ∧ Level.slow ≠ .creep ∧ Level.stop ≠ .creep) ∧
    [f .full 2980, f .full 2981, f .full 5980, f .full 5981] = [.stop, .slow, .slow, .full] ∧
    [f .slow 2980, f .slow 5981, f .slow 6180, f .slow 6181] = [.stop, .slow, .slow, .full] ∧
    [f .stop 2981, f .stop 3180, f .stop 3181, f .stop 6180, f .stop 6181] = [.stop, .stop, .slow, .slow, .full] ∧
    Running (driving 40000 900 (entry 3 60 .fresh)) ∧
    ∃ t, exec .positionSample (driving 40000 900 (entry 3 60 .fresh)) = .next t := by
  refine ⟨?_, ?_, ?_, ?_, ?_, ⟨_, rfl⟩⟩ <;> decide

/-- R75: from CREEP to SLOW through STOP. -/
theorem test_lineSteps : (lineSteps .creep .slow).map some = [some Level.stop.lines, some Level.slow.lines] := by decide

/-- A state whose outputs and ATTN follow, with a switch zone over the hook. -/
def settled : State := settle yard

/-- The hypotheses of the claims about outputs, and a direction held by each of two contributors. -/
theorem witness_OutputIsLowestOffer : OutputsFollow settled ∧ Running settled ∧
    Evaluated State.reset ∧ ∃ t, exec .stateRead State.reset = .next t := by
  refine ⟨⟨?_, ?_⟩, ?_, ?_, _, rfl⟩ <;> first | decide | (unfold Evaluated; decide)

/-- The outputs follow in a state where the link, an untracked report and three axes hold the bridge. -/
theorem witness_ConditionsLimitMotion :
    let s := settle ((withLinkOf fun l => { l with state := .listen }).withTable { yard.table with untracked := true })
    OutputsFollow s ∧ s.table.untracked = true ∧ (axisOf s .hoistUp).state ≠ .valid ∧
    s.perm.outputs.get .bridgePlus = .stop ∧ s.perm.outputs.get .hoistUp = .creep := by
  refine ⟨⟨?_, ?_⟩, ?_⟩ <;> decide

/-- R87: the bounds of ZONE_WRITE, and ZONE_ENABLE by its change mask. -/
theorem witness_ZoneRequestsSetZonesAndSwitches :
    let z (valid kind condition number trolleyMin : Nat) : ZoneArgs :=
      { valid := valid, bridgeMin := 1, bridgeMax := 500000, trolleyMin := trolleyMin, trolleyMax := 9, kind := kind
        clearance := 0, condition := condition, number := number }
    Running atConfig ∧ accepts (.zoneWrite 15 (z 1 3 1 7 9)) atConfig = true ∧
    refuses (.zoneWrite 16 (z 1 3 1 7 9)) .badArg atConfig = true ∧ refuses (.zoneWrite 0 (z 1 4 0 0 0)) .badArg atConfig = true ∧
    refuses (.zoneWrite 0 (z 1 0 1 8 0)) .badArg atConfig = true ∧ refuses (.zoneWrite 0 (z 1 0 2 2 0)) .badArg atConfig = true ∧
    refuses (.zoneWrite 0 (z 1 0 3 0 0)) .badArg atConfig = true ∧ refuses (.zoneWrite 0 (z 1 0 0 0 10)) .badArg atConfig = true ∧
    refuses (.zoneWrite 0 (z 1 0 0 0 0)) .badState yard = true ∧ refuses (.zoneWrite 0 (z 2 0 0 0 0)) .badArg yard = true ∧
    ((after (.zoneWrite 0 (z 1 0 0 5 0)) atConfig).perm.zones.head?.map fun x => x.entry.bridgeMax) = some 400000 ∧
    replyOf (.zoneEnable 0 0xFF) yard = some (.okWith [0]) ∧
    replyOf (.zoneEnable 0x0F 0xF5) yard = some (.okWith [0x05]) := by decide

/-! ### The store map (chapter 6) -/

/-- Section 6.8: station 3's CLAIM recorded on both of its slots. -/
theorem witness_PeerClaimIsRecorded :
    let entries : List ClaimEntry := [{ ref := .slot 0 1, dir := .outward 1004 }, { ref := .slot 0 3, dir := .inward }]
    let t := after (.claimReceived 3 40 4 entries) yard
    let v := resv (.peer 3) .pending
    Running yard ∧ frameParts (.claimReceived 3 40 4 entries) = some (3, true, true) ∧ senderForeign yard 3 = false ∧
    mayReserve yard 3 = true ∧ (∀ e ∈ entries, ownResvAt yard e.ref = none) ∧
    contentAt t 0 1 = .reservedOut { coil := 1004, weight := some 1500, width := some 3 } v ∧
    contentAt t 0 3 = .reservedIn v := by decide

/-- Section 6.8: the PICKED of an upper slot, and the PICKED of a covered lower slot, which becomes DISPUTED. -/
theorem witness_PickedReceivedMovesTheCoil :
    let claimed := { yard with map := reservedMap (resv (.peer 3) .held) }
    let covered := { yard with map := yardMap.set 3 (coilIn 1004 1512 3) }
    Running claimed ∧ frameParts (.pickedReceived 3 40 (.slot 0 1) 1004) = some (3, true, true) ∧
    contentAt (after (.pickedReceived 3 40 (.slot 0 1) 1004) claimed) 0 1 = .reservedIn (resv (.peer 3) .held) ∧
    contentAt (after (.pickedReceived 5 12 (.slot 0 2) 1002) covered) 0 2 = .disputed ∧
    (after (.pickedReceived 5 12 (.slot 0 2) 1002) covered).notices.sources = BitVec.ofNat 32 (2 ^ Notice.disputed.bit) := by
  decide

/-- Section 6.8: the PLACED after that PICKED frees both slots of its round and fills the target. -/
theorem witness_PlacedReceivedPutsTheCoil :
    let v := resv (.peer 3) .held
    let s := { yard with map := (reservedMap v).set 1 { content := .reservedIn v, source := .peer 3 } }
    let t := after (.placedReceived 3 40 (.slot 0 3) 1004 1512 (some 3)) s
    Running s ∧ frameParts (.placedReceived 3 40 (.slot 0 3) 1004 1512 (some 3)) = some (3, true, true) ∧
    contentAt t 0 1 = .empty ∧ contentAt t 0 3 = .occupied { coil := 1004, weight := some 1512, width := some 3 } ∧
    ((after (.placedReceived 3 40 (.cradle 0 0) 1004 420 none) withTruck).trucks.bay0.map fun b => b.K + b.A) = some 3770 := by
  decide

/-- Section 6.8: the crane controller mends the map, and the bounds of MAP_WRITE. -/
theorem witness_MapWriteChecksAndWrites :
    let disputed : SlotRecord := { content := .disputed, source := .peer 5 }
    let row := ((yardMap.set 1 emptySlot).set 2 disputed).set 3 (coilIn 1004 1512 3)
    let s := { yard with map := row.set 5 (coilIn 1002 2010 4) }
    let w (r k state : Nat) (coil : Option CoilId) (weight width : Nat) : Instr :=
      .mapWrite (.slot r k) state coil (some weight) (some width)
    Running s ∧ refuses (w 0 2 1 none 0 0) .tier s = true ∧ refuses (w 0 2 3 (some 1002) 2000 4) .duplicate s = true ∧
    accepts (w 0 0 1 none 0 0) s = true ∧ accepts (w 1 4 3 (some 2000) 12000 7) s = true ∧
    refuses (w 1 4 3 (some 2000) 12001 7) .badArg s = true ∧ refuses (w 1 4 3 (some 2000) 12000 8) .badArg s = true ∧
    refuses (w 2 0 1 none 0 0) .badArg s = true ∧ refuses (w 0 0 2 none 0 0) .badArg s = true ∧
    refuses (w 1 0 3 none 0 0) .badArg s = true ∧ refuses (.mapWrite (.cradle 0 0) 1 none none none) .badArg s = true ∧
    refuses (w 0 3 1 none 0 0) .reserved (withTask .toSource) = true := by decide

/-- R113: a MAP_WRITE that repeats the record of a lower slot ends the own target above, whose other lower is reserved. -/
theorem test_mapWrite_repeated_record :
    let s := withTask .toSource
    let leaving : SlotRecord :=
      { content := .reservedOut { coil := 1003, weight := some 1900, width := some 3 } (resv (.peer 3) .held), source := .own }
    let out := { s with map := s.map.set 4 leaving }
    let t := after (.mapWrite (.slot 0 2) 3 (some 1002) (some 2000) (some 4)) out
    slotAt t 0 2 = slotAt out 0 2 ∧ ownResvAt t (.slot 0 3) = none ∧
    t.tracker.task.map Task.reason = some (some .targetTaken) ∧
    ownResvAt (after (.mapWrite (.slot 0 2) 3 (some 1002) (some 2000) (some 4)) s) (.slot 0 3) = some (resv .own .held) := by
  decide

/-- The requests that only read, at the bounds of their arguments. -/
theorem witness_ReadingRequestsOnlyAnswer :
    Running yard ∧ refuses (.truckRead 2) .badArg yard = true ∧ replyOf (.truckRead 1) yard = some (.okWith [0]) ∧
    refuses (.neighbourRead 31) .badArg yard = true ∧ accepts (.neighbourRead 30) yard = true ∧
    refuses (.cfgRead 1) .badState yard = true ∧ refuses (.cfgRead 0) .badArg atConfig = true ∧
    replyOf (.cfgRead 43) atConfig = some (.okWith [1, 1, 44]) ∧ refuses (.cfgRead 44) .badArg atConfig = true ∧
    refuses (.cfgRead 63) .badArg atConfig = true ∧ accepts (.cfgRead 79) atConfig = true ∧
    refuses (.cfgRead 80) .badArg atConfig = true ∧ refuses (.mapRead (.slot 2 0)) .badArg yard = true ∧
    accepts (.mapRead (.slot 1 4)) yard = true ∧
    replyOf (.mapFind 1003) yard = some (.okWith [1, 0, 0, 4, 3]) ∧ refuses .unknownRequest .badArg yard = true ∧
    ((replyOf .stateRead yard).map fun r => r.payload.length) = some 54 := by decide

/-! ### The claim engine (chapter 7) -/

/-- R130: equal priorities go to the lower identifier. -/
theorem witness_ClaimKeyDecides : (3 : Nat) ≠ 6 ∧ keyBeats 4 3 4 6 = true ∧ keyBeats 4 6 4 3 = false ∧ keyBeats 5 6 4 3 = true := by
  decide

/-- R138: a lower claim is met with an OBJECT, and so is any claim on a HELD reservation. -/
theorem witness_StationDefendsItsClaims :
    let c (sender priority : Nat) := Instr.claimReceived sender 9 priority [{ ref := .slot 0 3, dir := .inward }]
    let held := withTask .toSource
    let objected : List ObjectFrame := [{ claimant := 5, round := 9, ref := .slot 0 3 }]
    Running withRound ∧ frameParts (c 5 3) = some (5, true, true) ∧
    ownResvAt withRound (.slot 0 3) = some (resv .own .pending) ∧ keyBeats 3 5 4 (ownId withRound) = false ∧
    (after (c 5 3) withRound).link.boxes.objects = objected ∧ (ownResvAt held (.slot 0 3)).map Reservation.phase = some .held ∧
    (after (c 5 7) held).link.boxes.objects = objected := by decide

/-- R136, R138: at equal priority station 3 beats station 6, and the round and the task are lost. -/
theorem witness_StationLosesToTheHigherKey :
    let c := Instr.claimReceived 3 9 4 [{ ref := .slot 0 3, dir := .inward }]
    let t := after c withRound
    Running withRound ∧ frameParts c = some (3, true, true) ∧ senderForeign withRound 3 = false ∧
    ownResvAt withRound (.slot 0 3) = some (resv .own .pending) ∧ (withRound.claims.round.map Round.number) = some 40 ∧
    keyBeats 4 3 4 (ownId withRound) = true ∧ t.claims.round = none ∧
    t.tracker.task.map Task.reason = some (some .outranked) ∧ ownResvAt t (.slot 0 1) = none := by decide

/-- The task of the yard under way with its round re-asserted: its references PENDING under round 40, the CLAIM queued. -/
def reasserted (st : TaskState) : State :=
  let s := { withTask st with map := reservedMap (resv .own .pending) }
  let entries : List ClaimEntry := [{ ref := .slot 0 1, dir := .inward }, { ref := .slot 0 3, dir := .inward }]
  let s := s.withClaims { counter := 40, heldRequests := []
                          round := some { number := 40, purpose := .reassert, priority := 4, entries := entries
                                          stage := .queued, windowTime := 0 } }
  s.withLink { s.link with boxes := { s.link.boxes with claim := some { round := 40, priority := 4, entries := entries } } }

/-- R138, R139, R147: a REASSERT round loses its target to station 3's claim, which is then recorded; its source stays. -/
theorem witness_StationLosesToTheHigherKey_reassert :
    let s := reasserted .toTarget
    let c := Instr.claimReceived 3 9 4 [{ ref := .slot 0 3, dir := .inward }]
    let t := after c s
    Running s ∧ frameParts c = some (3, true, true) ∧ senderForeign s 3 = false ∧
    ownResvAt s (.slot 0 3) = some (resv .own .pending) ∧ keyBeats 4 3 4 (ownId s) = true ∧
    t.tracker.task.map Task.state = some .targetLost ∧
    (t.claims.round.map fun r => r.entries.map ClaimEntry.ref) = some [.slot 0 1] ∧
    (resvAt t (.slot 0 3)).map Reservation.holder = some (.peer 3) ∧
    t.link.boxes.release = some { round := 40, refs := [.slot 0 3] } ∧
    (after c (reasserted .toSource)).tracker.task.map Task.reason = some (some .targetTaken) := by decide

/-- R106, R142, R165, R166: a PICKED of the station's source before the lift and after it, and one that takes nothing from
the station. -/
theorem test_picked_removes_own :
    let c := Instr.pickedReceived 3 9 (.slot 0 1) 1004
    let early := after c (withTask .toSource)
    let late := after c (withTask .toTarget)
    early.tracker.task.map Task.reason = some (some .removed) ∧ ownResvAt early (.slot 0 3) = none ∧
    late.tracker = (withTask .toTarget).tracker ∧ late.link.boxes.release = some { round := 40, refs := [.slot 0 1] } ∧
    ownResvAt late (.slot 0 3) = some (resv .own .held) ∧
    (after (.pickedReceived 3 9 (.slot 1 1) 77) (withTask .toSource)).tracker = (withTask .toSource).tracker := by decide

/-- R141, R142: an OBJECT against the round, a late one against the source and the target, and one for another station. -/
theorem witness_ObjectReceivedIsObeyed :
    let c (claimant col : Nat) := Instr.objectReceived 5 claimant 40 (.slot 0 col)
    Running withRound ∧ frameParts (c 6 3) = some (5, true, false) ∧
    (after (c 6 3) withRound).tracker.task.map Task.reason = some (some .objected) ∧
    (after (c 3 3) withRound).map = withRound.map ∧
    (after (c 6 1) (withTask .toSource)).tracker.task.map Task.state = some .claimLost ∧
    (after (c 6 3) (withTask .toTarget)).tracker.task.map Task.state = some .targetLost ∧
    (after (c 6 3) (withTask .liftPending)).tracker.task.map Task.state = some .liftPending ∧
    (after (c 6 1) (withTask .toTarget)).tracker.task.map Task.state = some .toTarget := by decide

/-- R143: a RELEASE of its round, and one of another round. -/
theorem witness_PeerReleaseIsApplied :
    let s := { yard with map := reservedMap (resv (.peer 3) .held) }
    Running s ∧ frameParts (.releaseReceived 3 40 [.slot 0 3]) = some (3, true, false) ∧
    contentAt (after (.releaseReceived 3 40 [.slot 0 3]) s) 0 3 = .empty ∧
    contentAt (after (.releaseReceived 3 41 [.slot 0 3]) s) 0 3 = .reservedIn (resv (.peer 3) .held) ∧
    contentAt (after (.releaseReceived 5 40 [.slot 0 3]) s) 0 3 = .reservedIn (resv (.peer 3) .held) := by decide

/-- R134, R136, R140: the window of 300 ms over in ACTIVE and in LISTEN, and one millisecond before. -/
theorem witness_ClaimWindowsExpire :
    let early := withRound.withClaims { withRound.claims with round := withRound.claims.round.map fun r => { r with windowTime := 299 } }
    let listen := withRound.withLink { withRound.link with state := .listen }
    let peer (now : Tick) :=
      State.withClock { yard with map := reservedMap (resv (.peer 3) .pending) } { yard.clock with now := now }
    let held (s : State) := (resvAt (after (.peerReservationHeld (.slot 0 3)) s) (.slot 0 3)).map Reservation.phase
    Running withRound ∧ (after .claimWindowExpiry withRound).tracker.task.map Task.state = some .toSource ∧
    (ownResvAt (after .claimWindowExpiry withRound) (.slot 0 3)).map Reservation.phase = some .held ∧
    (after .claimWindowExpiry early).claims = early.claims ∧
    (after .claimWindowExpiry listen).tracker.task.map Task.reason = some (some .notActive) ∧
    held (peer 300) = some .held ∧ held (peer 299) = some .pending := by decide

/-! ### The task tracker (chapter 8) -/

/-- R131, R132, R152: the checks of TASK_START at their bounds, and an accepted start. -/
theorem witness_TaskStartChecksAndClaims :
    let c (kind priority src dst : Nat) (coil : CoilId) := Instr.taskStart 7 kind (.slot 0 src) (.slot 0 dst) coil priority
    let refused (r : RefusalReason) (i : Instr) : Bool := (replyOf i yard).any fun x => x.reason == some r
    Running yard ∧ replyOf (c 0 7 1 3 1004) yard = some (.okWith [1]) ∧
    (after (c 0 7 1 3 1004) yard).tracker.task.map Task.state = some .claiming ∧
    refuses (c 2 7 1 3 1004) .badArg yard = true ∧ refuses (c 0 8 1 3 1004) .badArg yard = true ∧
    refuses (c 1 7 1 3 1004) .badArg yard = true ∧ refuses (c 0 7 1 3 1004) .notActive atConfig = true ∧
    refuses (c 0 7 1 3 1004) .busy (withTask .returning) = true ∧
    refuses (c 0 7 1 3 1004) .hookLoaded (weighed .loaded [] yard) = true ∧
    refused .sourceMismatch (c 0 7 1 3 1005) = true ∧ refused .sourceCovered (c 0 7 0 3 1001) = true ∧
    refused .targetState (c 0 7 1 4 1004) = true := by decide

/-- R156, R157, R159, R169: TASK_CONFIRM by the task state, and a booking that waited. -/
theorem witness_BookingsConfirmedAndResumed :
    let full (s : State) := s.withLink { s.link with boxes := { s.link.boxes with book := some (.picked 1 (.slot 1 0) 3) } }
    let waits := (withTask .placePending).withTracker { task := some { task .placePending with waiting := some .putIn }, hook := none }
    let state (t : State) := t.tracker.task.map Task.state
    Running (withTask .liftPending) ∧ state (after .taskConfirm (withTask .liftPending)) = some .toTarget ∧
    state (after .taskConfirm (withTask .verifyHold)) = some .toTarget ∧
    state (after .taskConfirm (withTask .placePending)) = some .done ∧
    (after .taskConfirm (full (withTask .placePending))).tracker.task.map Task.waiting = some (some .putIn) ∧
    refuses .taskConfirm .linkBusy waits = true ∧ state (after .bookingResumed waits) = some .done ∧
    (after .bookingResumed (full waits)).tracker = (full waits).tracker ∧ refuses .taskConfirm .badState yard = true := by decide

/-- R168: TASK_CANCEL by the task state. -/
theorem witness_TaskCancelByTaskState :
    let state (s : State) := (after .taskCancel s).tracker.task.map Task.state
    Running (withTask .toTarget) ∧ state (withTask .toSource) = some .cancelled ∧ state withRound = some .cancelled ∧
    state (withTask .liftPending) = some .returning ∧ state (withTask .toTarget) = some .returning ∧
    ownResvAt (after .taskCancel (withTask .toTarget)) (.slot 0 3) = none ∧
    refuses .taskCancel .badState (withTask .placePending) = true ∧ refuses .taskCancel .badState yard = true := by decide

/-- R167: TASK_RETARGET in TARGET_LOST, and outside it. -/
theorem witness_TaskRetargetChecksAndClaims :
    let lost := (withTask .targetLost).withTracker { task := some { task .targetLost with target := none }, hook := none }
    Running lost ∧ replyOf (.taskRetarget (.slot 1 0)) lost = some (.okWith [1]) ∧
    contentAt (after (.taskRetarget (.slot 1 0)) lost) 1 0 =
      .reservedIn { holder := .own, round := 1, priority := 4, phase := .pending, since := 0 } ∧
    refuses (.taskRetarget (.slot 1 0)) .badState (withTask .toTarget) = true := by decide

/-- R167, R131: a target outside 31, 30, 1 and 5 is BAD_ARG before the engine is asked; a running round is LINK_BUSY. -/
theorem test_taskRetarget_order :
    let lost := (withTask .targetLost).withTracker { task := some { task .targetLost with target := none }, hook := none }
    let busy := lost.withClaims withRound.claims
    refuses (.taskRetarget (.slot 32 0)) .badArg busy = true ∧ refuses (.taskRetarget (.slot 0 31)) .badArg busy = true ∧
    refuses (.taskRetarget (.cradle 2 0)) .badArg busy = true ∧ refuses (.taskRetarget (.cradle 0 6)) .badArg busy = true ∧
    refuses (.taskRetarget (.slot 31 30)) .linkBusy busy = true ∧ refuses (.taskRetarget (.cradle 1 5)) .linkBusy busy = true := by
  decide

/-- R149, R168: the target is absent once it is released. -/
theorem test_target_absent_when_released :
    (after .taskCancel (withTask .toSource)).tracker.task.map Task.target = some none ∧
    (after .taskCancel withRound).tracker.task.map Task.target = some none := by decide

/-! ### Trucks (chapter 9) -/

/-- The table of R186. -/
theorem witness_LeverRuleRoundsToNearest :
    0 < 9000 ∧ ([(2150, 5400), (420, 10200), (420, 8600), (300, 0)].map fun (p : Int × Nat) =>
      (rearShare 9000 p.1 p.2, frontShare 9000 p.1 p.2)) = [(1290, 860), (476, -56), (401, 19), (0, 300)] := by decide

/-- R190, step 3 of section 9.10: 2,150 wu at an offset of 5,400 passes on the empty trailer. -/
theorem test_plannedPasses :
    let t : Truck := { closed := false, truckRef := 77, announcer := 5, orientation := .plus, trailer := trailer
                       cradles := [{ offset := 5400, content := .free }], K := 520, A := 680, overLimit := false }
    plannedPasses t { offset := 5400, content := .free } 2150 = true ∧
    plannedPasses { t with K := 641 } { offset := 5400, content := .free } 2150 = false := by decide

/-- R178, R182, R184: the three TRUCK requests and their checks. -/
theorem witness_TruckRequestsChangeTheRecord :
    let c (bay orientation : Nat) (offsets : List Nat) := Instr.truckArrive bay 77 orientation trailer offsets
    Running yard ∧ accepts (c 1 2 [1, 2, 3, 4, 5, 6]) yard = true ∧ refuses (c 2 0 [1]) .badArg yard = true ∧
    refuses (c 0 3 [1]) .badArg yard = true ∧ refuses (c 0 0 []) .badArg yard = true ∧
    refuses (c 0 0 [1, 2, 3, 4, 5, 6, 7]) .badArg yard = true ∧ refuses (c 0 0 [1]) .bayBusy withTruck = true ∧
    refuses (c 0 0 [1]) .notActive atConfig = true ∧ accepts (.truckClose 0) withTruck = true ∧
    refuses (.truckClose 1) .badState withTruck = true ∧ refuses (.truckClose 2) .badArg withTruck = true ∧
    (after (.truckDepart 0) withTruck).trucks.bay0 = none ∧ refuses (.truckDepart 1) .badState withTruck = true := by decide

/-- R180, R183, R185: the TRUCK frames of a peer. -/
theorem witness_TruckFramesChangeTheRecord :
    let arrive (sender bay : Nat) := Instr.truckArriveReceived sender bay 78 .minus trailer [16001]
    Running withTruck ∧ frameParts (arrive 3 1) = some (3, true, true) ∧
    ((after (arrive 3 1) withTruck).trucks.bay1.map fun b => b.cradles.map Cradle.offset) = some [16000] ∧
    (after (arrive 3 0) withTruck).trucks.bay0 = withTruck.trucks.bay0 ∧
    ((after (.truckCloseReceived 3 0 77) withTruck).trucks.bay0.map Truck.closed) = some true ∧
    (after (.truckCloseReceived 3 0 78) withTruck).notices.sources = BitVec.ofNat 32 (2 ^ Notice.truckConflict.bit) ∧
    (after (.truckDepartReceived 3 0 77) withTruck).trucks.bay0 = none := by decide

/-- R181, R185: a DEPART takes the station's own cradle: the task in TO_TARGET loses its target, in PLACE_PENDING it is not
told, and a RELEASE names the cradle in both. -/
theorem test_depart_removes_own :
    let s (st : TaskState) : State :=
      let s := setCradle 0 0 (.reserved (resv .own .held)) withTruck
      s.withTracker { task := some { task st with target := some (.cradle 0 0) }, hook := none }
    let t (st : TaskState) := after (.truckDepartReceived 3 0 77) (s st)
    (t .toTarget).tracker.task.map Task.state = some .targetLost ∧
    (t .toTarget).link.boxes.release = some { round := 40, refs := [.cradle 0 0] } ∧
    (t .placePending).tracker = (s .placePending).tracker ∧
    (t .placePending).link.boxes.release = some { round := 40, refs := [.cradle 0 0] } := by decide

/-! ### The control port, the configuration and the notices (chapter 10) -/

/-- R200, section 10.7: the 17 bytes of TASK_START; a length that does not fit, a kind of 2 and an unknown code. -/
theorem test_decodeRequest :
    let t (bs : List Byte) : Instr := decodeRequest { bytes := bs, partialByte := false }
    t [0x30, 0, 14, 1, 0xFB, 0, 0, 9, 2, 0, 4, 7, 0, 0, 0x14, 0, 2] =
      .taskStart 507 0 (.slot 9 2) (.slot 4 7) 5120 2 ∧
    t [0x13, 0, 0] = .stateRead ∧ t [0x13, 0, 1, 0] = .unknownRequest ∧ t [0x07, 0, 0] = .unknownRequest ∧
    t [0x21, 0, 3, 2, 0, 0] = .unknownRequest ∧ t [0x10, 0, 5, 2, 0, 0, 0x9C, 0x40] = .posReference 2 40000 := by decide

/-- Section 10.7: a request while READY is low is an overrun; the no-reply mark; the held reply read out. -/
theorem witness_PortTransactions :
    let taken := after (.chipSelectRise [0x13, 0, 0] false) yard
    let answered := yard.withPort { yard.port with reply := some (.okWith [33]) }
    Running yard ∧ taken.port.ready = false ∧ taken.port.request.isSome = true ∧
    (after (.chipSelectRise [0x13, 0, 0] false) taken).notices.sources = BitVec.ofNat 32 (2 ^ 8) ∧
    (after (.chipSelectRise [0x13, 0, 0] false) taken).port.request = taken.port.request ∧
    (after (.readReply 1) taken).port.dataOut = [255] ∧
    (after (.readReply 5) answered).port.dataOut = [0, 0, 0, 1, 33] ∧
    (after (.chipSelectRise [] true) yard) = yard ∧ (0x13 : Byte) ≠ 0x80 := by decide

/-- R209 to R213, section 10.7: NOTICE_READ clears the groups, NOTICE_CLEAR the named sources; reserved bits are refused. -/
theorem witness_NoticeRequestsReadClearEnable :
    let s := { yard with notices := { NoticeUnit.reset with
      sources := 0x100, groups := 1, sourceEnable := 0x3FFFFFFF, groupEnable := 0x3F, global := true, attn := true } }
    Running s ∧ (after .noticeRead s).notices.groups = 0 ∧ (after .noticeRead s).notices.attn = false ∧
    (after .noticeRead s).notices.sources = 0x100 ∧ replyOf (.noticeClear 0x100) s = some (.okWith [0, 0, 0, 0]) ∧
    refuses (.noticeClear 0x40000000) .badArg s = true ∧ refuses (.noticeEnable 0 0x40 0) .badArg s = true ∧
    refuses (.noticeEnable 0 0x3F 2) .badArg s = true ∧ refuses (.noticeEnable 0x80000000 0 0) .badArg s = true ∧
    accepts (.noticeEnable 0x3FFFFFFF 0x3F 1) s = true := by decide

/-- R200, R202: a zone item is no CFG_WRITE of a good value; its length is checked before the link state. -/
theorem test_cfgWrite_zone_item :
    refuses (.cfgWrite 64 [1, 2]) .badArg yard = true ∧ refuses (.cfgWrite 64 [1, 0, 9, 0, 9, 0, 0, 0, 0]) .badState yard = true ∧
    refuses (.cfgWrite 64 [1, 0, 9, 0, 9, 0, 0, 0, 0]) .badArg atConfig = true ∧
    refuses (.cfgWrite 80 [1]) .badState yard = true := by decide

/-- R202: a CFG_WRITE in CONFIG is clamped and stored; outside CONFIG, of a bad shape or of an unlisted item it is not. -/
theorem witness_CfgWriteStoresTheItem :
    Running atConfig ∧ cfgItem (.cfgWrite 4 [4001]) = some (4, [4001]) ∧ cfgItem (.cfgWriteBeat 76) = some (2, [76]) ∧
    replyOf (.cfgWrite 4 [4001]) atConfig = some (.okWith [0x0F, 0xA0]) ∧
    (after (.cfgWriteBeat 75) atConfig).cfg.beat = 50 ∧ (after (.cfgWriteBeat 76) atConfig).cfg.beat = 100 ∧
    (after (.cfgWriteBeat 150) atConfig).cfg.beat = 100 ∧ (after (.cfgWriteBeat 151) atConfig).cfg.beat = 200 ∧
    refuses (.cfgWrite 4 [1500]) .badState yard = true ∧ refuses (.cfgWrite 4 [1, 2]) .badArg atConfig = true ∧
    refuses (.cfgWrite 0 [1]) .badArg atConfig = true ∧ refuses (.cfgWrite 44 [1]) .badArg atConfig = true ∧
    accepts (.cfgWriteStationId 30) atConfig = true ∧
    (after (.cfgWriteGeometry { yardGeometry with rows := 1 }) atConfig).map =
      List.replicate 5 { content := .unknown, source := .own } := by decide

/-! ### Steps, resets and laws -/

/-- A command at the front of the queue is run on the rest; an empty queue lets 1 ms pass, or follows up. -/
theorem witness_StepRunsFrontCommand : (yard.withPending [.join, .leave]).pending = [.join, .leave] := by decide

/-- R197: a request in the buffer follows at once; with none, and under reset, none does. -/
theorem witness_EmptyQueuePassesTheMillisecond :
    let buffered := yard.withPort { yard.port with ready := false, request := some ⟨[0x13, 0, 0], false⟩ }
    buffered.pending = [] ∧ yard.pending = [] ∧ followUps buffered = [.stateRead] ∧ followUps yard = [] ∧
    dueRows (yard.withPos { yard.pos with sampleElapsed := 20 }) = [.positionSample] ∧
    (after .pinResetAssert yard).clock.resetHeld = true := by decide

/-- R208: what the reset input leaves, and a command while it is held. -/
theorem witness_HeldResetStopsTheBlock :
    let s := after .pinResetAssert yard
    s.clock.resetHeld = true ∧ s.port.ready = false ∧ s.perm.outputs = Levels.all .stop ∧ after .join s = s ∧
    (after (.encoderTransition .bridge true false) s).pos.bridge.lineA = true ∧
    (after .pinResetRelease s).cfg.cradleWindow = 300 := by decide

/-- R207: RESTART with a task, with a loaded hook, and with neither. -/
theorem witness_RestartClearsTheBlocks :
    Running yard ∧ refuses .restart .busy (withTask .toSource) = true ∧
    refuses .restart .hookLoaded (weighed .loaded [] yard) = true ∧ (after .restart yard).link.state = .config ∧
    (after .restart yard).table.entries = [] ∧ (after .restart yard).map = yard.map := by decide

/-- The yard with a peer's reservations and a truck, settled. -/
def lawful : State := settle { withTruck with map := reservedMap (resv (.peer 3) .held) }

/-- A step is possible where the laws hold. -/
theorem witness_step : ∃ t, step lawful = .next t := ⟨_, rfl⟩

/-- The hypothesis of `StepKeepsOutputs`. -/
theorem witness_StepKeepsOutputs : OutputsFollow lawful := ⟨by decide, by decide⟩

/-- The hypothesis of `StepKeepsTruckBalance`, with a coil on the trailer: 520 + 680 + 2,150 = 1,380 + 1,970. -/
theorem witness_StepKeepsTruckBalance : TruckBalance lawful := by
  refine ⟨fun t h => ?_, fun t h => ?_⟩ <;> cases h
  show (_ : Int) = _
  decide

/-- The hypotheses of `StepKeepsTableAndMap`. -/
theorem witness_StepKeepsTableAndMap : TableLaw lawful ∧ MapShape lawful := by
  refine ⟨?_, rfl⟩
  unfold TableLaw
  decide

/-- The two reservations of the lawful state are held by station 3. -/
theorem lawful_reservations : ∀ v ∈ allReservations lawful, v = resv (.peer 3) .held := by decide

/-- The hypothesis of `StepKeepsPeersKnown`. -/
theorem witness_StepKeepsPeersKnown : PeersKnown lawful := by
  intro v hv id hid
  rw [lawful_reservations v hv] at hid
  cases hid
  exact ⟨evalEntry lawful (entry 3 0 .fresh), by decide⟩

/-- The hypothesis of `StepKeepsOwnOnlyRunning`: no task, and no reservation of the station. -/
theorem witness_StepKeepsOwnOnlyRunning : OwnOnlyRunning lawful := by
  intro _ v hv
  rw [lawful_reservations v hv]
  decide

/-- R42: a payload length that is not the one of its class is a receive error: an OBJECT of 4 bytes, and not of 5. -/
theorem test_payload_length :
    lineCommand (frameBits 0 3 [0, 0, 0, 0]) = some .receiveError ∧ lineCommand (frameBits 0 3 [6, 1, 0, 0, 0]) = none ∧
    payloadFits 5 32 = true ∧ payloadFits 5 34 = false ∧ payloadFits 3 11 = true ∧ payloadFits 3 12 = false := by decide

/-- R37, R38, R42: a STATUS is read from its bits as it was sent. -/
theorem witness_StatusFrameReadAsSent :
    senderOk 3 = true ∧ statusWf goodStatus = true ∧
    lineCommand (statusLine 3 goodStatus false) = some (.statusReceived 3 goodStatus) := by decide

/-- The table gives no row any bits, so no word spells a command. -/
theorem test_decodeTableWord : Sys2Proof.decodeTableWord 8 0x30 = none := rfl

end Sys2Proof.Tests
end

section
/-! PROOFS. Frames, notices and requests: what the proofs about single commands share beside the laws of the model. -/

namespace Sys2Proof.Machine

/-! ### Frames of the updates -/

theorem keeps_withPos (p : PositionUnit) (s : State) : Keeps [.pos] s (s.withPos p) :=
  ⟨rfl, fun b hb => by cases b <;> simp_all [SameBlock]⟩

theorem keeps_withPerm (p : PermissionUnit) (s : State) : Keeps [.perm] s (s.withPerm p) :=
  ⟨rfl, fun b hb => by cases b <;> simp_all [SameBlock]⟩

theorem keeps_withTable (p : NeighbourTable) (s : State) : Keeps [.table] s (s.withTable p) :=
  ⟨rfl, fun b hb => by cases b <;> simp_all [SameBlock]⟩

/-- A frame followed by one of named blocks. -/
theorem Keeps.andThen {bs cs ds : List Block} {s t u : State} (h : Keeps bs s t) (k : Keeps cs t u)
    (hb : ∀ b ∈ bs, b ∈ ds := by simp) (hc : ∀ b ∈ cs, b ∈ ds := by simp) : Keeps ds s u :=
  keeps_trans (keeps_mono hb h) (keeps_mono hc k)

/-! ### Notices of operations that come together -/

theorem notices_of_eq_trans {must may : List Notice} {s t u : State} (h : t.notices = s.notices)
    (k : Notices must may t u) : Notices must may s u := by
  simpa using notices_trans (notices_of_eq (may := []) h) k

theorem notices_trans_of_eq {must may : List Notice} {s t u : State} (h : Notices must may s t)
    (k : u.notices = t.notices) : Notices must may s u := by
  simpa using notices_trans h (notices_of_eq (may := []) k)

/-- One notice raised by either of two operations. -/
theorem notices_or {a b : Bool} {n : Notice} {s t u : State} (h : Notices (if a then [n] else []) [] s t)
    (k : Notices (if b then [n] else []) [] t u) : Notices (if a || b then [n] else []) [] s u := by
  obtain ⟨hmust, honly⟩ := notices_trans h k
  refine ⟨fun m hm => hmust m ?_, raisesOnly_mono (fun m hm => ?_) honly⟩ <;>
    cases a <;> cases b <;> simp_all

/-! ### Requests -/

/-- A request whose body refuses it is answered and does nothing else (R201). -/
theorem request_of_answer {body : State → State × Reply} {r : Reply} {s : State} (hrun : Running s)
    (h : body s = (s, r)) (hr : r.status ≠ .ok) : request body s = respond r s := by
  rw [request_of_refused body hrun (by rwa [h]), h]

/-- A request whose body accepts it is settled and answered OK (R197). -/
theorem request_of_acceptance {body : State → State × Reply} {payload : List Byte} {s t : State} (hrun : Running s)
    (h : body s = (t, .okWith payload)) : request body s = respond (.okWith payload) (settle t) := by
  rw [request_of_ok body hrun (by rw [h]; rfl), h]

end Sys2Proof.Machine
end

section
/-! PROOFS. The position unit: what its operations do to one axis, what they keep and raise, and the claims about encoder
transitions, position samples, mark edges and POS_REFERENCE. -/

namespace Sys2Proof.Machine

/-! ### One axis of the position unit -/

@[simp] theorem PositionUnit.axis_withAxis_same (p : PositionUnit) (x : Axis) (u : AxisUnit) :
    (p.withAxis x u).axis x = u := by cases x <;> rfl

theorem PositionUnit.axis_withAxis_ne (p : PositionUnit) {x y : Axis} (u : AxisUnit) (h : y ≠ x) :
    (p.withAxis x u).axis y = p.axis y := by
  cases x <;> cases y <;> simp_all [PositionUnit.axis, PositionUnit.withAxis]

@[simp] theorem PositionUnit.sampleElapsed_withAxis (p : PositionUnit) (x : Axis) (u : AxisUnit) :
    (p.withAxis x u).sampleElapsed = p.sampleElapsed := by cases x <;> rfl

@[simp] theorem PositionUnit.withAxis_withAxis (p : PositionUnit) (x : Axis) (u v : AxisUnit) :
    (p.withAxis x u).withAxis x v = p.withAxis x v := by cases x <;> rfl

/-- An operation that puts another record in the place of one axis keeps the other axes. -/
theorem otherAxesKept_of_withAxis {x : Axis} {u : AxisUnit} {s t : State} (h : t.pos = s.pos.withAxis x u) :
    OtherAxesKept x s t := by
  refine ⟨fun y hy => ?_, ?_⟩
  · rw [h, PositionUnit.axis_withAxis_ne _ _ hy]
  · rw [h, PositionUnit.sampleElapsed_withAxis]

/-! ### Neighbour entries evaluated at a moved position -/

/-- An evaluation of an entry reads the bridge and the configuration alone. -/
theorem evalEntry_congr {s t : State} (hpos : t.pos.bridge = s.pos.bridge) (hcfg : t.cfg = s.cfg) :
    evalEntry t = evalEntry s := by
  funext e
  simp [evalEntry, onPlusSide, entryGap, entryRequired, ownSpeedToward, peerSpeedToward, hpos, hcfg]

/-- An evaluation of an entry writes its held levels alone. -/
theorem evalEntry_report (s : State) (e : Entry) :
    ((evalEntry s e).id, (evalEntry s e).state, (evalEntry s e).age, (evalEntry s e).report, (evalEntry s e).foreign) =
      (e.id, e.state, e.age, e.report, e.foreign) := by
  unfold evalEntry
  split <;> rfl

theorem evalEntry_respond (r : Reply) (s : State) : evalEntry (respond r s) = evalEntry s :=
  evalEntry_congr (by rw [respond_pos]) (respond_cfg ..)

theorem keeps_evalEntries (s : State) : Keeps [.table] s (evalEntries s) := keeps_withTable _ s

/-- Where the entries have been evaluated and the step has settled, they are as the state left evaluates them. -/
theorem settle_evalEntries_entries (s : State) :
    (settle (evalEntries s)).table.entries = s.table.entries.map (evalEntry (settle (evalEntries s))) := by
  rw [evalEntry_congr (s := s) (by simp) (by simp)]
  simp [evalEntries]

theorem sameReports_of_evalEntries {s t u : State} (h : u.table = s.table) (ht : t.table = (evalEntries u).table) :
    SameReports s t := by
  rw [SameReports, ht]
  simp [evalEntries, h, evalEntry_report, Function.comp_def]

/-! ### Counting (R1) -/

/-- R6: the entry to SUSPECT raises POS_SUSPECT and does nothing else. -/
theorem raiseSuspect_eq (before : PosState) (s : State) :
    raiseSuspect before s = if before != .suspect then raise .posSuspect s else s := by
  cases before <;> rfl

theorem keeps_raiseSuspect (before : PosState) (s : State) : Keeps [] s (raiseSuspect before s) := by
  rw [raiseSuspect_eq]
  split
  · exact keeps_raise ..
  · exact keeps_refl ..

theorem notices_raiseSuspect (before : PosState) (s : State) :
    Notices (if before != .suspect then [.posSuspect] else []) [] s (raiseSuspect before s) := by
  rw [raiseSuspect_eq]
  split
  · exact notices_raise ..
  · exact notices_refl ..

@[simp] theorem raiseSuspect_pos (before : PosState) (s : State) : (raiseSuspect before s).pos = s.pos :=
  (keeps_raiseSuspect before s).2 .pos (by simp)

/-- R1: the order 00, 10, 11, 01 is what `countsUp` asks for where one line has changed. -/
theorem countsUp_iff_inOrder : ∀ lineA lineB a b : Bool, (lineA != a) ≠ (lineB != b) →
    countsUp (decide (lineA ≠ a)) a b =
      [(false, false, true, false), (true, false, true, true), (true, true, false, true),
        (false, true, false, false)].contains (lineA, lineB, a, b) := by decide

theorem encoderStep_of_still {axis : Axis} {a b : Bool} {s : State} (hA : (s.pos.axis axis).lineA = a)
    (hB : (s.pos.axis axis).lineB = b) : encoderStep axis a b s = setLines axis a b s := by
  simp [encoderStep, hA, hB]

theorem encoderStep_of_fault {axis : Axis} {a b : Bool} {s : State} (hA : (s.pos.axis axis).lineA ≠ a)
    (hB : (s.pos.axis axis).lineB ≠ b) : encoderStep axis a b s =
      raiseSuspect (s.pos.axis axis).state (s.withPos (s.pos.withAxis axis
        { s.pos.axis axis with lineA := a, lineB := b, state := .suspect, remembered := none })) := by
  simp [encoderStep, hA, hB, setLines, AxisUnit.suspect, State.withPos]

theorem encoderStep_of_count {axis : Axis} {a b : Bool} {s : State}
    (h : ((s.pos.axis axis).lineA != a) ≠ ((s.pos.axis axis).lineB != b)) : encoderStep axis a b s =
      s.withPos (s.pos.withAxis axis { s.pos.axis axis with
        lineA := a, lineB := b
        counter := stepCounter (countsUp (decide ((s.pos.axis axis).lineA ≠ a)) a b) (s.pos.axis axis).counter }) := by
  have hstill : ¬((s.pos.axis axis).lineA = a ∧ (s.pos.axis axis).lineB = b) := by rintro ⟨rfl, rfl⟩; simp at h
  have hfault : ¬((s.pos.axis axis).lineA ≠ a ∧ (s.pos.axis axis).lineB ≠ b) := by
    rintro ⟨hA, hB⟩; simp [bne_iff_ne.2 hA, bne_iff_ne.2 hB] at h
  simp only [encoderStep, if_neg hstill, if_neg hfault, setLines, State.withPos_pos,
    PositionUnit.axis_withAxis_same, PositionUnit.withAxis_withAxis]
  rfl

/-- What the settled state holds of an operation that puts another record in the place of one axis. -/
theorem acts_settle_withAxis {axis : Axis} {v : AxisUnit} {touched : List Block} {must : List Notice} {s b : State}
    (hpos : b.pos = s.pos.withAxis axis v) (hkeeps : Keeps touched s b) (hnotices : Notices must [] s b) :
    (settle b).pos.axis axis = v ∧ OtherAxesKept axis s (settle b) ∧ Acts touched must [] s (settle b) :=
  ⟨by simp [hpos], otherAxesKept_of_withAxis (by rw [settle_pos, hpos]), acts_settle hkeeps hnotices⟩

/-- Settles O13: by which of the two lines have changed. -/
theorem encoderTransitionCounts : Obligations.EncoderTransitionCounts := by
  intro axis a b s hrun
  dsimp only
  refine ⟨settle (encoderStep axis a b s), by simp [exec, execEncoderTransition, hrun], ?_⟩
  by_cases hone : ((s.pos.axis axis).lineA != a) ≠ ((s.pos.axis axis).lineB != b)
  · have hup := countsUp_iff_inOrder _ _ a b hone
    rw [encoderStep_of_count hone, hup]
    have hfault : ((s.pos.axis axis).lineA != a && (s.pos.axis axis).lineB != b) = false := by grind
    have hstill : ((s.pos.axis axis).lineA == a && (s.pos.axis axis).lineB == b) = false := by grind
    simp only [hfault, hstill]
    exact acts_settle_withAxis rfl (keeps_withPos ..) (notices_of_eq rfl)
  · by_cases hA : (s.pos.axis axis).lineA = a
    · have hB : (s.pos.axis axis).lineB = b := by grind
      rw [encoderStep_of_still hA hB]
      simp only [hA, hB, bne_self_eq_false, beq_self_eq_true]
      exact acts_settle_withAxis rfl (keeps_withPos ..) (notices_of_eq rfl)
    · have hB : (s.pos.axis axis).lineB ≠ b := by grind
      rw [encoderStep_of_fault hA hB]
      simp only [bne_iff_ne.2 hA, bne_iff_ne.2 hB]
      exact acts_settle_withAxis (raiseSuspect_pos ..) ((keeps_withPos ..).andThen (keeps_raiseSuspect ..))
        (notices_of_eq_trans rfl (notices_raiseSuspect ..))

/-! ### The position sample (R3 to R6, R77) -/

/-- R3, R5: the sample of an axis is a clamp or a jump. -/
def sampleDoubted (c : Cfg) (axis : Axis) (u : AxisUnit) : Bool :=
  isClamped axis (rawPosition u (scaleOf c axis)) || isJump c.vmax (rawPosition u (scaleOf c axis)) u.current

/-- R3 to R6: the record of an axis after a sample, field by field. -/
theorem sampleAxis_eq (c : Cfg) (axis : Axis) (u : AxisUnit) : sampleAxis c axis u = { u with
    current := clampInt 0 (axisMax axis) (rawPosition u (scaleOf c axis))
    previous := u.current
    speed := if axis = .hoist then u.speed
      else sampleSpeed (clampInt 0 (axisMax axis) (rawPosition u (scaleOf c axis))) u.current
    state := if sampleDoubted c axis u then .suspect else u.state
    remembered := if sampleDoubted c axis u then none else u.remembered } := by
  have hspeed : ∀ v w : Int, (if hasSpeed axis then v else w) = if axis = .hoist then w else v := by
    intro v w; cases axis <;> rfl
  simp only [sampleAxis, sampleDoubted, hspeed]
  split <;> simp_all [AxisUnit.suspect]

theorem sampleDoubted_eq (c : Cfg) (axis : Axis) (u : AxisUnit) (raw : Int)
    (hraw : raw = rawPosition u (scaleOf c axis)) : sampleDoubted c axis u =
      decide (raw < 0 ∨ (axisMax axis : Int) < raw ∨ (c.vmax : Int) < ((raw - u.current).natAbs : Int) * 25) := by
  simp [sampleDoubted, isClamped, isJump, magnitude, ← hraw, Bool.decide_or, Bool.or_assoc]

/-- R6: an axis enters SUSPECT at its sample. -/
def sampleEnters (c : Cfg) (axis : Axis) (u : AxisUnit) : Bool := sampleDoubted c axis u && u.state != .suspect

theorem sampleAxis_state_eq_suspect_iff (c : Cfg) (axis : Axis) (u : AxisUnit) :
    (sampleAxis c axis u).state = .suspect ↔ sampleDoubted c axis u = true ∨ u.state = .suspect := by
  rw [sampleAxis_eq]
  cases sampleDoubted c axis u <;> simp

theorem takeSample_eq (axis : Axis) (s : State) : takeSample axis s =
    (if sampleEnters s.cfg axis (s.pos.axis axis) then raise .posSuspect else id)
      (s.withPos (s.pos.withAxis axis (sampleAxis s.cfg axis (s.pos.axis axis)))) := by
  simp only [takeSample, raiseSuspect_eq, sampleAxis_state_eq_suspect_iff, sampleEnters]
  by_cases hd : sampleDoubted s.cfg axis (s.pos.axis axis) = true <;>
    by_cases hs : (s.pos.axis axis).state = .suspect <;> simp [hd, hs]

theorem takeSample_pos (axis : Axis) (s : State) :
    (takeSample axis s).pos = s.pos.withAxis axis (sampleAxis s.cfg axis (s.pos.axis axis)) := by
  rw [takeSample_eq]
  split <;> rfl

theorem keeps_takeSample (axis : Axis) (s : State) : Keeps [.pos] s (takeSample axis s) := by
  rw [takeSample_eq]
  split
  · exact (keeps_withPos _ s).andThen (keeps_raise ..)
  · exact keeps_withPos ..

theorem takeSample_cfg (axis : Axis) (s : State) : (takeSample axis s).cfg = s.cfg :=
  (keeps_takeSample axis s).2 .cfg (by simp)

theorem notices_takeSample (axis : Axis) (s : State) :
    Notices (if sampleEnters s.cfg axis (s.pos.axis axis) then [.posSuspect] else []) [] s (takeSample axis s) := by
  rw [takeSample_eq]
  split
  · exact notices_of_eq_trans rfl (notices_raise ..)
  · exact notices_of_eq rfl

/-- The three axes sampled, and the time to the next sample set to 0. -/
def takeSamples (s : State) : State :=
  let u := takeSample .hoist (takeSample .trolley (takeSample .bridge s))
  u.withPos { u.pos with sampleElapsed := 0 }

theorem positionSample_eq (s : State) : positionSample s = evalEntries (sampleHoist (takeSamples s)) := rfl

theorem keeps_takeSamples (s : State) : Keeps [.pos] s (takeSamples s) :=
  keeps_trans (keeps_takeSample .bridge s) (keeps_trans (keeps_takeSample ..)
    (keeps_trans (keeps_takeSample ..) (keeps_withPos ..)))

theorem takeSamples_notices (s : State) : (takeSamples s).notices =
    (takeSample .hoist (takeSample .trolley (takeSample .bridge s))).notices := State.withPos_notices ..

theorem takeSamples_table (s : State) : (takeSamples s).table = s.table := (keeps_takeSamples s).2 .table (by simp)

theorem sampleHoist_table (s : State) : (sampleHoist s).table = s.table := rfl

/-- Each axis is sampled from its record as it stood: the samples of two axes do not meet. -/
theorem takeSamples_axis (s : State) (x : Axis) :
    (takeSamples s).pos.axis x = sampleAxis s.cfg x (s.pos.axis x) := by
  cases x <;> simp [takeSamples, takeSample_pos, takeSample_cfg, PositionUnit.axis, PositionUnit.withAxis]

theorem notices_takeSamples (s : State) :
    Notices (if [Axis.bridge, .trolley, .hoist].any fun x => sampleEnters s.cfg x (s.pos.axis x) then [.posSuspect] else [])
      [] s (takeSamples s) := by
  have hT : (takeSample .bridge s).pos.axis .trolley = s.pos.axis .trolley := by rw [takeSample_pos]; rfl
  have hH : (takeSample .trolley (takeSample .bridge s)).pos.axis .hoist = s.pos.axis .hoist := by
    rw [takeSample_pos, takeSample_pos]; rfl
  have htrolley := notices_takeSample .trolley (takeSample .bridge s)
  have hhoist := notices_takeSample .hoist (takeSample .trolley (takeSample .bridge s))
  rw [hT, takeSample_cfg] at htrolley
  rw [hH, takeSample_cfg, takeSample_cfg] at hhoist
  have hall := notices_trans_of_eq (notices_or (notices_or (notices_takeSample .bridge s) htrolley) hhoist)
    (takeSamples_notices s)
  simpa only [List.any_cons, List.any_nil, Bool.or_false, Bool.or_assoc] using hall

theorem keeps_positionSample (s : State) : Keeps [.pos, .perm, .table] s (positionSample s) :=
  ((keeps_takeSamples s).andThen (ds := [.pos, .perm]) (keeps_withPerm ..)).andThen (keeps_evalEntries _)

theorem notices_positionSample (s : State) :
    Notices (if [Axis.bridge, .trolley, .hoist].any fun x => sampleEnters s.cfg x (s.pos.axis x) then [.posSuspect] else [])
      [] s (positionSample s) :=
  notices_trans_of_eq (notices_takeSamples s)
    (by rw [positionSample_eq, evalEntries_notices, sampleHoist, State.withPerm_notices])

theorem positionSample_axis (s : State) (x : Axis) :
    (positionSample s).pos.axis x = sampleAxis s.cfg x (s.pos.axis x) := takeSamples_axis s x

theorem positionSample_sampleElapsed (s : State) : (positionSample s).pos.sampleElapsed = 0 := rfl

/-- R77: the hook heights and the hoist speed after a sample, and the parts of the permission unit that stand. -/
theorem positionSample_perm (s : State) :
    let now := (sampleAxis s.cfg .hoist s.pos.hoist).current
    let perm := (positionSample s).perm
    perm.hoistPrev = s.perm.hoistNow ∧ perm.hoistNow = now ∧ perm.hoistSpeed = sampleSpeed now s.perm.hoistNow ∧
      perm.switches = s.perm.switches ∧ perm.zones.map Zone.entry = s.perm.zones.map Zone.entry := by
  obtain ⟨hswitches, hnow, -, -, hzones⟩ := (keeps_takeSamples s).2 .perm (by simp)
  have hhoist : (takeSamples s).pos.hoist = sampleAxis s.cfg .hoist s.pos.hoist := takeSamples_axis s .hoist
  simp [positionSample_eq, sampleHoist, hhoist, hswitches, hnow, hzones]

/-- Settles O14: the three axes are sampled one by one, then the hook heights and the entries follow. -/
theorem positionSampleTakesPositions : Obligations.PositionSampleTakesPositions := by
  intro s hrun
  have htable := (sampleHoist_table _).trans (takeSamples_table s)
  obtain ⟨hprev, hnow, hspeed, hswitches, hzones⟩ := positionSample_perm s
  obtain ⟨hswitches', hnow', hprev', hspeed', hzones'⟩ := (keeps_settle (positionSample s)).2 .perm (by simp)
  have hdoubt (x : Axis) := sampleDoubted_eq s.cfg x (s.pos.axis x) _ rfl
  have hcurrent : (sampleAxis s.cfg .hoist s.pos.hoist).current =
      clampInt 0 (axisMax .hoist) (rawPosition (s.pos.axis .hoist) (scaleOf s.cfg .hoist)) := by rw [sampleAxis_eq]; rfl
  refine ⟨settle (positionSample s), by simp [exec, execPositionSample, event_of_running, hrun], fun x => ?_, ?_,
    hprev'.trans hprev, ?_, ?_, hswitches'.trans hswitches, hzones'.trans hzones, ?_, ?_,
    acts_settle (keeps_positionSample s) ?_⟩
  · rw [settle_pos, positionSample_axis, sampleAxis_eq, hdoubt]
    rfl
  · rw [settle_pos, positionSample_sampleElapsed]
  · rw [hnow', hnow, hcurrent]
    rfl
  · rw [hspeed', hspeed, hcurrent]
    rfl
  · exact sameReports_of_evalEntries htable (settle_table _)
  · rw [positionSample_eq, settle_evalEntries_entries, htable]
  · have hnotices := notices_positionSample s
    simp only [sampleEnters, hdoubt] at hnotices
    exact hnotices

/-! ### Reference marks (R7 to R10) -/

/-- R7: a mark is at least as near to a position as another, and the lower one where both are equally near. -/
def MarkBefore (pm : Int) (m k : Nat) : Prop :=
  ((m : Int) - pm).natAbs < ((k : Int) - pm).natAbs ∨ (((m : Int) - pm).natAbs = ((k : Int) - pm).natAbs ∧ m ≤ k)

theorem MarkBefore.refl (pm : Int) (m : Nat) : MarkBefore pm m m := .inr ⟨rfl, le_rfl⟩

theorem MarkBefore.trans {pm : Int} {m k l : Nat} (h : MarkBefore pm m k) (h' : MarkBefore pm k l) :
    MarkBefore pm m l := by
  unfold MarkBefore at *
  omega

theorem MarkBefore.antisymm {pm : Int} {m k : Nat} (h : MarkBefore pm m k) (h' : MarkBefore pm k m) : m = k := by
  unfold MarkBefore at *
  omega

/-- R7: of two marks the chosen one is one of them, and before both. -/
theorem nearerMark_spec (pm : Int) (m k : Nat) :
    (nearerMark pm m k = m ∨ nearerMark pm m k = k) ∧ MarkBefore pm (nearerMark pm m k) m ∧
      MarkBefore pm (nearerMark pm m k) k := by
  simp only [nearerMark, magnitude, MarkBefore, Int.ofNat_lt]
  split_ifs <;> omega

theorem foldl_nearerMark_spec (pm : Int) (ms : List Nat) (m : Nat) :
    ms.foldl (nearerMark pm) m ∈ m :: ms ∧ ∀ k ∈ m :: ms, MarkBefore pm (ms.foldl (nearerMark pm) m) k := by
  induction ms generalizing m with
  | nil => simp [MarkBefore.refl]
  | cons l ls ih =>
    obtain ⟨hmem, hbefore⟩ := ih (nearerMark pm m l)
    obtain ⟨heither, hm, hl⟩ := nearerMark_spec pm m l
    have hfirst := hbefore _ List.mem_cons_self
    refine ⟨?_, fun k hk => ?_⟩
    · simp only [List.foldl_cons, List.mem_cons] at hmem ⊢
      grind
    · rw [List.foldl_cons]
      obtain rfl | rfl | hk := by simpa using hk
      · exact hfirst.trans hm
      · exact hfirst.trans hl
      · exact hbefore k (List.mem_cons_of_mem _ hk)

/-- R7: a configured mark that is before every other is the one the part takes. -/
theorem nearestMark_eq_some {pm : Int} {marks : List Nat} {k : Nat} (hk : k ∈ marks)
    (hbefore : ∀ k' ∈ marks, MarkBefore pm k k') : nearestMark pm marks = some k := by
  cases marks with
  | nil => cases hk
  | cons m ms =>
    obtain ⟨hmem, hleast⟩ := foldl_nearerMark_spec pm ms m
    exact congrArg some ((hleast k hk).antisymm (hbefore _ hmem))

theorem markEdge_of_nearest {m : MarkedAxis} {s : State} {pm : Int} {k : Nat}
    (hpm : rawPosition (s.pos.axis (markedAxis m)) (scaleOf s.cfg (markedAxis m)) = pm)
    (h : nearestMark pm (marksOf s.cfg m) = some k) : markEdge m s = applyMark (markedAxis m) (k - pm) s := by
  simp [markEdge, hpm, h]

theorem markEdge_of_noMarks {m : MarkedAxis} {s : State} (h : marksOf s.cfg m = []) : markEdge m s = s := by
  simp [markEdge, h, nearestMark]

theorem markAccepted_iff (tolerance : Nat) (e : Int) (u : AxisUnit) : markAccepted tolerance e u = true ↔
    e.natAbs ≤ tolerance ∨ (u.state = .suspect ∧ ∃ r ∈ u.remembered, (e - r).natAbs ≤ tolerance) := by
  have hmagnitude (v : Int) : magnitude v ≤ tolerance ↔ v.natAbs ≤ tolerance := Int.ofNat_le
  cases h : u.remembered <;> simp [markAccepted, hmagnitude, h]

section
variable {axis : Axis} {e : Int} {s : State}

/-- R8, R10: an accepted mark corrects the axis, and the entries are evaluated. -/
theorem applyMark_of_accepted (h : markAccepted s.cfg.tolerance e (s.pos.axis axis) = true) :
    applyMark axis e s = evalEntries (s.withPos (s.pos.withAxis axis ((s.pos.axis axis).correct axis e))) := by
  simp [applyMark, h]

theorem applyMark_pos_of_accepted (h : markAccepted s.cfg.tolerance e (s.pos.axis axis) = true) :
    (applyMark axis e s).pos = s.pos.withAxis axis ((s.pos.axis axis).correct axis e) := by
  rw [applyMark_of_accepted h, evalEntries_pos, State.withPos_pos]

theorem keeps_applyMark_of_accepted (h : markAccepted s.cfg.tolerance e (s.pos.axis axis) = true) :
    Keeps [.pos, .table] s (applyMark axis e s) := by
  rw [applyMark_of_accepted h]
  exact (keeps_withPos ..).andThen (keeps_evalEntries _)

theorem applyMark_notices_of_accepted (h : markAccepted s.cfg.tolerance e (s.pos.axis axis) = true) :
    (applyMark axis e s).notices = s.notices := by
  rw [applyMark_of_accepted h, evalEntries_notices, State.withPos_notices]

/-- R9: any other mark is remembered and makes the axis SUSPECT. -/
theorem applyMark_of_refused (h : ¬ markAccepted s.cfg.tolerance e (s.pos.axis axis) = true) :
    applyMark axis e s = raise .posSuspect
      (s.withPos (s.pos.withAxis axis { s.pos.axis axis with remembered := some e, state := .suspect })) := by
  simp [applyMark, h]

theorem applyMark_pos_of_refused (h : ¬ markAccepted s.cfg.tolerance e (s.pos.axis axis) = true) :
    (applyMark axis e s).pos =
      s.pos.withAxis axis { s.pos.axis axis with remembered := some e, state := .suspect } := by
  rw [applyMark_of_refused h, raise_pos, State.withPos_pos]

theorem keeps_applyMark_of_refused (h : ¬ markAccepted s.cfg.tolerance e (s.pos.axis axis) = true) :
    Keeps [.pos] s (applyMark axis e s) := by
  rw [applyMark_of_refused h]
  exact (keeps_withPos ..).andThen (keeps_raise ..)

theorem notices_applyMark_of_refused (h : ¬ markAccepted s.cfg.tolerance e (s.pos.axis axis) = true) :
    Notices [.posSuspect] [] s (applyMark axis e s) := by
  rw [applyMark_of_refused h]
  exact notices_of_eq_trans (State.withPos_notices ..) (notices_raise ..)

end

/-- Settles O15: the nearest mark is the one given, and its error is accepted or refused. -/
theorem markEdgeCorrectsOrDoubts : Obligations.MarkEdgeCorrectsOrDoubts := by
  intro m s hrun x u pm
  have hexec : exec (.markEdge m) s = .next (settle (markEdge m s)) := by
    simp [exec, execMarkEdge, event_of_running, hrun]
  refine ⟨fun hnone => ⟨_, hexec, ?_⟩, fun k hk hbefore => ?_⟩
  · rw [markEdge_of_noMarks hnone]
    exact acts_settle (keeps_refl ..) (notices_refl ..)
  · intro e
    refine ⟨_, hexec, ?_⟩
    rw [markEdge_of_nearest (pm := pm) rfl (nearestMark_eq_some hk hbefore)]
    split
    next haccepted =>
      have haccepted' := (markAccepted_iff ..).2 haccepted
      obtain ⟨haxis, hothers, hacts⟩ := acts_settle_withAxis (applyMark_pos_of_accepted haccepted')
        (keeps_applyMark_of_accepted haccepted') (notices_of_eq (applyMark_notices_of_accepted haccepted'))
      have hentries := applyMark_of_accepted haccepted'
      refine ⟨hothers, haxis, sameReports_of_evalEntries ?_ (by rw [hentries, settle_table]), ?_, hacts⟩
      · exact State.withPos_table ..
      · rw [hentries, settle_evalEntries_entries, State.withPos_table]
    next hrefused =>
      have hrefused' := mt (markAccepted_iff ..).1 hrefused
      obtain ⟨haxis, hothers, hacts⟩ := acts_settle_withAxis (applyMark_pos_of_refused hrefused')
        (keeps_applyMark_of_refused hrefused') (notices_applyMark_of_refused hrefused')
      exact ⟨hothers, haxis, hacts⟩

/-! ### Referencing by request (R11, R12) -/

theorem referenceAxis_pos (axis : Axis) (position : Int) (s : State) : (referenceAxis axis position s).pos =
    s.pos.withAxis axis ((s.pos.axis axis).reference (scaleOf s.cfg axis) position) := by cases axis <;> rfl

theorem keeps_referenceAxis (axis : Axis) (position : Int) (s : State) :
    Keeps [.pos, .perm, .table] s (referenceAxis axis position s) := by
  cases axis
  case hoist =>
    exact ((keeps_withPos _ s).andThen (ds := [.pos, .perm]) (keeps_withPerm ..)).andThen (keeps_evalEntries _)
  all_goals exact (keeps_withPos _ s).andThen (keeps_evalEntries _)

theorem referenceAxis_port (axis : Axis) (position : Int) (s : State) :
    (referenceAxis axis position s).port = s.port := (keeps_referenceAxis axis position s).2 .port (by simp)

theorem referenceAxis_notices (axis : Axis) (position : Int) (s : State) :
    (referenceAxis axis position s).notices = s.notices := by cases axis <;> rfl

/-- R77: the referenced hoist position goes into both held hook heights, and nothing else of the permission unit changes. -/
theorem referenceAxis_perm (axis : Axis) (position : Int) (s : State) : (referenceAxis axis position s).perm =
    { s.perm with
      hoistNow := if axis = .hoist then position else s.perm.hoistNow
      hoistPrev := if axis = .hoist then position else s.perm.hoistPrev } := by cases axis <;> rfl

/-- The entries are evaluated where the axis has moved. -/
theorem referenceAxis_eq_evalEntries (axis : Axis) (position : Int) (s : State) :
    ∃ u, u.table = s.table ∧ referenceAxis axis position s = evalEntries u := by
  cases axis <;> exact ⟨_, by rfl, rfl⟩

/-- A refused POS_REFERENCE is answered and does nothing else. -/
theorem posReference_answers {code position : Nat} {s : State} {r : Status} (hrun : Running s)
    (h : posReference code position s = (s, .err r)) (hr : r ≠ .ok) :
    Answers (.posReference code position) (.err r) s := by
  rw [Answers, exec, execPosReference, request_of_answer hrun h hr]

/-- Settles O16: the checks in their order, then the reference of the axis. -/
theorem posReferenceSetsAxis : Obligations.PosReferenceSetsAxis := by
  intro code position s hrun
  cases haxis : axisOfCode code with
  | none => exact posReference_answers hrun (by simp [posReference, haxis]) (by decide)
  | some x =>
    dsimp only
    split
    next hrange => exact posReference_answers hrun (by simp [posReference, haxis, hrange]) (by decide)
    next hrange =>
      split
      next hmoving =>
        exact posReference_answers hrun (by simp [posReference, haxis, hrange, hmoving]) (by decide)
      next hrest =>
        have hbody : posReference code position s = (referenceAxis x position s, .okWith []) := by
          simp [posReference, haxis, hrange, hrest]
        have hexec : exec (.posReference code position) s =
            .next (respond (.okWith []) (settle (referenceAxis x position s))) := by
          rw [exec, execPosReference, request_of_acceptance hrun hbody]
        have hpos := referenceAxis_pos x position s
        have hperm := referenceAxis_perm x position s
        obtain ⟨hswitches, hnow, hprev, hspeed, hzones⟩ := (keeps_settle (referenceAxis x position s)).2 .perm (by simp)
        obtain ⟨u, htable, heval⟩ := referenceAxis_eq_evalEntries x position s
        have hmoved := ((respond_pos (.okWith []) _).trans (settle_pos _)).trans hpos
        refine ⟨_, hexec, ?_, otherAxesKept_of_withAxis hmoved, ?_, ?_, ?_, ?_, ?_, ?_, ?_, accepts_settle
          (keeps_referenceAxis ..) (notices_of_eq (referenceAxis_notices ..)) (referenceAxis_port ..)⟩
        · rw [hmoved, PositionUnit.axis_withAxis_same]
          rfl
        · rw [respond_perm, hnow, hperm]
        · rw [respond_perm, hprev, hperm]
        · rw [respond_perm, hspeed, hperm]
        · rw [respond_perm, hswitches, hperm]
        · rw [respond_perm, hzones, hperm]
        · exact sameReports_of_evalEntries htable (by rw [respond_table, settle_table, heval])
        · rw [evalEntry_respond, respond_table, ← htable, heval, settle_evalEntries_entries]

end Sys2Proof.Machine
end

section
/-! PROOFS. The step on an empty queue: the arrangement of rows that come together, when each row is due, what a tick
advances, and the claim about them. -/

namespace Sys2Proof.Machine

/-! ### The order of commands that come together -/

theorem insertAt_perm {α : Type} (x : α) (n : Nat) (xs : List α) : (insertAt x n xs).Perm (x :: xs) := by
  induction n generalizing xs with
  | zero => exact .refl _
  | succ n ih =>
    cases xs with
    | nil => exact .refl _
    | cons y ys => exact ((ih ys).cons y).trans (.swap ..)

/-- Whatever its code, an arrangement holds each element once. -/
theorem arrange_perm {α : Type} (xs : List α) (k : Nat) : (arrange xs k).Perm xs := by
  fun_induction arrange xs k with
  | case1 => exact .refl _
  | case2 => exact .refl _
  | case3 x y ys k ih => exact (insertAt_perm ..).trans (ih.cons x)

/-! ### When a row is due -/

theorem when_eq_ite {b : Bool} {p : Prop} [Decidable p] (h : b = true ↔ p) (c : Instr) :
    when b c = if p then [c] else [] := by
  simp [when, h]

theorem deferredDue_iff (s : State) :
    deferredDue s = true ↔ s.link.statusDeferred = true ∧ s.link.sending ≠ some .status := by
  simp [deferredDue]

theorem farewellDue_iff (s : State) : farewellDue s = true ↔
    s.link.state = .active ∧ s.link.leaving = true ∧ s.link.boxes.release = none ∧ s.link.boxes.book = none ∧
      s.link.boxes.truck = none ∧ s.claims.heldRequests = [] ∧ farewellWaits s.link.boxes = false ∧
      s.link.sending ≠ some .status := by
  simp [farewellDue, and_assoc]

theorem retryDue_iff (s : State) : retryDue s = true ↔ s.link.boxes.release = none ∧ s.claims.heldRequests ≠ [] := by
  simp [retryDue]

theorem bookingDue_iff (s : State) :
    bookingDue s = true ↔ s.link.boxes.book = none ∧ ∃ k ∈ s.tracker.task, k.waiting.isSome = true := by
  cases h : s.tracker.task <;> simp [bookingDue, bookFull, h]

theorem untrackedDue_iff (s : State) :
    untrackedDue s = true ↔ s.table.untracked = true ∧ 10 * s.cfg.beat < s.table.untrackedAge := by
  simp only [untrackedDue, Bool.and_eq_true, decide_eq_true_eq]
  rfl

theorem windowDue_iff (s : State) :
    windowDue s = true ↔ ∃ r ∈ s.claims.round, r.stage = .opened ∧ s.cfg.claimWindow ≤ r.windowTime := by
  cases h : s.claims.round <;> simp [windowDue, h]

theorem lostDue_iff (s : State) (e : Entry) :
    lostDue s e = true ↔ e.state ≠ .lost ∧ 10 * s.cfg.beat < e.age := by
  simp only [lostDue, Bool.and_eq_true, decide_eq_true_eq]
  rfl

theorem staleDue_iff (s : State) (e : Entry) :
    staleDue s e = true ↔ e.state = .fresh ∧ 3 * s.cfg.beat < e.age ∧ e.age ≤ 10 * s.cfg.beat := by
  simp only [staleDue, Bool.and_eq_true, decide_eq_true_eq, and_assoc]
  rfl

theorem heldDue_eq (s : State) (v : Reservation) : heldDue s v =
    decide (v.holder ≠ .own ∧ v.phase = .pending ∧ s.cfg.claimWindow ≤ (s.clock.now - v.since).toNat) := by
  simp [heldDue, Reservation.isOwn, Bool.decide_and, Bool.and_assoc]

/-- The rows of the elements that meet a test, in their order. -/
theorem map_filter_eq_filterMap_ite {α β : Type} {p : α → Bool} {q : α → Prop} [DecidablePred q]
    (h : ∀ a, p a = true ↔ q a) (f : α → β) (l : List α) :
    (l.filter p).map f = l.filterMap fun a => if q a then some (f a) else none := by
  induction l with
  | nil => rfl
  | cons a l ih => by_cases ha : q a <;> simp_all

/-- R140: the rows of the slots whose peer reservations have passed the claim window. -/
def heldDueSlots (s : State) : List Instr :=
  s.map.zipIdx.filterMap fun p =>
    if (slotResv p.1.content).any (heldDue s) then
      some (.peerReservationHeld (.slot (refOfIndex s p.2).1 (refOfIndex s p.2).2)) else none

/-- R140: the rows of the cradles of a bay whose peer reservations have passed the claim window. -/
def heldDueCradles (s : State) (bay : Nat) : List Instr :=
  ((bayRecord s bay).map Truck.cradles |>.getD []).zipIdx.filterMap fun p =>
    if (cradleResv p.1.content).any (heldDue s) then some (.peerReservationHeld (.cradle bay p.2)) else none

theorem map_heldDueRefs (s : State) : (heldDueRefs s).map Instr.peerReservationHeld =
    heldDueSlots s ++ [0, 1].flatMap (heldDueCradles s) := by
  rw [heldDueRefs, List.map_append, List.map_flatMap, List.map_filterMap]
  refine congrArg₂ _ ?_ (congrArg₂ List.flatMap (funext fun bay => ?_) rfl)
  · refine congrArg₂ _ (funext fun ⟨r, i⟩ => ?_) rfl
    cases hr : slotResv r.content with
    | none => simp [hr]
    | some v => by_cases hv : heldDue s v <;> simp [hr, hv]
  · rw [heldDueCradles]
    cases bayRecord s bay with
    | none => rfl
    | some t =>
      rw [List.map_filterMap]
      refine congrArg₂ _ (funext fun ⟨k, i⟩ => ?_) rfl
      cases hk : cradleResv k.content with
      | none => simp [hk]
      | some v => by_cases hv : heldDue s v <;> simp [hk, hv]

/-! ### The idle step -/

theorem step_of_empty {s : State} (h : s.pending = []) : step s = .next (idle s) := by simp [step, h]

theorem idle_of_held {s : State} (h : s.clock.resetHeld = true) : idle s = s := by simp [idle, h]

/-- The idle step posts what follows at once, or what is due after a tick. -/
theorem idle_of_running {s : State} (h : s.clock.resetHeld = false) :
    idle s = if followUps s = [] then post (dueRows (tick s)) (tick s) else post (followUps s) s := by
  simp [idle, h, List.isEmpty_iff]

/-- What is posted, each row once, and what a post leaves unchanged. -/
theorem post_spec (rows : List Instr) (s : State) :
    (post rows s).pending.Perm rows ∧ (post rows s).clock = { s.clock with idleCount := s.clock.idleCount + 1 } ∧
      (post rows s).notices = s.notices ∧ (post rows s).perm = s.perm ∧ (post rows s).trucks = s.trucks ∧
      ∀ b, b ≠ .clock → SameBlock s (post rows s) b :=
  ⟨arrange_perm .., rfl, rfl, rfl, rfl, fun b hb => by cases b <;> simp_all [SameBlock, post]⟩

theorem roundTick_eq (window : Nat) (r : Round) : roundTick window r =
    if r.stage = .opened then { r with windowTime := min window (r.windowTime + 1) } else r := by
  cases h : r.stage <;> simp [roundTick, h]

theorem keeps_tick (s : State) : Keeps [.clock, .pos, .weigh, .link, .table, .claims] s (tick s) :=
  ⟨rfl, fun b hb => by cases b <;> simp_all [SameBlock, tick]⟩

theorem tick_claims (s : State) : (tick s).claims = { s.claims with
    round := s.claims.round.map fun r =>
      if r.stage = .opened then { r with windowTime := min s.cfg.claimWindow (r.windowTime + 1) } else r } := by
  rw [show (tick s).claims = { s.claims with round := s.claims.round.map (roundTick s.cfg.claimWindow) } from rfl,
    funext (roundTick_eq s.cfg.claimWindow)]

/-- Settles O3: the rows the model names are those of the statement, and a post arranges them. -/
theorem emptyQueuePassesTheMillisecond : Obligations.EmptyQueuePassesTheMillisecond := by
  refine ⟨fun s hempty => ?_, fun s => ⟨rfl, rfl, rfl, rfl, rfl, tick_claims s, keeps_tick s, rfl, rfl, rfl⟩⟩
  intro row atOnce u windowPassed cradlesDue due
  have hatOnce : followUps s = atOnce := by
    rw [followUps, when_eq_ite (deferredDue_iff s), when_eq_ite (farewellDue_iff s), when_eq_ite (retryDue_iff s),
      when_eq_ite (bookingDue_iff s)]
    rfl
  have hdue : dueRows u = due := by
    have hpassed : heldDue u = windowPassed := funext fun v => heldDue_eq u v
    rw [dueRows, map_filter_eq_filterMap_ite (lostDue_iff u), map_filter_eq_filterMap_ite (staleDue_iff u),
      when_eq_ite (untrackedDue_iff u), when_eq_ite (windowDue_iff u), map_heldDueRefs, heldDueSlots,
      when_eq_ite decide_eq_true_iff, when_eq_ite decide_eq_true_iff,
      when_eq_ite decide_eq_true_iff]
    simp only [List.flatMap_cons, List.flatMap_nil, List.append_nil, heldDueCradles, hpassed, ← List.append_assoc]
    rfl
  refine ⟨idle s, step_of_empty hempty, ?_⟩
  cases hheld : s.clock.resetHeld with
  | true => simpa using idle_of_held hheld
  | false =>
    rw [idle_of_running hheld, hatOnce, hdue]
    by_cases hnone : atOnce = []
    · simp only [hnone, ↓reduceIte, Bool.false_eq_true]
      exact post_spec due u
    · simp only [hnone, ↓reduceIte, Bool.false_eq_true]
      exact post_spec atOnce s

end Sys2Proof.Machine
end

section
/-! PROOFS. The reset pin and RESTART: the state after a reset, what the end of a round leaves where no task runs, and the
claims about them. -/

namespace Sys2Proof.Machine

/-! ### The reset pin (R208) -/

/-- Settles O4: block by block; an axis keeps the levels of its encoder lines. -/
theorem pinResetReleaseResetsEveryBlock : Obligations.PinResetReleaseResetsEveryBlock := by
  intro s
  refine ⟨releaseReset s, rfl, rfl, rfl, rfl, rfl, rfl, rfl, rfl, rfl, rfl, rfl, rfl, rfl, rfl, rfl, rfl, rfl, rfl, rfl,
    rfl, rfl, rfl, fun x => ?_, rfl, rfl, rfl⟩
  cases x <;> rfl

/-- Settles O7: the station holds no record at reset, and its outputs are at STOP as the link state CONFIG has them. -/
theorem resetKeepsTheLaws : Obligations.ResetKeepsTheLaws := by
  have hnone : allReservations State.reset = [] := rfl
  refine ⟨⟨by decide, by decide⟩, ⟨nofun, nofun⟩, ⟨by decide, by decide, fun e he => (List.not_mem_nil he).elim⟩, rfl, ?_, ?_⟩
  · simp [PeersKnown, hnone]
  · simp [OwnOnlyRunning, hnone]

/-! ### Releases of every reservation -/

/-- The release of a slot is the removal of its reservation, with the source of the change where there was one (R105). -/
theorem SlotRecord.releaseIf_eq_without (p : Reservation → Bool) (source : ChangeSource) (r : SlotRecord) :
    r.releaseIf p source = r.without p source := by
  obtain ⟨content, src⟩ := r
  cases content with
  | reservedIn v | reservedOut _ v =>
    by_cases hv : p v = true <;>
      simp [SlotRecord.releaseIf, SlotRecord.without, SlotContent.without, SlotContent.release, slotResv, hv]
  | _ => rfl

theorem CradleContent.releaseIf_eq_without (p : Reservation → Bool) (c : CradleContent) :
    c.releaseIf p = c.without p := by
  cases c <;> rfl

theorem releaseWhere_allReleased (p : Reservation → Bool) (source : ChangeSource) (s : State) :
    AllReleased p source s (releaseWhere p source s) := by
  simp only [AllReleased, releaseWhere, State.withTrucks_map, State.withTrucks_trucks, State.withMap_map,
    TruckUnit.mapCradles, funext (SlotRecord.releaseIf_eq_without p source), CradleContent.releaseIf_eq_without]
  exact ⟨trivial, rfl, rfl⟩

theorem slotResv_without_all (c : SlotContent) : slotResv (c.without fun _ => true) = none := by cases c <;> rfl

theorem cradleResv_without_all (c : CradleContent) : cradleResv (c.without fun _ => true) = none := by cases c <;> rfl

theorem allReservations_of_allReleased {source : ChangeSource} {s t : State}
    (h : AllReleased (fun _ => true) source s t) : allReservations t = [] := by
  obtain ⟨hmap, hbay0, hbay1⟩ := h
  rw [allReservations, hmap, hbay0, hbay1]
  simp [SlotRecord.without, Truck.without, slotResv_without_all, cradleResv_without_all,
    List.filterMap_map]

/-! ### Changes of reservations alone -/

/-- The state with every reservation released, whose records no change of reservations alone reaches. -/
def unreserved (s : State) : State := releaseWhere (fun _ => true) .own s

/-- Two states whose records are the same once every reservation is released. -/
def SameUnreserved (s t : State) : Prop :=
  (unreserved t).map = (unreserved s).map ∧ (unreserved t).trucks = (unreserved s).trucks

theorem SameUnreserved.refl (s : State) : SameUnreserved s s := ⟨rfl, rfl⟩

theorem SameUnreserved.trans {s t u : State} (h : SameUnreserved s t) (k : SameUnreserved t u) : SameUnreserved s u :=
  ⟨k.1.trans h.1, k.2.trans h.2⟩

theorem SlotRecord.releaseIf_releaseIf (p : Reservation → Bool) (r : SlotRecord) :
    (r.releaseIf p .own).releaseIf (fun _ => true) .own = r.releaseIf (fun _ => true) .own := by
  obtain ⟨content, src⟩ := r
  cases content with
  | reservedIn v | reservedOut _ v =>
    by_cases hv : p v = true <;> simp [SlotRecord.releaseIf, SlotContent.release, slotResv, hv]
  | _ => rfl

theorem SlotRecord.releaseIf_mapResv (f : Reservation → Reservation) (r : SlotRecord) :
    ({ r with content := r.content.mapResv f } : SlotRecord).releaseIf (fun _ => true) .own =
      r.releaseIf (fun _ => true) .own := by
  obtain ⟨content, src⟩ := r
  cases content <;> rfl

theorem CradleContent.releaseIf_releaseIf (p : Reservation → Bool) (c : CradleContent) :
    (c.releaseIf p).releaseIf (fun _ => true) = c.releaseIf fun _ => true := by
  cases c with
  | reserved v => by_cases hv : p v = true <;> simp [CradleContent.releaseIf, CradleContent.release, cradleResv, hv]
  | _ => rfl

theorem CradleContent.releaseIf_mapResv (f : Reservation → Reservation) (c : CradleContent) :
    (c.mapResv f).releaseIf (fun _ => true) = c.releaseIf fun _ => true := by
  cases c <;> rfl

theorem sameUnreserved_mapReservations (f : Reservation → Reservation) (s : State) :
    SameUnreserved s (mapReservations f s) := by
  simp [SameUnreserved, unreserved, releaseWhere, mapReservations, TruckUnit.mapCradles, Function.comp_def,
    SlotRecord.releaseIf_mapResv, CradleContent.releaseIf_mapResv]

theorem map_set_of_eq {α β : Type} {f : α → β} {xs : List α} {i : Nat} {x y : α} (hx : xs[i]? = some x)
    (h : f y = f x) : (xs.set i y).map f = xs.map f := by
  refine List.ext_getElem? fun j => ?_
  simp only [List.getElem?_map, List.getElem?_set]
  grind

theorem map_modify_of_eq {α β : Type} {f : α → β} {g : α → α} {xs : List α} {i : Nat} {x : α} (hx : xs[i]? = some x)
    (h : f (g x) = f x) : (xs.modify i g).map f = xs.map f := by
  refine List.ext_getElem? fun j => ?_
  simp only [List.getElem?_map, List.getElem?_modify]
  grind

/-- A slot takes a record that is the same once released: the map alone changes. -/
theorem setSlot_form {row column : Nat} {r r' : SlotRecord} {s : State} (hr : slotAt s row column = some r)
    (h : r'.releaseIf (fun _ => true) .own = r.releaseIf (fun _ => true) .own) :
    ∃ m, setSlot row column r' s = s.withMap m ∧ SameUnreserved s (s.withMap m) := by
  simp only [slotAt] at hr
  simp only [setSlot]
  cases hg : s.cfg.geometry with
  | none => simp [hg] at hr
  | some g =>
    cases hi : slotIndex g row column with
    | none => simp [hg, hi] at hr
    | some i =>
      replace hr : s.map[i]? = some r := by simpa [hg, hi] using hr
      exact ⟨s.map.set i r', by simp [hi], map_set_of_eq hr h, rfl⟩

/-- A cradle takes a content that is the same once released: the truck records alone change. -/
theorem setCradle_form {bay index : Nat} {k : Cradle} {c : CradleContent} {s : State} (hk : cradleAt s bay index = some k)
    (h : c.releaseIf (fun _ => true) = k.content.releaseIf fun _ => true) :
    ∃ u, setCradle bay index c s = s.withTrucks u ∧ SameUnreserved s (s.withTrucks u) := by
  simp only [cradleAt] at hk
  simp only [setCradle]
  cases hb : bayRecord s bay with
  | none => simp [hb] at hk
  | some b =>
    replace hk : b.cradles[index]? = some k := by simpa [hb] using hk
    have hcradles := map_modify_of_eq (f := fun k : Cradle => { k with content := k.content.releaseIf fun _ => true })
      (g := fun k => { k with content := c }) hk (by simp [h])
    match bay with
    | 0 | 1 =>
      refine ⟨_, rfl, rfl, ?_⟩
      simp only [bayRecord] at hb
      simp [unreserved, releaseWhere, TruckUnit.mapCradles, Truck.setCradle, hb, hcradles]
    | bay + 2 => simp [bayRecord] at hb

theorem releaseRef_form (p : Reservation → Bool) (ref : Ref) (s : State) :
    ∃ m u, releaseRef p .own ref s = (s.withMap m).withTrucks u ∧ SameUnreserved s (releaseRef p .own ref s) := by
  cases ref with
  | slot row column =>
    cases hr : slotAt s row column with
    | none => exact ⟨s.map, s.trucks, by simp [releaseRef, hr]; rfl, by simp [releaseRef, hr, SameUnreserved.refl]⟩
    | some r =>
      obtain ⟨m, hm, hsame⟩ := setSlot_form hr (r.releaseIf_releaseIf p)
      simp only [releaseRef, hr, hm]
      exact ⟨m, s.trucks, rfl, hsame⟩
  | cradle bay index =>
    cases hk : cradleAt s bay index with
    | none => exact ⟨s.map, s.trucks, by simp [releaseRef, hk]; rfl, by simp [releaseRef, hk, SameUnreserved.refl]⟩
    | some k =>
      obtain ⟨u, hu, hsame⟩ := setCradle_form hk (k.content.releaseIf_releaseIf p)
      simp only [releaseRef, hk, hu]
      exact ⟨s.map, u, rfl, hsame⟩

/-! ### The end of a round where no task runs -/

/-- Of the state nothing but reservations and the round has changed. -/
def RoundDropped (s t : State) : Prop :=
  ∃ m u r, t = ((s.withMap m).withTrucks u).withClaims { s.claims with round := r } ∧ SameUnreserved s t

theorem RoundDropped.refl (s : State) : RoundDropped s s := ⟨s.map, s.trucks, s.claims.round, rfl, .refl s⟩

theorem RoundDropped.trans {s t u : State} (h : RoundDropped s t) (k : RoundDropped t u) : RoundDropped s u := by
  obtain ⟨m, v, r, rfl, hsame⟩ := h
  obtain ⟨m', v', r', rfl, hsame'⟩ := k
  exact ⟨m', v', r', rfl, hsame.trans hsame'⟩

theorem roundDropped_withRound (r : Option Round) (s : State) :
    RoundDropped s (s.withClaims { s.claims with round := r }) := ⟨s.map, s.trucks, r, rfl, rfl, rfl⟩

theorem roundDropped_releaseRef (p : Reservation → Bool) (ref : Ref) (s : State) :
    RoundDropped s (releaseRef p .own ref s) := by
  obtain ⟨m, u, h, hsame⟩ := releaseRef_form p ref s
  exact ⟨m, u, s.claims.round, h, hsame⟩

theorem roundDropped_mapReservations (f : Reservation → Reservation) (s : State) :
    RoundDropped s (mapReservations f s) :=
  ⟨(mapReservations f s).map, (mapReservations f s).trucks, s.claims.round, rfl, sameUnreserved_mapReservations f s⟩

theorem roundDropped_foldl {α : Type} (f : State → α → State) (hf : ∀ s a, RoundDropped s (f s a)) (as : List α)
    (s : State) : RoundDropped s (as.foldl f s) := by
  induction as generalizing s with
  | nil => exact .refl s
  | cons a as ih => exact (hf s a).trans (ih _)

theorem RoundDropped.link {s t : State} (h : RoundDropped s t) : t.link = s.link := by
  obtain ⟨m, u, r, rfl, -⟩ := h
  rfl

theorem RoundDropped.taskRunning {s t : State} (h : RoundDropped s t) : taskRunning t = taskRunning s := by
  obtain ⟨m, u, r, rfl, -⟩ := h
  rfl

/-- R45: nothing is withdrawn where no CLAIM is being sent and none waits. -/
theorem withdrawClaim_of_empty (f : ReleaseFrame) {s : State} (hsending : s.link.sending ≠ some .claim)
    (hclaim : s.link.boxes.claim = none) : withdrawClaim f s = s := by
  rw [withdrawClaim, if_neg hsending, ← hclaim]
  rfl

/-- R165: a claim loss is told to a running task alone. -/
theorem tellClaimLost_of_notRunning (cause : Reason) {s : State} (h : taskRunning s = false) :
    tellClaimLost cause s = s := by
  cases hk : s.tracker.task with
  | none => simp [tellClaimLost, hk]
  | some k => cases hst : k.state <;> simp_all [tellClaimLost, taskRunning, TaskState.running]

/-- R166: a target loss is told to a running task alone. -/
theorem tellTargetLost_of_notRunning {s : State} (h : taskRunning s = false) : tellTargetLost s = s := by
  cases hk : s.tracker.task with
  | none => simp [tellTargetLost, hk]
  | some k => cases hst : k.state <;> simp_all [tellTargetLost, taskRunning, TaskState.running]

/-- R142: a late objection is ignored where no task runs. -/
theorem lateObjection_of_notRunning (cause : Reason) (ref : Ref) {s : State} (h : taskRunning s = false) :
    lateObjection cause ref s = s := by
  cases hk : s.tracker.task with
  | none => simp [lateObjection, hk]
  | some k =>
    cases hst : k.state <;> simp_all [lateObjection, taskRunning, TaskState.running, TaskState.beforeSetDown]

section
variable {s : State} (hsending : s.link.sending ≠ some .claim) (hclaim : s.link.boxes.claim = none)
include hsending hclaim

/-- R136: a QUEUED round whose CLAIM has gone leaves its reservations and nothing else. -/
theorem roundDropped_closeRound {r : Round} (hstage : r.stage = .queued) : RoundDropped s (closeRound r s) := by
  have hfreed := (roundDropped_withRound none s).trans (roundDropped_foldl
    (fun s (e : ClaimEntry) => releaseRef (Reservation.isOwnUnder r.number) .own e.ref s)
    (fun s e => roundDropped_releaseRef _ e.ref s) r.entries _)
  simp only [closeRound, hstage]
  rw [withdrawClaim_of_empty _ (by rwa [hfreed.link]) (by rwa [hfreed.link])]
  exact hfreed

theorem roundDropped_loseRound (cause : Reason) (hrun : taskRunning s = false) {r : Round}
    (hround : s.claims.round = some r) (hstage : r.stage = .queued) : RoundDropped s (loseRound cause s) := by
  have hclosed := roundDropped_closeRound hsending hclaim hstage
  have hrun' := hclosed.taskRunning.trans hrun
  simp only [loseRound, hround]
  cases r.purpose with
  | start => exact (tellClaimLost_of_notRunning cause hrun').symm ▸ hclosed
  | retarget => exact (tellTargetLost_of_notRunning hrun').symm ▸ hclosed
  | reassert => exact .refl s

theorem roundDropped_failReassert (hrun : taskRunning s = false) {r : Round} (hstage : r.stage = .queued) :
    RoundDropped s (failReassert r s) := by
  simp only [failReassert, hstage]
  rw [withdrawClaim_of_empty _ hsending hclaim, List.foldl_fixed']
  · exact (roundDropped_withRound none s).trans (roundDropped_mapReservations ..)
  · intro e
    split
    · rfl
    · rw [lateObjection_of_notRunning _ _ hrun, ite_self]

/-- R135: an entry to a link state other than ACTIVE, where no task runs and no CLAIM is left in its mailbox. -/
theorem roundDropped_linkDown (hrun : taskRunning s = false) : RoundDropped s (linkDown s) := by
  cases hround : s.claims.round with
  | none => simpa only [linkDown, hround] using .refl s
  | some r =>
    cases hstage : r.stage with
    | opened => simpa only [linkDown, hround, hstage] using .refl s
    | queued =>
      simp only [linkDown, hround, hstage]
      split
      · exact roundDropped_failReassert hsending hclaim hrun hstage
      · exact roundDropped_loseRound hsending hclaim _ hrun hround hstage

end

/-! ### RESTART (R207) -/

/-- The link record that RESTART leaves (R58). -/
def Link.restarted (l : Link) : Link :=
  { l with
    state := .config, txErr := 0, rxErr := 0, leaving := false, beats := 0, afterMuted := false, sending := none
    receiving := false, statusDeferred := false, withdrawal := none
    boxes := { l.boxes with status := none, claim := none, objects := [] } }

/-- R58: the link enters CONFIG with its counts cleared; of the rest only reservations and the round change. -/
theorem restartLink_form {s : State} (hrun : taskRunning s = false) :
    ∃ m u r, restartLink s = (((s.withMap m).withTrucks u).withClaims { s.claims with round := r }).withLink
      s.link.restarted ∧ SameUnreserved s (restartLink s) := by
  obtain ⟨m, u, r, h, hsame⟩ := roundDropped_linkDown (s := (updateLink (fun l => { l with
    leaving := false, statusDeferred := false, receiving := false, sending := none, withdrawal := none
    boxes := emptyVolatileBoxes l.boxes }) (enterLinkState .config false s))) nofun rfl hrun
  refine ⟨m, u, r, ?_, hsame⟩
  rw [restartLink, enterConfig, h]
  rfl

/-- The changes of RESTART where no task runs, block by block. -/
theorem restartChanges_spec {s : State} (hrun : taskRunning s = false) :
    let t := restartChanges s
    t.link = s.link.restarted ∧ t.claims = { s.claims with round := none } ∧ t.weigh = s.weigh.restart ∧
      t.table = .reset ∧ t.map = (unreserved s).map ∧ t.trucks = (unreserved s).trucks ∧ t.tracker = .reset ∧
      t.notices = s.notices.clearFlags ∧ t.clock = s.clock ∧ t.cfg = s.cfg ∧ t.pos = s.pos ∧ t.perm = s.perm ∧
      t.port = s.port ∧ t.pending = s.pending := by
  obtain ⟨m, u, r, h, hmap, htrucks⟩ := restartLink_form hrun
  rw [h] at hmap htrucks
  rw [← hmap, ← htrucks]
  simp [restartChanges, h, unreserved, releaseWhere, ClaimEngine.restart]

theorem unreserved_allReleased (s : State) : AllReleased (fun _ => true) .own s (unreserved s) :=
  releaseWhere_allReleased ..

/-- R207: a running task comes first, then a loaded hook; with neither RESTART is accepted. -/
theorem restartBody_of_task {s : State} (hrun : taskRunning s = true) : restartBody s = (s, .err .busy) := by
  simp [restartBody, hrun]

theorem restartBody_of_loaded {s : State} (hrun : taskRunning s = false) (hload : s.weigh.load = .loaded) :
    restartBody s = (s, .err .hookLoaded) := by
  simp [restartBody, hrun, hload]

theorem restartBody_of_accepted {s : State} (hrun : taskRunning s = false) (hload : s.weigh.load ≠ .loaded) :
    restartBody s = (restartChanges s, .okWith []) := by
  simp [restartBody, hrun, hload]

/-! ### The notices of an evaluation -/

theorem driveAttn_sources (s : State) : (driveAttn s).notices.sources = s.notices.sources := rfl

theorem driveAttn_groups (s : State) : (driveAttn s).notices.groups = s.notices.groups := rfl

/-- Where the hook is not loaded a settled state has raised ZONE_INSIDE where a zone is entered, and nothing else. -/
theorem settle_notices_of_unloaded {s : State} (h : s.weigh.load ≠ .loaded) :
    (settle s).notices.sources = ((if zoneEntered s then raise .zoneInside s else s).notices).sources ∧
      (settle s).notices.groups = ((if zoneEntered s then raise .zoneInside s else s).notices).groups := by
  have hstops : truckStops (evalZones (evalLimits s)) = false := by simp [truckStops, h]
  have hcheck : (evalTruckCheck (evalZones (evalLimits s))).notices = (evalZones (evalLimits s)).notices := by
    simp [evalTruckCheck, hstops]
  have hzones : (evalZones (evalLimits s)).notices = (if zoneEntered s then raise .zoneInside s else s).notices := by
    rw [evalZones, show zoneEntered (evalLimits s) = zoneEntered s from rfl]
    split <;> rfl
  have hdriven := driveOutputs_notices (evalTruckCheck (evalZones (evalLimits s)))
  rw [hcheck, hzones] at hdriven
  rw [settle, driveAttn_sources, driveAttn_groups, hdriven]
  exact ⟨rfl, rfl⟩

/-- Where the flags were cleared and the hook is not loaded, a flag of a settled state is one of the evaluation. -/
theorem settle_flags_of_cleared {s : State} {n : NoticeUnit} (hload : s.weigh.load ≠ .loaded)
    (hcleared : s.notices = n.clearFlags) :
    (∀ i, (settle s).notices.sources.getLsbD i = true → i = Notice.zoneInside.bit ∨ i = Notice.loadLimit.bit) ∧
      ∀ i, (settle s).notices.groups.getLsbD i = true → ∃ m ∈ evaluationNotices,
        i = m.group ∧ sourceEnabled m n = true ∧ (settle s).notices.sources.getLsbD m.bit = true := by
  obtain ⟨hsources, hgroups⟩ := settle_notices_of_unloaded hload
  have hnoSource : s.notices.sources = 0 := by rw [hcleared]; rfl
  have hnoGroup : s.notices.groups = 0 := by rw [hcleared]; rfl
  rw [hsources, hgroups]
  split
  next hentered =>
    have hraised := raise_raised .zoneInside s
    obtain ⟨honlySource, honlyGroup, -⟩ := raise_raisesOnly .zoneInside s
    have henabled : sourceEnabled .zoneInside s.notices = sourceEnabled .zoneInside n := by rw [hcleared]; rfl
    refine ⟨fun i hi => .inl ?_, fun i hi => ⟨.zoneInside, by simp [evaluationNotices], ?_⟩⟩
    · simpa [hnoSource, hi] using honlySource i
    · have hgroup := (honlyGroup i).1 hi
      simp only [hnoGroup, BitVec.ofNat_eq_ofNat, BitVec.getLsbD_zero, Bool.false_eq_true, false_or] at hgroup
      obtain ⟨m, hm, rfl⟩ := List.mem_map.1 hgroup.1
      obtain ⟨hzone, hm⟩ := List.mem_filter.1 hm
      obtain rfl := List.mem_singleton.1 hzone
      exact ⟨rfl, henabled ▸ hm, hraised.1⟩
  next => simp [hnoSource, hnoGroup]

section
variable {s t : State} (hcfg : t.cfg = s.cfg) (hpos : t.pos = s.pos) (hload : t.weigh.load = s.weigh.load)
  (hswitches : t.perm.switches = s.perm.switches) (hbays : ∀ b, (bayRecord t b).isSome = (bayRecord s b).isSome)

include hswitches hbays in
theorem zoneActive_congr (z : ZoneEntry) : zoneActive t z = zoneActive s z := by
  unfold zoneActive
  rw [hswitches]
  cases z.cond <;> simp [hbays]

include hcfg hpos hload in
theorem overlaps_congr (z : ZoneEntry) : overlaps t z = overlaps s z := by
  have hradius : radius t = radius s := by rw [radius, radius, hload, hcfg]
  simp only [overlaps, overlapsBridge, overlapsTrolley, hradius, hpos]

include hcfg hpos hload hswitches hbays in
/-- What the inside case of a zone depends on. -/
theorem zoneInside_congr (z : ZoneEntry) : zoneInside t z = zoneInside s z := by
  have hheight : clearanceHeight t = clearanceHeight s := by rw [clearanceHeight, clearanceHeight, hpos]
  rw [zoneInside, zoneInside, zoneActs, zoneActs, zoneActive_congr hswitches hbays, overlaps_congr hcfg hpos hload,
    hheight, hload]

end

theorem zoneEntered_of_evaluated {s t : State} (h : Evaluated s) (hperm : t.perm = s.perm)
    (hinside : ∀ z, zoneInside t z = zoneInside s z) : zoneEntered t = false := by
  obtain ⟨hzones, -⟩ := h
  simp only [zoneEntered, hperm, hinside, List.any_eq_false]
  intro z hz
  simp [hzones z hz]

theorem bayRecord_unreserved_isSome {s t : State} (h : t.trucks = (unreserved s).trucks) (b : Nat) :
    (bayRecord t b).isSome = (bayRecord s b).isSome := by
  match b with
  | 0 | 1 => simp [bayRecord, h, unreserved, releaseWhere, TruckUnit.mapCradles]
  | _ + 2 => rfl

/-- Settles O6: the refusals, then the changes block by block and the notices that the evaluation finds again. -/
theorem restartClearsTheBlocks : Obligations.RestartClearsTheBlocks := by
  intro s hheld
  split
  next hrun => rw [Answers, exec, execRestart, request_of_answer hheld (restartBody_of_task hrun) (by decide)]
  next hrun =>
    rw [Bool.not_eq_true] at hrun
    split
    next hload =>
      rw [Answers, exec, execRestart, request_of_answer hheld (restartBody_of_loaded hrun hload) (by decide)]
    next hload =>
      have hexec : exec .restart s = .next (respond (.okWith []) (settle (restartChanges s))) := by
        rw [exec, execRestart, request_of_acceptance hheld (restartBody_of_accepted hrun hload)]
      obtain ⟨hlink, hclaims, hweigh, htable, hmap, htrucks, htracker, hnotices, hclock, hcfg, hpos, hperm, hport,
        hpending⟩ := restartChanges_spec hrun
      generalize restartChanges s = u at *
      have hload' : u.weigh.load ≠ .loaded := by rwa [hweigh]
      have hreleased : AllReleased (fun _ => true) .own s (respond (.okWith []) (settle u)) := by
        simpa [AllReleased, hmap, htrucks] using unreserved_allReleased s
      obtain ⟨hsources, hgroups⟩ := settle_flags_of_cleared hload' hnotices
      obtain ⟨-, -, hsourceEnable, hgroupEnable, hglobal⟩ := raisesOnly_settle u
      have hkeeps : Keeps [.link, .weigh, .table, .claims, .map, .tracker, .trucks, .port] s u :=
        ⟨hpending, fun b hb => by cases b <;> simp_all [SameBlock]⟩
      have hsettled : Keeps [.port] u (respond (.okWith []) (settle u)) := (keeps_settle u).andThen (keeps_withPort ..)
      refine ⟨_, hexec, ?_, ?_, ?_, ?_, ?_, hreleased, allReservations_of_allReleased hreleased, hsources, hgroups,
        fun hevaluated => ?_, ?_, ?_, ?_, outputsFollow_withPort _ (outputsFollow_settle u), ?_,
        hkeeps.andThen hsettled⟩
      · rw [respond_link, settle_link, hlink]
        rfl
      · rw [respond_claims, settle_claims, hclaims]
      · rw [respond_weigh, settle_weigh, hweigh]
        rfl
      · rw [respond_table, settle_table, htable]
      · rw [respond_tracker, settle_tracker, htracker]
      · have hentered := zoneEntered_of_evaluated hevaluated hperm (zoneInside_congr hcfg hpos (by rw [hweigh]; rfl)
          (by rw [hperm]) (bayRecord_unreserved_isSome htrucks))
        obtain ⟨hs, hg⟩ := settle_notices_of_unloaded hload'
        simp [hs, hg, hentered, hnotices, NoticeUnit.clearFlags]
      · rw [respond_notices, hsourceEnable, hnotices]
        rfl
      · rw [respond_notices, hgroupEnable, hnotices]
        rfl
      · rw [respond_notices, hglobal, hnotices]
        rfl
      · simp [respond, hport]

end Sys2Proof.Machine
end

section
/-! PROOFS. Slots, cradles and reservations: what a read of a record returns after each update of the records, and what a
release leaves of the other references. -/

namespace Sys2Proof.Machine

/-! ### Slots -/

/-- R102: the row and the column of a slot are read back from its place in the map's list. -/
theorem div_mod_of_slotIndex {g : Geometry} {row column i : Nat} (h : slotIndex g row column = some i) :
    i / columns g = row ∧ i % columns g = column := by
  simp only [slotIndex, Option.ite_none_right_eq_some, Option.some.injEq] at h
  obtain ⟨⟨-, hcolumn⟩, rfl⟩ := h
  constructor
  · rw [Nat.add_comm, Nat.add_mul_div_right _ _ (by omega), Nat.div_eq_of_lt hcolumn, Nat.zero_add]
  · rw [Nat.mul_add_mod_of_lt hcolumn]

/-- R102: two references that name one place in the map's list are the same. -/
theorem slotIndex_inj {g : Geometry} {row column row' column' i : Nat} (h : slotIndex g row column = some i)
    (h' : slotIndex g row' column' = some i) : row' = row ∧ column' = column := by
  obtain ⟨rfl, rfl⟩ := div_mod_of_slotIndex h
  obtain ⟨hr, hc⟩ := div_mod_of_slotIndex h'
  exact ⟨hr.symm, hc.symm⟩

/-- R102: a slot that has a record has a place in the map's list. -/
theorem slotAt_eq_some_iff {s : State} {row column : Nat} {r : SlotRecord} : slotAt s row column = some r ↔
    ∃ g i, s.cfg.geometry = some g ∧ slotIndex g row column = some i ∧ s.map[i]? = some r := by
  unfold slotAt
  cases s.cfg.geometry with
  | none => simp
  | some g => cases h : slotIndex g row column <;> simp [h]

theorem slotAt_setSlot_same {s : State} {row column : Nat} (r : SlotRecord) (h : isSlot s row column) :
    slotAt (setSlot row column r s) row column = some r := by
  obtain ⟨old, hold⟩ := Option.isSome_iff_exists.1 h
  obtain ⟨g, i, hg, hi, hr⟩ := slotAt_eq_some_iff.1 hold
  obtain ⟨hlt, -⟩ := List.getElem?_eq_some_iff.1 hr
  simp [slotAt, setSlot, hg, hi, hlt]

theorem slotAt_setSlot_ne {row column row' column' : Nat} (r : SlotRecord) (s : State)
    (h : (row', column') ≠ (row, column)) : slotAt (setSlot row column r s) row' column' = slotAt s row' column' := by
  unfold slotAt
  rw [setSlot_cfg]
  cases hg : s.cfg.geometry with
  | none => rfl
  | some g =>
    cases hi : slotIndex g row column with
    | none => simp [setSlot, hg, hi]
    | some i =>
      cases hj : slotIndex g row' column' with
      | none => simp [hj]
      | some j =>
        have hij : i ≠ j := by
          rintro rfl
          obtain ⟨rfl, rfl⟩ := slotIndex_inj hi hj
          exact h rfl
        simp [setSlot, hg, hi, hj, hij]

/-- A reference that names no slot changes nothing. -/
theorem setSlot_of_not_isSlot {s : State} {row column : Nat} (r : SlotRecord) (h : slotAt s row column = none) :
    setSlot row column r s = s := by
  unfold slotAt at h
  unfold setSlot
  split at h
  · rfl
  · split at h
    · rfl
    next i _ =>
      rw [List.set_eq_of_length_le (List.getElem?_eq_none_iff.1 h)]
      rfl

/-- A slot that has a reservation, a coil or any state but EMPTY has a record. -/
theorem slotAt_of_contentAt {s : State} {row column : Nat} {c : SlotContent} (h : contentAt s row column = c)
    (hc : c ≠ .empty) : ∃ r, slotAt s row column = some r ∧ r.content = c := by
  unfold contentAt at h
  split at h
  · exact absurd h.symm hc
  next r hr => exact ⟨r, hr, h⟩

theorem contentAt_of_slotAt {s : State} {row column : Nat} {r : SlotRecord} (h : slotAt s row column = some r) :
    contentAt s row column = r.content := by simp [contentAt, h]

theorem contentAt_congr {s t : State} {row column : Nat} (h : slotAt t row column = slotAt s row column) :
    contentAt t row column = contentAt s row column := by simp [contentAt, h]

theorem slotAt_congr {s t : State} (hcfg : t.cfg = s.cfg) (hmap : t.map = s.map) : slotAt t = slotAt s := by
  funext row column
  simp [slotAt, hcfg, hmap]

/-! ### Cradles -/

theorem bayRecord_setBay_same {bay : Nat} (t : Option Truck) (s : State) (h : bay ≤ 1) :
    bayRecord (setBay bay t s) bay = t := by
  match bay with
  | 0 | 1 => rfl

theorem bayRecord_setBay_ne {bay bay' : Nat} (t : Option Truck) (s : State) (h : bay' ≠ bay) :
    bayRecord (setBay bay t s) bay' = bayRecord s bay' := by
  match bay, bay' with
  | 0, 0 | 1, 1 => exact absurd rfl h
  | 0, 1 | 1, 0 | 0, _ + 2 | 1, _ + 2 => rfl
  | _ + 2, _ => rfl

theorem bay_le_of_bayRecord {s : State} {bay : Nat} {t : Truck} (h : bayRecord s bay = some t) : bay ≤ 1 := by
  match bay with
  | 0 | 1 => decide
  | _ + 2 => cases h

theorem cradleAt_eq_some_iff {s : State} {bay index : Nat} {k : Cradle} :
    cradleAt s bay index = some k ↔ ∃ t, bayRecord s bay = some t ∧ t.cradles[index]? = some k := by
  unfold cradleAt
  cases bayRecord s bay <;> simp

theorem cradleAt_setCradle_same {s : State} {bay index : Nat} {k : Cradle} (c : CradleContent)
    (h : cradleAt s bay index = some k) :
    cradleAt (setCradle bay index c s) bay index = some { k with content := c } := by
  obtain ⟨t, ht, hk⟩ := cradleAt_eq_some_iff.1 h
  simp [cradleAt, setCradle, ht, bayRecord_setBay_same _ s (bay_le_of_bayRecord ht), Truck.setCradle, hk]

theorem cradleAt_setCradle_ne {bay index bay' index' : Nat} (c : CradleContent) (s : State)
    (h : (bay', index') ≠ (bay, index)) :
    cradleAt (setCradle bay index c s) bay' index' = cradleAt s bay' index' := by
  unfold setCradle
  split
  · rfl
  next t ht =>
    by_cases hbay : bay' = bay
    · subst hbay
      have hindex : index ≠ index' := by rintro rfl; exact h rfl
      simp [cradleAt, ht, bayRecord_setBay_same _ s (bay_le_of_bayRecord ht), Truck.setCradle, hindex]
    · simp [cradleAt, bayRecord_setBay_ne _ s hbay]

theorem bayRecord_congr {s t : State} (h0 : t.trucks.bay0 = s.trucks.bay0) (h1 : t.trucks.bay1 = s.trucks.bay1) :
    bayRecord t = bayRecord s := by
  funext bay
  match bay with
  | 0 => exact h0
  | 1 => exact h1
  | _ + 2 => rfl

theorem cradleAt_congr {s t : State} (h : bayRecord t = bayRecord s) : cradleAt t = cradleAt s := by
  funext bay index
  simp [cradleAt, h]

/-! ### Reservations -/

theorem resvAt_slot {s : State} {row column : Nat} : resvAt s (.slot row column) = slotResv (contentAt s row column) := rfl

theorem resvAt_cradle {s : State} {bay index : Nat} :
    resvAt s (.cradle bay index) = (cradleAt s bay index).bind fun k => cradleResv k.content := by
  simp only [resvAt]
  cases cradleAt s bay index <;> rfl

theorem ownResvAt_eq_some_iff {s : State} {ref : Ref} {v : Reservation} :
    ownResvAt s ref = some v ↔ resvAt s ref = some v ∧ v.isOwn = true := by
  unfold ownResvAt
  cases resvAt s ref with
  | none => simp
  | some w =>
    simp only [Reservation.isOwn, Option.ite_none_right_eq_some, Option.some.injEq, decide_eq_true_eq]
    grind

theorem ownResvAt_congr {s t : State} {ref : Ref} (h : resvAt t ref = resvAt s ref) :
    ownResvAt t ref = ownResvAt s ref := by rw [ownResvAt, ownResvAt, h]

theorem resvAt_congr {s t : State} (hslots : slotAt t = slotAt s) (hcradles : cradleAt t = cradleAt s) :
    resvAt t = resvAt s := by
  funext ref
  cases ref with
  | slot row column => exact congrArg slotResv (contentAt_congr (by rw [hslots]))
  | cradle bay index => rw [resvAt_cradle, resvAt_cradle, hcradles]

theorem slotResv_releaseIf (p : Reservation → Bool) (source : ChangeSource) (r : SlotRecord) :
    slotResv (r.releaseIf p source).content = (slotResv r.content).filter fun v => !p v := by
  obtain ⟨content, src⟩ := r
  cases content with
  | reservedIn v | reservedOut _ v =>
    by_cases hv : p v = true <;> simp [SlotRecord.releaseIf, SlotContent.release, slotResv, Option.filter_some, hv]
  | _ => rfl

theorem cradleResv_releaseIf (p : Reservation → Bool) (c : CradleContent) :
    cradleResv (c.releaseIf p) = (cradleResv c).filter fun v => !p v := by
  cases c with
  | reserved v => by_cases hv : p v = true <;> simp [CradleContent.releaseIf, CradleContent.release, cradleResv, Option.filter_some, hv]
  | _ => rfl

/-- A release of one reference ends its reservation where the test names it. -/
theorem resvAt_releaseRef_same (p : Reservation → Bool) (source : ChangeSource) (ref : Ref) (s : State) :
    resvAt (releaseRef p source ref s) ref = (resvAt s ref).filter fun v => !p v := by
  cases ref with
  | slot row column =>
    cases hr : slotAt s row column with
    | none => simp [releaseRef, resvAt, contentAt, hr, slotResv]
    | some r =>
      rw [resvAt_slot, resvAt_slot, contentAt_of_slotAt hr, ← slotResv_releaseIf (source := source)]
      simp only [releaseRef, hr]
      rw [contentAt_of_slotAt (slotAt_setSlot_same _ (by simp [isSlot, hr]))]
  | cradle bay index =>
    rw [resvAt_cradle, resvAt_cradle]
    cases hk : cradleAt s bay index with
    | none => simp [releaseRef, hk]
    | some k => simp [releaseRef, hk, cradleAt_setCradle_same _ hk, cradleResv_releaseIf]

/-- A release of one reference leaves every other slot as it was. -/
theorem slotAt_releaseRef_ne (p : Reservation → Bool) (source : ChangeSource) {ref : Ref} {row column : Nat} (s : State)
    (h : .slot row column ≠ ref) : slotAt (releaseRef p source ref s) row column = slotAt s row column := by
  unfold releaseRef
  split <;> split
  · rfl
  · exact slotAt_setSlot_ne _ s (by simpa using h)
  · rfl
  · rw [slotAt_congr (setCradle_cfg ..) (setCradle_map ..)]

/-- A release of one reference leaves every other cradle as it was. -/
theorem cradleAt_releaseRef_ne (p : Reservation → Bool) (source : ChangeSource) {ref : Ref} {bay index : Nat} (s : State)
    (h : .cradle bay index ≠ ref) : cradleAt (releaseRef p source ref s) bay index = cradleAt s bay index := by
  unfold releaseRef
  split <;> split
  · rfl
  · rw [cradleAt_congr (s := s) (bayRecord_congr (by simp) (by simp))]
  · rfl
  · exact cradleAt_setCradle_ne _ s (by simpa using h)

/-- A release of one reference leaves every other reservation as it was. -/
theorem resvAt_releaseRef_ne (p : Reservation → Bool) (source : ChangeSource) {ref ref' : Ref} (s : State)
    (h : ref' ≠ ref) : resvAt (releaseRef p source ref s) ref' = resvAt s ref' := by
  cases ref' with
  | slot row column => rw [resvAt_slot, resvAt_slot, contentAt_congr (slotAt_releaseRef_ne p source s h)]
  | cradle bay index => rw [resvAt_cradle, resvAt_cradle, cradleAt_releaseRef_ne p source s h]

end Sys2Proof.Machine
end

section
/-! PROOFS. Losses and releases of own reservations: what the claim engine's shared operations and what the task tracker is
told may change, said once for all of them (R134 to R147, R165, R166, R170). -/

namespace Sys2Proof.Machine

/-! ### Records that differ in own reservations alone -/

/-- Two states whose records are the same once every own reservation is released. -/
def FreedAlike (s t : State) : Prop :=
  t.map.map (SlotRecord.without ofStation .own) = s.map.map (SlotRecord.without ofStation .own) ∧
  t.trucks.bay0.map (Truck.without ofStation) = s.trucks.bay0.map (Truck.without ofStation) ∧
  t.trucks.bay1.map (Truck.without ofStation) = s.trucks.bay1.map (Truck.without ofStation)

theorem FreedAlike.trans {s t u : State} (h : FreedAlike s t) (k : FreedAlike t u) : FreedAlike s u :=
  ⟨k.1.trans h.1, k.2.1.trans h.2.1, k.2.2.trans h.2.2⟩

theorem freedAlike_of_eq {s t : State} (hmap : t.map = s.map) (htrucks : t.trucks = s.trucks) : FreedAlike s t := by
  simp [FreedAlike, hmap, htrucks]

theorem SlotContent.without_without (p : Reservation → Bool) (c : SlotContent) :
    (c.without p).without p = c.without p := by
  cases c with
  | reservedIn v | reservedOut _ v => by_cases hv : p v = true <;> simp [SlotContent.without, hv]
  | _ => rfl

theorem CradleContent.without_without (p : Reservation → Bool) (c : CradleContent) :
    (c.without p).without p = c.without p := by
  cases c with
  | reserved v => by_cases hv : p v = true <;> simp [CradleContent.without, hv]
  | _ => rfl

theorem SlotRecord.without_without (p : Reservation → Bool) (source : ChangeSource) (r : SlotRecord) :
    (r.without p source).without p source = r.without p source := by
  obtain ⟨content, src⟩ := r
  cases content with
  | reservedIn v | reservedOut _ v =>
    by_cases hv : p v = true <;> simp [SlotRecord.without, SlotContent.without, slotResv, hv]
  | _ => rfl

theorem Truck.without_without (p : Reservation → Bool) (b : Truck) : (b.without p).without p = b.without p := by
  simp [Truck.without, Function.comp_def, CradleContent.without_without]

/-- A release of own reservations alone is no difference once every own one is released. -/
theorem SlotRecord.without_releaseIf {p : Reservation → Bool} (hp : ∀ v, p v = true → v.isOwn = true) (r : SlotRecord) :
    (r.releaseIf p .own).without ofStation .own = r.without ofStation .own := by
  obtain ⟨content, src⟩ := r
  cases content with
  | reservedIn v | reservedOut _ v =>
    by_cases hv : p v = true
    · have hown : ofStation v = true := hp v hv
      simp [SlotRecord.releaseIf, SlotRecord.without, SlotContent.without, SlotContent.release, slotResv, hv, hown]
    · simp [SlotRecord.releaseIf, slotResv, hv]
  | _ => rfl

theorem CradleContent.without_releaseIf {p : Reservation → Bool} (hp : ∀ v, p v = true → v.isOwn = true)
    (c : CradleContent) : (c.releaseIf p).without ofStation = c.without ofStation := by
  cases c with
  | reserved v =>
    by_cases hv : p v = true
    · have hown : ofStation v = true := hp v hv
      simp [CradleContent.releaseIf, CradleContent.without, CradleContent.release, cradleResv, hv, hown]
    · simp [CradleContent.releaseIf, cradleResv, hv]
  | _ => rfl

theorem freedAlike_setSlot {s : State} {row column : Nat} {r r' : SlotRecord} (hr : slotAt s row column = some r)
    (h : r'.without ofStation .own = r.without ofStation .own) : FreedAlike s (setSlot row column r' s) := by
  obtain ⟨g, i, hg, hi, hget⟩ := slotAt_eq_some_iff.1 hr
  simp [FreedAlike, setSlot, hg, hi, map_set_of_eq hget h]

theorem freedAlike_setCradle {s : State} {bay index : Nat} {k : Cradle} {c : CradleContent}
    (hk : cradleAt s bay index = some k) (h : c.without ofStation = k.content.without ofStation) :
    FreedAlike s (setCradle bay index c s) := by
  obtain ⟨t, ht, hget⟩ := cradleAt_eq_some_iff.1 hk
  have hcradles := map_modify_of_eq (f := fun k : Cradle => { k with content := k.content.without ofStation })
    (g := fun k => { k with content := c }) hget (by simp [h])
  have htruck : (t.setCradle index c).without ofStation = t.without ofStation := by
    simp [Truck.without, Truck.setCradle, hcradles]
  simp only [setCradle, ht]
  match bay with
  | 0 | 1 =>
    simp only [bayRecord] at ht
    simp [FreedAlike, setBay, ht, htruck]
  | _ + 2 => cases ht

theorem freedAlike_releaseRef {p : Reservation → Bool} (hp : ∀ v, p v = true → v.isOwn = true) (ref : Ref) (s : State) :
    FreedAlike s (releaseRef p .own ref s) := by
  unfold releaseRef
  split <;> split
  · exact freedAlike_of_eq rfl rfl
  next r hr => exact freedAlike_setSlot hr (r.without_releaseIf hp)
  · exact freedAlike_of_eq rfl rfl
  next k hk => exact freedAlike_setCradle hk (k.content.without_releaseIf hp)

/-- The release of every own reservation, from records that differ in own reservations alone. -/
theorem allReleased_of_freedAlike {s t : State} (h : FreedAlike s t) :
    AllReleased ofStation .own s (releaseWhere Reservation.isOwn .own t) := by
  obtain ⟨hmap, hbay0, hbay1⟩ := releaseWhere_allReleased Reservation.isOwn .own t
  exact ⟨hmap.trans h.1, hbay0.trans h.2.1, hbay1.trans h.2.2⟩

theorem AllReleased.freedAlike {s t : State} (h : AllReleased ofStation .own s t) : FreedAlike s t := by
  obtain ⟨hmap, hbay0, hbay1⟩ := h
  simp [FreedAlike, hmap, hbay0, hbay1, Function.comp_def, SlotRecord.without_without, Truck.without_without]

theorem AllReleased.of_freedAlike {s u t : State} (h : FreedAlike s u) (k : AllReleased ofStation .own u t) :
    AllReleased ofStation .own s t :=
  ⟨k.1.trans h.1, k.2.1.trans h.2.1, k.2.2.trans h.2.2⟩

/-! ### Records after every own reservation has been released -/

section
variable {s t : State}

theorem slotAt_of_allReleased (hcfg : t.cfg = s.cfg) (h : AllReleased ofStation .own s t) (row column : Nat) :
    slotAt t row column = (slotAt s row column).map (SlotRecord.without ofStation .own) := by
  unfold slotAt
  rw [hcfg, h.1]
  split
  · rfl
  · split
    · rfl
    · rw [List.getElem?_map]

theorem contentAt_of_allReleased (hcfg : t.cfg = s.cfg) (h : AllReleased ofStation .own s t) (row column : Nat) :
    contentAt t row column = (contentAt s row column).without ofStation := by
  simp only [contentAt, slotAt_of_allReleased hcfg h]
  cases slotAt s row column <;> rfl

theorem SlotRecord.without_of_not_own {r : SlotRecord} (h : ∀ v, slotResv r.content = some v → v.isOwn = false)
    (source : ChangeSource) : r.without ofStation source = r := by
  obtain ⟨content, src⟩ := r
  cases content <;> simp_all [slotResv, SlotRecord.without, SlotContent.without, ofStation, Reservation.isOwn]

/-- A slot without an own reservation keeps its record. -/
theorem slotAt_of_allReleased_of_none (hcfg : t.cfg = s.cfg) (h : AllReleased ofStation .own s t) {row column : Nat}
    (hnone : ownResvAt s (.slot row column) = none) : slotAt t row column = slotAt s row column := by
  rw [slotAt_of_allReleased hcfg h]
  cases hr : slotAt s row column with
  | none => rfl
  | some r =>
    refine congrArg some (SlotRecord.without_of_not_own (fun v hv => ?_) _)
    rw [← contentAt_of_slotAt hr, ← resvAt_slot] at hv
    by_contra hown
    simp [ownResvAt_eq_some_iff.2 ⟨hv, by simpa using hown⟩] at hnone

theorem sourceAt_congr {row column : Nat} (h : slotAt t row column = slotAt s row column) :
    sourceAt t row column = sourceAt s row column := by rw [sourceAt, sourceAt, h]

/-- Slots that keep their records keep what they hold and its source. -/
theorem unreservedSlotsKept_of_slotAt {out : Nat → Nat → Prop} (h : ∀ row column, ¬ out row column →
    ownResvAt s (.slot row column) = none → slotAt t row column = slotAt s row column) : UnreservedSlotsKept out s t :=
  fun row column hout hnone =>
    ⟨contentAt_congr (h row column hout hnone), sourceAt_congr (h row column hout hnone)⟩

theorem bayRecord_of_allReleased (h : AllReleased ofStation .own s t) (bay : Nat) :
    bayRecord t bay = (bayRecord s bay).map (Truck.without ofStation) := by
  match bay with
  | 0 => exact h.2.1
  | 1 => exact h.2.2
  | _ + 2 => rfl

theorem cradleContent_of_allReleased (h : AllReleased ofStation .own s t) (bay index : Nat) :
    cradleContent t bay index = (cradleContent s bay index).map (CradleContent.without ofStation) := by
  simp only [cradleContent, cradleAt, bayRecord_of_allReleased h]
  cases bayRecord s bay <;> simp [Truck.without, Function.comp_def]

theorem slotResv_without (p : Reservation → Bool) (c : SlotContent) :
    slotResv (c.without p) = (slotResv c).filter fun v => !p v := by
  cases c with
  | reservedIn v | reservedOut _ v => by_cases hv : p v = true <;> simp [SlotContent.without, slotResv, Option.filter_some, hv]
  | _ => rfl

theorem cradleResv_without (p : Reservation → Bool) (c : CradleContent) :
    cradleResv (c.without p) = (cradleResv c).filter fun v => !p v := by
  cases c with
  | reserved v => by_cases hv : p v = true <;> simp [CradleContent.without, cradleResv, Option.filter_some, hv]
  | _ => rfl

/-- No reference is left with an own reservation. -/
theorem ownResvAt_of_allReleased (hcfg : t.cfg = s.cfg) (h : AllReleased ofStation .own s t) (ref : Ref) :
    ownResvAt t ref = none := by
  have hresv : resvAt t ref = (resvAt s ref).filter fun v => !ofStation v := by
    cases ref with
    | slot row column => rw [resvAt_slot, contentAt_of_allReleased hcfg h, slotResv_without]; rfl
    | cradle bay index =>
      simp only [resvAt_cradle, cradleAt, bayRecord_of_allReleased h]
      cases bayRecord s bay with
      | none => rfl
      | some b => cases hk : b.cradles[index]? <;> simp [Truck.without, hk, cradleResv_without]
  refine Option.eq_none_iff_forall_ne_some.2 fun v hv => ?_
  obtain ⟨hv, hown⟩ := ownResvAt_eq_some_iff.1 hv
  rw [hresv, Option.filter_eq_some_iff] at hv
  simp_all [ofStation, Reservation.isOwn]

theorem noOwn_of_allReleased (h : AllReleased ofStation .own s t) : NoOwn t := by
  obtain ⟨hmap, hbay0, hbay1⟩ := h
  intro v hv
  simp only [allReservations, hmap, hbay0, hbay1, List.mem_append, List.mem_filterMap, List.mem_map, List.mem_flatMap,
    Option.mem_toList, Option.map_eq_some_iff, SlotRecord.without, Truck.without] at hv
  have hfiltered : ∀ o : Option Reservation, (o.filter fun v => !ofStation v) = some v → v.holder ≠ .own := by
    intro o ho
    simpa [ofStation] using (Option.filter_eq_some_iff.1 ho).2
  obtain ⟨-, ⟨r, -, rfl⟩, hr⟩ | ⟨b, hb, k, hk, hkv⟩ := hv
  · exact hfiltered _ ((slotResv_without ..).symm.trans hr)
  · obtain ⟨b', -, rfl⟩ | ⟨b', -, rfl⟩ := hb <;>
    · obtain ⟨k', -, rfl⟩ := List.mem_map.1 hk
      exact hfiltered _ ((cradleResv_without ..).symm.trans hkv)

end

/-! ### Releases asked for (R145) -/

/-- Some request of a list names a reference under a round number. -/
def Named (n : Nat) (ref : Ref) (fs : List ReleaseFrame) : Prop := ∃ f ∈ fs, f.round = n ∧ ref ∈ f.refs

theorem mem_mergedRefs {a b : List Ref} {ref : Ref} : ref ∈ mergedRefs a b ↔ ref ∈ a ∨ ref ∈ b := by
  simp only [mergedRefs, List.mem_append, List.mem_filter, Bool.not_eq_true', List.contains_eq_mem, decide_eq_false_iff_not]
  tauto

theorem named_addRequest {n : Nat} {ref : Ref} {f : ReleaseFrame} (acc : List ReleaseFrame)
    (h : Named n ref acc ∨ (f.round = n ∧ ref ∈ f.refs)) : Named n ref (addRequest acc f) := by
  induction acc with
  | nil => simpa [Named, addRequest] using h
  | cons a rest ih =>
    have hrefs : ref ∈ a.refs ++ f.refs.filter (fun x => !a.refs.contains x) ↔ ref ∈ a.refs ∨ ref ∈ f.refs := mem_mergedRefs
    simp only [Named, addRequest, List.exists_mem_cons_iff] at ih h ⊢
    split <;> simp only [List.exists_mem_cons_iff] <;> grind

theorem named_foldl_addRequest {n : Nat} {ref : Ref} {fs : List ReleaseFrame} (acc : List ReleaseFrame)
    (h : Named n ref acc ∨ Named n ref fs) : Named n ref (fs.foldl addRequest acc) := by
  induction fs generalizing acc with
  | nil => simpa [Named] using h
  | cons f fs ih =>
    refine ih _ ?_
    obtain h | ⟨f', hf', h⟩ := h
    · exact .inl (named_addRequest acc (.inl h))
    · obtain rfl | hf' := List.mem_cons.1 hf'
      · exact .inl (named_addRequest acc (.inr h))
      · exact .inr ⟨f', hf', h⟩

/-- A RELEASE asked for changes the RELEASE mailbox or the held requests, names what it names, and drops nothing. -/
theorem askRelease_spec (f : ReleaseFrame) (s : State) :
    let t := askRelease f s
    t.link = { s.link with boxes := { s.link.boxes with release := t.link.boxes.release } } ∧
      t.claims = { s.claims with heldRequests := t.claims.heldRequests } ∧
      (∀ n ref, ReleaseAsked n ref s → ReleaseAsked n ref t) ∧ ∀ ref ∈ f.refs, ReleaseAsked f.round ref t := by
  unfold askRelease
  split
  next hempty => simp_all
  next =>
    cases hrelease : s.link.boxes.release with
    | none =>
      simp only [putRelease, hrelease]
      refine ⟨rfl, rfl, fun n ref ⟨x, hx, hn⟩ => ⟨x, ?_, hn⟩, fun ref href => ⟨f, .inl rfl, rfl, href⟩⟩
      exact .inr (hx.resolve_left (by simp [hrelease]))
    | some w =>
      simp only [putRelease, hrelease]
      split
      next s' hs' =>
        simp only [Option.ite_none_right_eq_some, Option.some.injEq] at hs'
        obtain ⟨⟨-, hround, -⟩, rfl⟩ := hs'
        refine ⟨rfl, rfl, fun n ref ⟨x, hx, hn, href⟩ => ?_, fun ref href =>
          ⟨_, .inl rfl, hround, mem_mergedRefs.2 (.inr href)⟩⟩
        obtain hx | hx := hx
        · obtain rfl := Option.some.inj (hrelease.symm.trans hx)
          exact ⟨_, .inl rfl, hn, mem_mergedRefs.2 (.inl href)⟩
        · exact ⟨x, .inr hx, hn, href⟩
      · refine ⟨rfl, rfl, fun n ref ⟨x, hx, hn⟩ => ⟨x, hx.imp_right ?_, hn⟩, fun ref href =>
          ⟨f, .inr (List.mem_append_right _ (List.mem_singleton_self f)), rfl, href⟩⟩
        exact List.mem_append_left _

theorem askReleases_spec (fs : List ReleaseFrame) (s : State) :
    let t := askReleases fs s
    t.link = { s.link with boxes := { s.link.boxes with release := t.link.boxes.release } } ∧
      t.claims = { s.claims with heldRequests := t.claims.heldRequests } ∧
      (∀ n ref, ReleaseAsked n ref s → ReleaseAsked n ref t) ∧ ∀ n ref, Named n ref fs → ReleaseAsked n ref t := by
  induction fs generalizing s with
  | nil => exact ⟨rfl, rfl, fun _ _ h => h, fun _ _ ⟨_, hf, _⟩ => absurd hf List.not_mem_nil⟩
  | cons f fs ih =>
    obtain ⟨hlink, hclaims, hkept, hnamed⟩ := askRelease_spec f s
    obtain ⟨hlink', hclaims', hkept', hnamed'⟩ := ih (askRelease f s)
    refine ⟨hlink'.trans (by rw [hlink]; rfl), hclaims'.trans (by rw [hclaims]; rfl),
      fun n ref h => hkept' n ref (hkept n ref h), fun n ref ⟨x, hx, hround, href⟩ => ?_⟩
    obtain rfl | hx := List.mem_cons.1 hx
    · exact hround ▸ hkept' _ ref (hnamed ref href)
    · exact hnamed' n ref ⟨x, hx, hround, href⟩

/-- Every own reservation of the records has its request among those of `ownReservations`. -/
theorem named_ownReservations {s : State} {ref : Ref} {v : Reservation} (h : ownResvAt s ref = some v) :
    Named v.round ref (ownReservations s) := by
  obtain ⟨hresv, hown⟩ := ownResvAt_eq_some_iff.1 h
  have hholder : v.holder = .own := of_decide_eq_true hown
  refine ⟨{ round := v.round, refs := [ref] }, ?_, rfl, List.mem_singleton_self ref⟩
  cases ref with
  | slot row column =>
    obtain ⟨r, hr, hcontent⟩ := slotAt_of_contentAt (s := s) (row := row) (column := column) rfl
      (by intro h; simp [resvAt_slot, h, slotResv] at hresv)
    obtain ⟨g, i, hg, hi, hget⟩ := slotAt_eq_some_iff.1 hr
    obtain ⟨hrow, hcolumn⟩ := div_mod_of_slotIndex hi
    refine List.mem_append_left _ (List.mem_append_left _ (List.mem_filterMap.2 ⟨(r, i), ?_, ?_⟩))
    · exact List.mem_zipIdx_iff_getElem?.2 hget
    · have : slotResv r.content = some v := by rw [hcontent]; exact hresv
      simp [this, hholder, refOfIndex, hg, hrow, hcolumn]
  | cradle bay index =>
    rw [resvAt_cradle] at hresv
    obtain ⟨k, hk, hv⟩ := Option.bind_eq_some_iff.1 hresv
    obtain ⟨t, ht, hget⟩ := cradleAt_eq_some_iff.1 hk
    have hmem : ({ round := v.round, refs := [.cradle bay index] } : ReleaseFrame) ∈ ownCradles bay (bayRecord s bay) := by
      rw [ht]
      exact List.mem_filterMap.2 ⟨(k, index), List.mem_zipIdx_iff_getElem?.2 hget, by simp [hv, hholder]⟩
    match bay with
    | 0 => exact List.mem_append_left _ (List.mem_append_right _ hmem)
    | 1 => exact List.mem_append_right _ hmem
    | _ + 2 => cases ht

/-! ### What a loss may change -/

theorem linkKeeps_iff {book : Option BookFrame} {s t : State} : LinkKeeps book s t ↔
    ∃ claim release withdrawal, t.link = { s.link with
      boxes := { s.link.boxes with book := book, claim := claim, release := release }, withdrawal := withdrawal } := by
  constructor
  · exact fun h => ⟨_, _, _, h⟩
  · rintro ⟨c, r, w, h⟩
    rw [LinkKeeps, h]

/-- The fields of a task record that no loss changes. -/
def Task.fixed (k : Task) : Task := { k with target := none, state := .claiming, reason := none, waiting := none }

/-- What a loss of own reservations, and all that follows from it, may do: the blocks and notices of a loss; of the link the
CLAIM and RELEASE mailboxes and a withdrawal; of the records own reservations alone, each of which is kept, asked to be
released, or of the running round; and of the task its end, a take-out that waits leaving an unknown coil on the hook. -/
structure Loses (ns : List Notice) (s t : State) : Prop where
  keeps : Keeps lossBlocks s t
  notices : RaisesOnly ns s t
  link : LinkKeeps s.link.boxes.book s t
  freed : FreedAlike s t
  asked : ∀ n ref, ReleaseAsked n ref s → ReleaseAsked n ref t
  own : ∀ ref v, ownResvAt s ref = some v → InRound s ref v ∨ ownResvAt t ref = some v ∨ ReleaseAsked v.round ref t
  inRound : ∀ ref v, InRound t ref v → InRound s ref v
  task : t.tracker.task.map Task.fixed = s.tracker.task.map Task.fixed
  hook : (∀ k ∈ s.tracker.task, k.waiting ≠ some .takeOut) →
    t.tracker.hook = s.tracker.hook ∧ ∀ k ∈ t.tracker.task, k.waiting ≠ some .takeOut

theorem inRound_congr {s t : State} (h : t.claims.round = s.claims.round) (ref : Ref) (v : Reservation) :
    InRound t ref v ↔ InRound s ref v := by rw [InRound, InRound, h]

theorem not_inRound_of_none {s : State} (h : s.claims.round = none) (ref : Ref) (v : Reservation) : ¬ InRound s ref v := by
  simp [InRound, h]

theorem linkKeeps_trans {s t u : State} (h : LinkKeeps s.link.boxes.book s t) (k : LinkKeeps t.link.boxes.book t u) :
    LinkKeeps s.link.boxes.book s u := by
  obtain ⟨c, r, w, ht⟩ := linkKeeps_iff.1 h
  obtain ⟨c', r', w', hu⟩ := linkKeeps_iff.1 k
  exact linkKeeps_iff.2 ⟨c', r', w', by rw [hu, ht]⟩

theorem linkKeeps_of_eq {s t : State} (h : t.link = s.link) : LinkKeeps s.link.boxes.book s t := by
  rw [LinkKeeps, h]

variable {ns : List Notice} {s t u : State}

theorem Loses.refl (s : State) : Loses ns s s where
  keeps := keeps_refl ..
  notices := raisesOnly_refl ..
  link := linkKeeps_of_eq rfl
  freed := freedAlike_of_eq rfl rfl
  asked _ _ h := h
  own _ _ h := .inr (.inl h)
  inRound _ _ h := h
  task := rfl
  hook h := ⟨rfl, h⟩

theorem Loses.trans (h : Loses ns s t) (k : Loses ns t u) : Loses ns s u where
  keeps := keeps_trans h.keeps k.keeps
  notices := raisesOnly_mono (by simp) (raisesOnly_trans h.notices k.notices)
  link := linkKeeps_trans h.link k.link
  freed := h.freed.trans k.freed
  asked n ref ha := k.asked n ref (h.asked n ref ha)
  own ref v hv := by
    obtain hround | hown | hasked := h.own ref v hv
    · exact .inl hround
    · exact (k.own ref v hown).imp_left (h.inRound ref v)
    · exact .inr (.inr (k.asked _ ref hasked))
  inRound ref v hv := h.inRound ref v (k.inRound ref v hv)
  task := k.task.trans h.task
  hook hw := by
    obtain ⟨hhook, hwaiting⟩ := h.hook hw
    obtain ⟨hhook', hwaiting'⟩ := k.hook hwaiting
    exact ⟨hhook'.trans hhook, hwaiting'⟩

/-- A loss that leaves no own reservation has asked for the release of each. -/
theorem Loses.ownReleased (h : Loses ns s t) (hreleased : AllReleased ofStation .own s t) : OwnReleased s t := by
  refine ⟨hreleased, fun ref v hv hround => ?_⟩
  have hnone := ownResvAt_of_allReleased (h.keeps.2 .cfg (by simp [lossBlocks])) hreleased ref
  exact ((h.own ref v hv).resolve_left hround).resolve_left (by simp [hnone])

/-- Own reservations released before a loss, each asked for by its end or of the running round, belong to it. -/
theorem Loses.after_release (h : Loses ns u t) (hkeeps : Keeps [.map, .trucks, .claims] s u) (hnotices : u.notices = s.notices)
    (hheld : u.claims.heldRequests = s.claims.heldRequests)
    (hround : u.claims.round = s.claims.round ∨ u.claims.round = none) (hfreed : FreedAlike s u)
    (hown : ∀ ref v, ownResvAt s ref = some v → InRound s ref v ∨ ownResvAt u ref = some v ∨ ReleaseAsked v.round ref t) :
    Loses ns s t := by
  have hlink : u.link = s.link := hkeeps.2 .link (by simp)
  have htracker : u.tracker = s.tracker := hkeeps.2 .tracker (by simp)
  have hinRound : ∀ ref v, InRound u ref v → InRound s ref v := fun ref v hv =>
    hround.elim (fun h => (inRound_congr h ref v).1 hv) (fun h => absurd hv (not_inRound_of_none h ref v))
  exact {
    keeps := hkeeps.andThen h.keeps (by simp [lossBlocks]) (by simp)
    notices := by simpa using raisesOnly_trans (raisesOnly_of_eq (ns := []) hnotices) h.notices
    link := linkKeeps_trans (linkKeeps_of_eq hlink) h.link
    freed := hfreed.trans h.freed
    asked := fun n ref ha => h.asked n ref (by rw [ReleaseAsked] at ha ⊢; rwa [hlink, hheld])
    own := fun ref v hv => by
      obtain hround | hkept | hasked := hown ref v hv
      · exact .inl hround
      · exact (h.own ref v hkept).imp_left (hinRound ref v)
      · exact .inr (.inr hasked)
    inRound := fun ref v hv => hinRound ref v (h.inRound ref v hv)
    task := htracker ▸ h.task
    hook := htracker ▸ h.hook }

/-! ### The link and the round -/

/-- A change of the CLAIM and RELEASE mailboxes, a withdrawal and the claim engine that drops no request is a loss. -/
theorem loses_withLink_withClaims {l : Link} {c : ClaimEngine}
    (hlink : LinkKeeps s.link.boxes.book s ((s.withLink l).withClaims c))
    (hasked : ∀ n ref, ReleaseAsked n ref s → ReleaseAsked n ref ((s.withLink l).withClaims c))
    (hround : c.round = s.claims.round ∨ ∀ r ∈ c.round, r.purpose = .reassert) :
    Loses ns s ((s.withLink l).withClaims c) where
  keeps := ⟨rfl, fun b hb => by cases b <;> simp_all [SameBlock, lossBlocks]⟩
  notices := raisesOnly_of_eq rfl
  link := hlink
  freed := freedAlike_of_eq rfl rfl
  asked := hasked
  own _ _ h := .inr (.inl h)
  inRound ref v := by
    obtain h | h := hround
    · exact (inRound_congr h ref v).1
    · exact fun ⟨r, hr, hpurpose, _⟩ => absurd (h r hr) hpurpose
  task := rfl
  hook h := ⟨rfl, h⟩

theorem loses_withdrawClaim (f : ReleaseFrame) (s : State) : Loses ns s (withdrawClaim f s) := by
  unfold withdrawClaim
  split
  · exact loses_withLink_withClaims (l := { s.link with withdrawal := some f }) (c := s.claims) (by rfl)
      (fun _ _ h => h) (.inl rfl)
  · exact loses_withLink_withClaims (l := { s.link with boxes := { s.link.boxes with claim := none } }) (c := s.claims)
      (by rfl) (fun _ _ h => h) (.inl rfl)

/-- The round ends, or goes on as a REASSERT round. -/
theorem loses_withRound {r : Option Round} (h : ∀ x ∈ r, x.purpose = .reassert) :
    Loses ns s (s.withClaims { s.claims with round := r }) :=
  loses_withLink_withClaims (l := s.link) (by rfl) (fun _ _ h => h) (.inr h)

theorem loses_askRelease (f : ReleaseFrame) (s : State) : Loses ns s (askRelease f s) := by
  obtain ⟨hlink, hclaims, hasked, -⟩ := askRelease_spec f s
  obtain ⟨b, c, h⟩ := askRelease_form f s
  rw [h] at hlink hclaims hasked ⊢
  exact loses_withLink_withClaims (linkKeeps_iff.2 ⟨_, _, _, hlink⟩) hasked (.inl rfl)

theorem loses_askReleases (fs : List ReleaseFrame) (s : State) : Loses ns s (askReleases fs s) := by
  unfold askReleases
  induction fs generalizing s with
  | nil => exact .refl s
  | cons f fs ih => exact (loses_askRelease f s).trans (ih _)

theorem loses_endReassert (r : Round) (s : State) : Loses ns s (endReassert r s) := by
  have hnone : Loses ns s (s.withClaims { s.claims with round := none }) := loses_withRound nofun
  simp only [endReassert]
  split
  · exact hnone.trans (loses_withdrawClaim ..)
  · exact hnone

theorem loses_dropFromRound (ref : Ref) (s : State) : Loses ns s (dropFromRound ref s) := by
  unfold dropFromRound
  split
  · exact .refl s
  next r hr =>
    split
    next h =>
      dsimp only
      split
      · exact loses_endReassert r s
      · exact loses_withRound (by rintro x ⟨⟩; exact h.1)
    · exact .refl s

theorem loses_dropReassert (s : State) : Loses ns s (dropReassert s) := by
  unfold dropReassert
  split
  · exact .refl s
  · split
    · exact loses_endReassert ..
    · exact .refl s

/-! ### Releases of own reservations -/

theorem keeps_releaseWhere (p : Reservation → Bool) (source : ChangeSource) (s : State) :
    Keeps [.map, .trucks, .claims] s (releaseWhere p source s) :=
  ⟨rfl, fun b hb => by cases b <;> simp_all [SameBlock]⟩

theorem keeps_releaseRef (p : Reservation → Bool) (source : ChangeSource) (ref : Ref) (s : State) :
    Keeps [.map, .trucks, .claims] s (releaseRef p source ref s) :=
  ⟨by simp, fun b hb => by cases b <;> simp_all [SameBlock]⟩

theorem loses_releaseAllOwn (extra : List ReleaseFrame) (s : State) : Loses ns s (releaseAllOwn extra s) := by
  have hrelease := allReleased_of_freedAlike (freedAlike_of_eq (s := s) rfl rfl)
  refine ((loses_dropReassert _).trans (loses_askReleases ..)).after_release (keeps_releaseWhere ..) rfl rfl (.inl rfl)
    hrelease.freedAlike fun ref v hv => .inr (.inr ?_)
  obtain ⟨-, -, -, hnamed⟩ := askReleases_spec ((extra ++ ownReservations s).foldl addRequest [])
    (dropReassert (releaseWhere Reservation.isOwn .own s))
  obtain ⟨f, hf, hround, href⟩ := named_ownReservations hv
  exact hnamed _ ref (named_foldl_addRequest [] (.inr ⟨f, List.mem_append_right _ hf, hround, href⟩))

theorem ownResvAt_releaseRef_ne (p : Reservation → Bool) (source : ChangeSource) {ref ref' : Ref} (s : State)
    (h : ref' ≠ ref) : ownResvAt (releaseRef p source ref s) ref' = ownResvAt s ref' :=
  ownResvAt_congr (resvAt_releaseRef_ne p source s h)

theorem loses_releaseOwn (ref : Ref) (s : State) : Loses ns s (releaseOwn ref s) := by
  unfold releaseOwn
  split
  · exact .refl s
  next v hv =>
    refine ((loses_dropFromRound ref _).trans (loses_askRelease ..)).after_release (keeps_releaseRef ..) (by simp) (by simp)
      (.inl (by simp)) (freedAlike_releaseRef (fun _ h => h) ref s) fun ref' v' hv' => ?_
    by_cases href : ref' = ref
    · subst href
      obtain rfl := Option.some.inj (hv.symm.trans hv')
      obtain ⟨-, -, -, hasked⟩ := askRelease_spec { round := v.round, refs := [ref'] }
        (dropFromRound ref' (releaseRef Reservation.isOwn .own ref' s))
      exact .inr (.inr (hasked ref' (List.mem_singleton_self ref')))
    · exact .inr (.inl ((ownResvAt_releaseRef_ne _ _ s href).trans hv'))

theorem loses_releaseTarget (s : State) : Loses ns s (releaseTarget s) := by
  unfold releaseTarget
  split
  · exact .refl s
  · split
    · exact .refl s
    · exact loses_releaseOwn ..

/-! ### Ends of a round -/

/-- The references of a round released of what the station holds under its number (R136). -/
def releaseEntries (n : Nat) (entries : List ClaimEntry) (s : State) : State :=
  entries.foldl (fun s e => releaseRef (Reservation.isOwnUnder n) .own e.ref s) s

/-- R136: the CLAIM of a closed round is withdrawn where it is still in the mailbox, else a RELEASE is asked for. -/
def recallClaim (r : Round) (s : State) : State :=
  match r.stage with
  | .queued => withdrawClaim { round := r.number, refs := r.entries.map ClaimEntry.ref } s
  | .opened => askRelease { round := r.number, refs := r.entries.map ClaimEntry.ref } s

theorem closeRound_eq (r : Round) (s : State) : closeRound r s =
    recallClaim r (releaseEntries r.number r.entries (s.withClaims { s.claims with round := none })) := rfl

theorem loses_recallClaim (r : Round) (s : State) : Loses ns s (recallClaim r s) := by
  unfold recallClaim
  split
  · exact loses_withdrawClaim ..
  · exact loses_askRelease ..

theorem releaseEntries_spec (n : Nat) (entries : List ClaimEntry) (s : State) :
    let u := releaseEntries n entries s
    Keeps [.map, .trucks, .claims] s u ∧ u.notices = s.notices ∧ u.claims = s.claims ∧ FreedAlike s u ∧
      ∀ ref v, ownResvAt s ref = some v → v.round = n ∧ ref ∈ entries.map ClaimEntry.ref ∨ ownResvAt u ref = some v := by
  induction entries generalizing s with
  | nil => exact ⟨keeps_refl .., rfl, rfl, freedAlike_of_eq rfl rfl, fun _ _ h => .inr h⟩
  | cons e entries ih =>
    obtain ⟨hkeeps, hnotices, hclaims, hfreed, hown⟩ := ih (releaseRef (Reservation.isOwnUnder n) .own e.ref s)
    have hisOwn : ∀ v : Reservation, v.isOwnUnder n = true → v.isOwn = true := by simp +contextual [Reservation.isOwnUnder]
    refine ⟨keeps_trans (keeps_releaseRef ..) hkeeps, hnotices.trans (by simp), hclaims.trans (by simp),
      (freedAlike_releaseRef hisOwn ..).trans hfreed, fun ref v hv => ?_⟩
    have hfirst : v.round = n ∧ ref = e.ref ∨ ownResvAt (releaseRef (Reservation.isOwnUnder n) .own e.ref s) ref = some v := by
      by_cases href : ref = e.ref
      · by_cases hround : v.round = n
        · exact .inl ⟨hround, href⟩
        · subst href
          obtain ⟨hresv, hisown⟩ := ownResvAt_eq_some_iff.1 hv
          refine .inr (ownResvAt_eq_some_iff.2 ⟨?_, hisown⟩)
          simp [resvAt_releaseRef_same, hresv, Option.filter_some, Reservation.isOwnUnder, hround]
      · exact .inr ((ownResvAt_releaseRef_ne _ _ s href).trans hv)
    obtain ⟨hround, rfl⟩ | hkept := hfirst
    · exact .inl ⟨hround, by simp⟩
    · exact (hown ref v hkept).imp_left fun ⟨hround, hmem⟩ => ⟨hround, by simp_all⟩

theorem loses_closeRound {r : Round} (hround : s.claims.round = some r) (hpurpose : r.purpose ≠ .reassert) :
    Loses ns s (closeRound r s) := by
  rw [closeRound_eq]
  obtain ⟨hkeeps, hnotices, hclaims, hfreed, hown⟩ :=
    releaseEntries_spec r.number r.entries (s.withClaims { s.claims with round := none })
  have hended : Keeps [.map, .trucks, .claims] s (s.withClaims { s.claims with round := none }) :=
    ⟨rfl, fun b hb => by cases b <;> simp_all [SameBlock]⟩
  refine (loses_recallClaim r _).after_release (keeps_trans hended hkeeps) hnotices (by rw [hclaims]; rfl)
    (.inr (by rw [hclaims]; rfl)) hfreed fun ref v hv => ?_
  obtain ⟨hnumber, href⟩ | hkept := hown ref v hv
  · exact .inl ⟨r, hround, hpurpose, hnumber, href⟩
  · exact .inr (.inl hkept)

theorem loses_abandonRound (s : State) : Loses ns s (abandonRound s) := by
  unfold abandonRound
  split
  · exact .refl s
  next r hr =>
    split
    · exact .refl s
    next hpurpose => exact loses_closeRound hr hpurpose

/-! ### What the tracker is told -/

theorem loses_raise {n : Notice} (hn : n ∈ ns) (s : State) : Loses ns s (raise n s) :=
  { Loses.refl (ns := ns) s with
    keeps := keeps_mono (by simp) (keeps_raise n s)
    notices := raisesOnly_mono (by simpa using hn) (raise_raisesOnly n s) }

theorem keeps_withTracker (x : Tracker) (s : State) : Keeps [.tracker] s (s.withTracker x) :=
  ⟨rfl, fun b hb => by cases b <;> simp_all [SameBlock]⟩

theorem loses_updateTask {f : Task → Task} (hfixed : ∀ k, (f k).fixed = k.fixed)
    (hwaiting : ∀ k, (f k).waiting = k.waiting ∨ (f k).waiting = none) (s : State) : Loses ns s (updateTask f s) :=
  { Loses.refl (ns := ns) s with
    keeps := keeps_mono (by simp [lossBlocks]) (keeps_withTracker ..)
    notices := raisesOnly_of_eq rfl
    task := by simp [updateTask, Function.comp_def, hfixed]
    hook := fun h => ⟨rfl, fun k hk => by
      obtain ⟨k', hk', rfl⟩ := Option.map_eq_some_iff.1 hk
      obtain hw | hw := hwaiting k'
      · rw [hw]; exact h k' hk'
      · simp [hw]⟩ }

theorem loses_enterTerminal {notice : Notice} (hn : notice ∈ ns) (st : TaskState) (reason : Option Reason) (s : State) :
    Loses ns s (enterTerminal st reason notice s) :=
  ((loses_updateTask (f := fun t => { t with state := st, reason := reason, waiting := none })
    (fun _ => rfl) (fun _ => .inr rfl) s).trans (loses_raise hn _)).trans (loses_releaseAllOwn ..)

variable (hns : lossNotices ⊆ ns)
include hns

theorem loses_hookUnknown {k : Task} (hk : s.tracker.task = some k) (hw : k.waiting = some .takeOut) :
    Loses ns s (hookUnknown s) :=
  { Loses.refl (ns := ns) s with
    keeps := keeps_trans (keeps_mono (by simp [lossBlocks]) (keeps_withTracker ..)) (keeps_mono (by simp) (keeps_raise ..))
    notices := raisesOnly_mono (by simpa using hns (by simp [lossNotices]))
      (raisesOnly_trans (raisesOnly_of_eq (ns := []) rfl) (raise_raisesOnly ..))
    hook := fun h => absurd hw (h k hk) }

theorem loses_endClaimLost (reason : Reason) {k k' : Task} (hk : s.tracker.task = some k') (hw : k'.waiting = k.waiting) :
    Loses ns s (endClaimLost reason k s) := by
  simp only [endClaimLost]
  refine Loses.trans ?_ (loses_enterTerminal (hns (by simp [lossNotices])) ..)
  split
  next h => exact loses_hookUnknown hns hk (hw.trans h)
  · exact .refl s

theorem loses_tellClaimLost (reason : Reason) (s : State) : Loses ns s (tellClaimLost reason s) := by
  unfold tellClaimLost
  split
  · exact .refl s
  next k hk =>
    split
    · exact loses_endClaimLost hns reason hk rfl
    · exact loses_endClaimLost hns reason hk rfl
    · exact .refl s

theorem loses_tellTargetLost (s : State) : Loses ns s (tellTargetLost s) := by
  have htold : Notice.targetLost ∈ ns := hns (by simp [lossNotices])
  unfold tellTargetLost
  split
  · exact .refl s
  next k hk =>
    have hcleared := loses_updateTask (ns := ns) (f := fun t => { t with target := none }) (fun _ => rfl) (fun _ => .inl rfl) s
    have hlost := loses_updateTask (ns := ns) (f := fun t => { t with target := none, state := .targetLost }) (fun _ => rfl)
      (fun _ => .inl rfl) s
    split
    · exact hcleared.trans (loses_endClaimLost hns _ (k' := { k with target := none }) (by simp [updateTask, hk]) rfl)
    · exact hcleared.trans (loses_raise htold _)
    · exact hcleared.trans (loses_raise htold _)
    · exact hlost.trans (loses_raise htold _)
    · exact hlost.trans (loses_raise htold _)
    · exact .refl s

theorem loses_loseRound (cause : Reason) (s : State) : Loses ns s (loseRound cause s) := by
  unfold loseRound
  split
  · exact .refl s
  next r hr =>
    split
    next hp => exact (loses_closeRound hr (by simp [hp])).trans (loses_tellClaimLost hns ..)
    next hp => exact (loses_closeRound hr (by simp [hp])).trans (loses_tellTargetLost hns _)
    · exact .refl s

/-! ### Removals -/

theorem loses_reservationRemoved (round : Nat) (ref : Ref) (s : State) : Loses ns s (reservationRemoved round ref s) := by
  unfold reservationRemoved
  split
  · exact .refl s
  · split
    · split
      · exact (loses_releaseAllOwn ..).trans (loses_tellClaimLost hns ..)
      · exact loses_askRelease ..
    · split
      · split
        · exact (loses_askRelease ..).trans (loses_tellTargetLost hns _)
        · exact loses_askRelease ..
      · exact loses_askRelease ..

/-- R136, R142, R147: what the claim engine makes of an own reservation that was removed. -/
theorem loses_ownRemoved (ref : Ref) (v : Reservation) (s : State) : Loses ns s (ownRemoved ref v s) := by
  unfold ownRemoved
  split
  · exact loses_reservationRemoved hns ..
  · split
    · split
      · exact (loses_dropFromRound ..).trans (loses_reservationRemoved hns ..)
      · exact loses_loseRound hns ..
    · exact loses_reservationRemoved hns ..

end Sys2Proof.Machine
end

section
/-! PROOFS. The bookings of the task tracker: take-out, put-in and return, what each leaves of the records, the link and the
task, and the claim about TASK_CONFIRM and BOOKING_RESUMED. -/

namespace Sys2Proof.Machine

/-! ### The records and the tracker after the end of a task (R145, R170) -/

theorem keeps_withLink_withClaims {l : Link} {c : ClaimEngine} (s : State) :
    Keeps [.link, .claims] s ((s.withLink l).withClaims c) :=
  ⟨rfl, fun b hb => by cases b <;> simp_all [SameBlock]⟩

theorem keeps_askRelease (f : ReleaseFrame) (s : State) : Keeps [.link, .claims] s (askRelease f s) := by
  obtain ⟨b, c, h⟩ := askRelease_form f s
  rw [h]
  exact keeps_withLink_withClaims s

theorem keeps_askReleases (fs : List ReleaseFrame) (s : State) : Keeps [.link, .claims] s (askReleases fs s) := by
  unfold askReleases
  induction fs generalizing s with
  | nil => exact keeps_refl ..
  | cons f fs ih => exact keeps_trans (keeps_askRelease f s) (ih _)

theorem keeps_withdrawClaim (f : ReleaseFrame) (s : State) : Keeps [.link, .claims] s (withdrawClaim f s) :=
  ⟨by simp, fun b hb => by cases b <;> simp_all [SameBlock]⟩

theorem keeps_endReassert (r : Round) (s : State) : Keeps [.link, .claims] s (endReassert r s) := by
  simp only [endReassert]
  split
  · exact keeps_trans (keeps_withLink_withClaims (l := s.link) s) (keeps_withdrawClaim ..)
  · exact keeps_withLink_withClaims (l := s.link) s

theorem keeps_dropReassert (s : State) : Keeps [.link, .claims] s (dropReassert s) := by
  unfold dropReassert
  split
  · exact keeps_refl ..
  · split
    · exact keeps_endReassert ..
    · exact keeps_refl ..

theorem keeps_dropFromRound (ref : Ref) (s : State) : Keeps [.link, .claims] s (dropFromRound ref s) := by
  unfold dropFromRound
  split
  · exact keeps_refl ..
  · split
    · dsimp only
      split
      · exact keeps_endReassert ..
      · exact keeps_withLink_withClaims (l := s.link) s
    · exact keeps_refl ..

theorem dropFromRound_notices (ref : Ref) (s : State) : (dropFromRound ref s).notices = s.notices := by
  unfold dropFromRound endReassert
  split
  · rfl
  · dsimp only
    split_ifs
    · split <;> simp
    · rfl
    · rfl

/-- Every own reservation is released, and nothing else of the records changes. -/
theorem allReleased_releaseAllOwn (extra : List ReleaseFrame) (s : State) :
    AllReleased ofStation .own s (releaseAllOwn extra s) := by
  have hkeeps : Keeps [.link, .claims] (releaseWhere Reservation.isOwn .own s) (releaseAllOwn extra s) :=
    keeps_trans (keeps_dropReassert _) (keeps_askReleases ..)
  obtain ⟨hmap, hbay0, hbay1⟩ := allReleased_of_freedAlike (freedAlike_of_eq (s := s) rfl rfl)
  obtain ⟨hbay0', hbay1'⟩ := hkeeps.2 .trucks (by simp)
  exact ⟨Eq.trans (hkeeps.2 .map (by simp)) hmap, hbay0'.trans hbay0, hbay1'.trans hbay1⟩

theorem releaseAllOwn_tracker (extra : List ReleaseFrame) (s : State) : (releaseAllOwn extra s).tracker = s.tracker :=
  (keeps_trans (keeps_dropReassert _) (keeps_askReleases ..) :
    Keeps [.link, .claims] (releaseWhere Reservation.isOwn .own s) (releaseAllOwn extra s)).2 .tracker (by simp)

/-- R170: the entry to a terminal state. -/
theorem enterTerminal_spec (st : TaskState) (reason : Option Reason) (notice : Notice) (s : State) :
    let t := enterTerminal st reason notice s
    AllReleased ofStation .own s t ∧ Raised notice s t ∧ t.tracker = { s.tracker with
      task := s.tracker.task.map fun k => { k with state := st, reason := reason, waiting := none } } := by
  refine ⟨allReleased_releaseAllOwn [] (raise notice (updateTask _ s)), ?_, releaseAllOwn_tracker ..⟩
  exact raised_trans (raise_raised notice (updateTask _ s)) (loses_releaseAllOwn (ns := []) ..).notices

/-! ### States alike in all that a booking reads -/

/-- Two states with the same configuration, link, claims and records, the second keeping every notice raised. -/
structure Alike (s t : State) : Prop where
  cfg : t.cfg = s.cfg
  link : t.link = s.link
  map : t.map = s.map
  claims : t.claims = s.claims
  bay0 : t.trucks.bay0 = s.trucks.bay0
  bay1 : t.trucks.bay1 = s.trucks.bay1
  raises : ∃ ns, RaisesOnly ns s t

/-- A step that keeps the blocks a booking reads. -/
theorem alike_of_keeps {bs : List Block} {ns : List Notice} {s t : State} (hkeeps : Keeps bs s t) (hraises : RaisesOnly ns s t)
    (hbs : ∀ b ∈ [Block.cfg, .link, .map, .claims, .trucks], b ∉ bs := by simp) : Alike s t where
  cfg := hkeeps.2 .cfg (hbs _ (by simp))
  link := hkeeps.2 .link (hbs _ (by simp))
  map := hkeeps.2 .map (hbs _ (by simp))
  claims := hkeeps.2 .claims (hbs _ (by simp))
  bay0 := (hkeeps.2 .trucks (hbs _ (by simp))).1
  bay1 := (hkeeps.2 .trucks (hbs _ (by simp))).2
  raises := ⟨_, hraises⟩

theorem Alike.refl (s : State) : Alike s s := alike_of_keeps (bs := []) (ns := []) (keeps_refl ..) (raisesOnly_refl ..)

theorem alike_settle (s : State) : Alike s (settle s) := alike_of_keeps (keeps_settle s) (raisesOnly_settle s)

theorem alike_respond_settle (r : Reply) (s : State) : Alike s (respond r (settle s)) :=
  { alike_settle s with raises := ⟨_, raisesOnly_settle s⟩ }

namespace Alike
variable {s t : State} (h : Alike s t)
include h

theorem slotAt : slotAt t = slotAt s := slotAt_congr h.cfg h.map
theorem contentAt : contentAt t = contentAt s := by funext r c; exact contentAt_congr (by rw [h.slotAt])
theorem sourceAt : sourceAt t = sourceAt s := by funext r c; simp only [Machine.sourceAt, h.slotAt]
theorem bayRecord : bayRecord t = bayRecord s := bayRecord_congr h.bay0 h.bay1
theorem cradleAt : cradleAt t = cradleAt s := cradleAt_congr h.bayRecord
theorem ownResvAt : ownResvAt t = ownResvAt s := by
  funext ref
  exact ownResvAt_congr (by rw [resvAt_congr h.slotAt h.cradleAt])
theorem coveredByCoil : coveredByCoil t = coveredByCoil s := by
  funext r c
  simp only [Machine.coveredByCoil, h.cfg, h.contentAt]
theorem releaseAsked_iff (n : Nat) (ref : Ref) : ReleaseAsked n ref t ↔ ReleaseAsked n ref s := by
  rw [ReleaseAsked, ReleaseAsked, h.link, h.claims]
theorem inRound_iff (ref : Ref) (v : Reservation) : InRound t ref v ↔ InRound s ref v := inRound_congr (by rw [h.claims]) ref v
theorem raised {n : Notice} {r : State} (hr : Raised n r s) : Raised n r t := by
  obtain ⟨ns, hns⟩ := h.raises
  exact raised_trans hr hns
theorem raised_before {n : Notice} {u : State} (hr : Raised n t u) : Raised n s u := by
  obtain ⟨ns, hns⟩ := h.raises
  exact Machine.raised_before hns hr

end Alike

/-- What holds of own reservations released holds between states alike. -/
theorem OwnReleased.alike {s u t f : State} (h : OwnReleased u t) (hl : Alike s u) (hr : Alike t f) : OwnReleased s f := by
  obtain ⟨⟨hmap, hbay0, hbay1⟩, hasked⟩ := h
  refine ⟨⟨?_, ?_, ?_⟩, fun ref v hv hround => ?_⟩
  · rw [hr.map, hmap, hl.map]
  · rw [hr.bay0, hbay0, hl.bay0]
  · rw [hr.bay1, hbay1, hl.bay1]
  · exact (hr.releaseAsked_iff ..).2 (hasked ref v (by rwa [hl.ownResvAt]) (by rwa [hl.inRound_iff]))

theorem OtherSlotsKept.alike {row column : Nat} {s u t f : State} (h : OtherSlotsKept row column u t) (hl : Alike s u)
    (hr : Alike t f) : OtherSlotsKept row column s f := fun r c hne => by
  rw [hr.contentAt, hr.sourceAt, ← hl.contentAt, ← hl.sourceAt]
  exact h r c hne

theorem LinkKeeps.alike {book : Option BookFrame} {s u t f : State} (h : LinkKeeps book u t) (hl : Alike s u) (hr : Alike t f) :
    LinkKeeps book s f := by
  rw [LinkKeeps] at h ⊢
  rw [hr.link, ← hl.link]
  exact h

/-! ### The take-out (R155) -/

/-- R33: the verify service, as the statement says it. -/
theorem verifyPasses_eq (expected : Option Nat) (measured : Nat) : verifyPasses expected measured = verified expected measured := by
  cases expected with
  | none => rfl
  | some E =>
    have hiff : magnitude ((measured : Int) - E) ≤ floorDiv E 32 + 5 ↔
        measured ≤ E + (E / 32 + 5) ∧ E ≤ measured + (E / 32 + 5) := by
      simp only [magnitude, floorDiv]
      omega
    exact decide_eq_decide.2 hiff

/-- R155: the state a task goes on in after a take-out. -/
def afterTakeOutState (k : Task) : TaskState :=
  if verified k.weight k.measuredWeight then (if k.target.isSome then .toTarget else .targetLost) else .verifyHold

/-- R155: the notice of a take-out, if its verify service or its target gives one. -/
def afterTakeOutNotice (k : Task) : Option Notice :=
  if verified k.weight k.measuredWeight then (if k.target.isSome then none else some .targetLost) else some .weightMismatch

theorem afterTakeOut_eq (k : Task) (s : State) : afterTakeOut k s =
    (afterTakeOutNotice k).elim id raise
      (updateTask (fun t => { t with state := afterTakeOutState k, waiting := none }) s) := by
  simp only [afterTakeOut, verifyPasses_eq, afterTakeOutState, afterTakeOutNotice]
  cases k.target <;> cases verified k.weight k.measuredWeight <;> rfl

theorem afterTakeOut_spec (k : Task) (s : State) :
    let t := afterTakeOut k s
    Keeps [.tracker] s t ∧ RaisesOnly [.weightMismatch, .targetLost] s t ∧
      t.tracker = { s.tracker with
        task := s.tracker.task.map fun t => { t with state := afterTakeOutState k, waiting := none } } ∧
      ∀ n, afterTakeOutNotice k = some n → Raised n s t := by
  rw [afterTakeOut_eq]
  have hkeeps := keeps_withTracker { s.tracker with
    task := s.tracker.task.map fun t => { t with state := afterTakeOutState k, waiting := none } } s
  cases hn : afterTakeOutNotice k with
  | none => exact ⟨hkeeps, raisesOnly_of_eq rfl, rfl, nofun⟩
  | some n =>
    have hmem : n ∈ [Notice.weightMismatch, .targetLost] := by
      unfold afterTakeOutNotice at hn
      split_ifs at hn <;> simp_all
    refine ⟨hkeeps.andThen (keeps_raise n _), raisesOnly_mono (by simpa using hmem) (raise_raisesOnly n (updateTask _ s)), rfl, ?_⟩
    rintro _ ⟨⟩
    exact raise_raised n (updateTask _ s)

theorem isSlot_of_contentAt {s : State} {row column : Nat} (h : contentAt s row column ≠ .empty) : isSlot s row column := by
  obtain ⟨r, hr, -⟩ := slotAt_of_contentAt rfl h
  simp [isSlot, hr]

theorem contentAt_setSlot_same {s : State} {row column : Nat} (r : SlotRecord) (h : isSlot s row column) :
    contentAt (setSlot row column r s) row column = r.content := contentAt_of_slotAt (slotAt_setSlot_same r h)

theorem sourceAt_setSlot_same {s : State} {row column : Nat} (r : SlotRecord) (h : isSlot s row column) :
    sourceAt (setSlot row column r s) row column = some r.source := by simp [sourceAt, slotAt_setSlot_same r h]

theorem otherSlotsKept_setSlot (row column : Nat) (r : SlotRecord) (s : State) :
    OtherSlotsKept row column s (setSlot row column r s) := fun row' column' hne => by
  have h := slotAt_setSlot_ne r s hne
  exact ⟨contentAt_congr h, by rw [sourceAt, sourceAt, h]⟩

theorem keeps_setSlot (row column : Nat) (r : SlotRecord) (s : State) : Keeps [.map] s (setSlot row column r s) :=
  ⟨by simp, fun b hb => by cases b <;> simp_all [SameBlock]⟩

/-- R116: the slot of a take-out, and what follows where an upper coil lies on it. -/
theorem takeOutSlot_spec {s : State} {row column : Nat} (v : Reservation) (h : isSlot s row column) :
    let t := takeOutSlot row column v s
    let covered := coveredByCoil s row column
    Keeps [.map, .link, .claims] s t ∧ RaisesOnly [.disputed] s t ∧ LinkKeeps s.link.boxes.book s t ∧
      contentAt t row column = (if covered then .disputed else .reservedIn v) ∧ sourceAt t row column = some .own ∧
      OtherSlotsKept row column s t ∧
      if covered then ReleaseAsked v.round (.slot row column) t ∧ Raised .disputed s t
      else t.claims = s.claims ∧ t.link = s.link := by
  dsimp only
  unfold takeOutSlot
  have hset := keeps_setSlot row column
  split
  next hcovered =>
    let d := raise .disputed (setSlot row column { content := .disputed, source := .own } s)
    have hloss : Loses [] d (askRelease { round := v.round, refs := [.slot row column] }
      (dropFromRound (.slot row column) d)) := (loses_dropFromRound ..).trans (loses_askRelease ..)
    have hkeeps : Keeps [.link, .claims] d (askRelease { round := v.round, refs := [.slot row column] }
      (dropFromRound (.slot row column) d)) := keeps_trans (keeps_dropFromRound ..) (keeps_askRelease ..)
    have hslots : slotAt _ = slotAt d := slotAt_congr (hkeeps.2 .cfg (by simp)) (hkeeps.2 .map (by simp))
    obtain ⟨-, -, -, hasked⟩ := askRelease_spec { round := v.round, refs := [.slot row column] } (dropFromRound (.slot row column) d)
    have hplaced : slotAt d row column = some { content := .disputed, source := .own } := slotAt_setSlot_same _ h
    refine ⟨((hset _ s).andThen (ds := [.map]) (keeps_raise ..)).andThen hkeeps, ?_, ?_, ?_, ?_, ?_, ?_, ?_⟩
    · have hraised : RaisesOnly [.disputed] s d :=
        raisesOnly_trans (a := []) (raisesOnly_of_eq (setSlot_notices ..)) (raise_raisesOnly ..)
      simpa using raisesOnly_trans hraised hloss.notices
    · exact linkKeeps_trans (linkKeeps_of_eq (by simp [d])) hloss.link
    · exact contentAt_of_slotAt (by rw [hslots, hplaced])
    · rw [sourceAt, hslots, hplaced]; rfl
    · intro r c hne
      have hother : slotAt _ r c = slotAt s r c := (congrFun (congrFun hslots r) c).trans (slotAt_setSlot_ne _ s hne)
      exact ⟨contentAt_congr hother, by rw [sourceAt, sourceAt, hother]⟩
    · exact hasked _ (List.mem_singleton_self _)
    · have hbefore : RaisesOnly [] s (setSlot row column { content := .disputed, source := .own } s) :=
        raisesOnly_of_eq (setSlot_notices ..)
      exact raised_trans (raised_before hbefore (raise_raised ..)) hloss.notices
  next =>
    exact ⟨keeps_mono (by simp) (hset _ s), raisesOnly_of_eq (setSlot_notices ..), linkKeeps_of_eq (setSlot_link ..),
      contentAt_setSlot_same _ h, sourceAt_setSlot_same _ h, fun r c hne =>
        otherSlotsKept_setSlot row column _ s r c hne, setSlot_claims .., setSlot_link ..⟩

theorem keeps_queueBook (f : BookFrame) (s : State) : Keeps [.link] s (queueBook f s) :=
  ⟨rfl, fun b hb => by cases b <;> simp_all [SameBlock, queueBook]⟩

/-- R155: a take-out that finds the source no longer held. -/
theorem sourceLost_spec {k : Task} {s : State} (hk : s.tracker.task = some k) :
    let t := sourceLost s
    Keeps lossBlocks s t ∧ RaisesOnly [.hookUnknown, .aborted] s t ∧
      t.tracker.task = some { k with state := .aborted, reason := some .sourceLost, waiting := none } ∧
      t.tracker.hook = s.tracker.hook.map (fun h => { h with coil := none, width := none, origin := .unknown }) ∧
      LinkKeeps s.link.boxes.book s t ∧ OwnReleased s t ∧ Raised .aborted s t ∧ Raised .hookUnknown s t := by
  have hloss : Loses [.aborted] (hookUnknown s) (sourceLost s) := loses_enterTerminal (by simp) ..
  obtain ⟨hreleased, haborted, htracker⟩ := enterTerminal_spec .aborted (some .sourceLost) .aborted (hookUnknown s)
  have hunknown : RaisesOnly [.hookUnknown] s (hookUnknown s) :=
    raisesOnly_trans (a := []) (raisesOnly_of_eq rfl) (raise_raisesOnly ..)
  have hkeeps : Keeps [.tracker] s (hookUnknown s) := keeps_trans (keeps_withTracker ..) (keeps_mono (by simp) (keeps_raise ..))
  refine ⟨hkeeps.andThen hloss.keeps (by simp [lossBlocks]), raisesOnly_trans hunknown hloss.notices, ?_, ?_, hloss.link,
    hloss.ownReleased hreleased, raised_before hunknown haborted, ?_⟩
  · exact (congrArg Tracker.task htracker).trans (by simp [hookUnknown, setHook, hk])
  · exact congrArg Tracker.hook htracker
  · exact raised_trans (raise_raised .hookUnknown (setHook _ s)) hloss.notices

theorem takeOut_of_held {k : Task} {v w : Reservation} {c : CoilInfo} {s : State} (hv : ownResvAt s k.source = some v)
    (hc : contentAt s k.sourceRow k.sourceColumn = .reservedOut c w) :
    takeOut k s = afterTakeOut k (takeOutRecords k v s) := by
  simp [takeOut, hv, hc]

theorem takeOut_of_lost {k : Task} {s : State}
    (h : ∀ v, ownResvAt s k.source = some v → ∀ c w, contentAt s k.sourceRow k.sourceColumn ≠ .reservedOut c w) :
    takeOut k s = sourceLost s := by
  unfold takeOut
  split
  next hv hc => exact absurd hc (h _ hv _ _)
  · rfl

/-- R155: the records and the hook of a take-out. -/
theorem takeOutRecords_spec {k : Task} {s : State} (v : Reservation) (hslot : isSlot s k.sourceRow k.sourceColumn) :
    let t := takeOutRecords k v s
    let covered := coveredByCoil s k.sourceRow k.sourceColumn
    Keeps [.map, .link, .claims, .tracker] s t ∧ RaisesOnly [.disputed] s t ∧
      LinkKeeps (some (.picked v.round k.source k.coil)) s t ∧
      contentAt t k.sourceRow k.sourceColumn = (if covered then .disputed else .reservedIn v) ∧
      sourceAt t k.sourceRow k.sourceColumn = some .own ∧ OtherSlotsKept k.sourceRow k.sourceColumn s t ∧
      (if covered then ReleaseAsked v.round k.source t ∧ Raised .disputed s t
        else t.claims = s.claims ∧
          t.link = { s.link with boxes := { s.link.boxes with book := some (.picked v.round k.source k.coil) } }) ∧
      t.tracker = { s.tracker with hook := s.tracker.hook.map fun h => { h with coil := some k.coil, width := k.width } } := by
  let q := queueBook (.picked v.round k.source k.coil) s
  obtain ⟨hkeeps, hraises, hlink, hcontent, hsource, hothers, hcovered⟩ :=
    takeOutSlot_spec (s := q) v (show isSlot q _ _ from hslot)
  have htracker : (takeOutSlot k.sourceRow k.sourceColumn v q).tracker = s.tracker := hkeeps.2 .tracker (by simp)
  refine ⟨((keeps_queueBook ..).andThen (ds := [.map, .link, .claims]) hkeeps).andThen (keeps_withTracker ..), hraises,
    ?_, hcontent, hsource, hothers, hcovered, ?_⟩
  · obtain ⟨c, r, w, hlink⟩ := linkKeeps_iff.1 hlink
    exact linkKeeps_iff.2 ⟨c, r, w, hlink⟩
  · show Tracker.mk _ _ = _
    rw [htracker]

/-- R155: the take-out of the running task. -/
theorem takesOut_takeOut {k : Task} {s : State} (hk : s.tracker.task = some k) : TakesOut k s (takeOut k s) := by
  unfold TakesOut
  split
  next v c w hv hc =>
    rw [takeOut_of_held hv hc]
    have hslot : isSlot s k.sourceRow k.sourceColumn := isSlot_of_contentAt (by simp [hc])
    obtain ⟨hkeeps, hraises, hlink, hcontent, hsource, hothers, hcovered, htracker⟩ := takeOutRecords_spec v hslot
    generalize takeOutRecords k v s = u at *
    obtain ⟨hkeeps', hraises', htracker', hnotice⟩ := afterTakeOut_spec k u
    have halike : Alike u (afterTakeOut k u) := alike_of_keeps hkeeps' hraises'
    have hraised : ∀ n, afterTakeOutNotice k = some n → Raised n s (afterTakeOut k u) := fun n hn =>
      raised_before hraises (hnotice n hn)
    obtain ⟨hbay0, hbay1⟩ := hkeeps.2 .trucks (by simp)
    refine ⟨hlink.alike (.refl s) halike, by rw [halike.contentAt, hcontent], by rw [halike.sourceAt, hsource],
      hothers.alike (.refl s) halike, halike.bay0.trans hbay0, halike.bay1.trans hbay1, ?_, by rw [htracker', htracker],
      by rw [htracker', htracker, hk]; rfl, fun hbad => hraised _ (by simp [afterTakeOutNotice, hbad]),
      fun hgood hnone => hraised _ (by simp [afterTakeOutNotice, hgood, hnone])⟩
    split
    next hcov =>
      obtain ⟨hasked, hdisputed⟩ := by simpa only [if_pos hcov] using hcovered
      exact ⟨(halike.releaseAsked_iff ..).2 hasked, halike.raised hdisputed⟩
    next hcov =>
      obtain ⟨hclaims, hbooked⟩ := by simpa only [if_neg hcov] using hcovered
      exact ⟨halike.claims.trans hclaims, halike.link.trans hbooked⟩
  next hlost =>
    rw [takeOut_of_lost (fun v hv c w hc => hlost v c w hv hc)]
    obtain ⟨-, -, hspec⟩ := sourceLost_spec hk
    exact hspec

theorem TakesOut.alike {k : Task} {s u t f : State} (h : TakesOut k u t) (hl : Alike s u) (hls : u.tracker = s.tracker)
    (hr : Alike t f) (hrt : f.tracker = t.tracker) : TakesOut k s f := by
  unfold TakesOut at h ⊢
  rw [hl.ownResvAt, hl.contentAt, hl.coveredByCoil, hls] at h
  rw [hrt]
  split at h
  next v c w hv hc =>
    obtain ⟨hlink, hcontent, hsource, hothers, hbay0, hbay1, hcovered, hhook, htask, hbad, hgood⟩ := h
    refine ⟨hlink.alike hl hr, by rw [hr.contentAt, hcontent], by rw [hr.sourceAt, hsource], hothers.alike hl hr,
      (hr.bay0.trans hbay0).trans hl.bay0, (hr.bay1.trans hbay1).trans hl.bay1, ?_, hhook, htask,
      fun h => hl.raised_before (hr.raised (hbad h)), fun h h' => hl.raised_before (hr.raised (hgood h h'))⟩
    split
    next hcov =>
      obtain ⟨hasked, hdisputed⟩ := by simpa only [if_pos hcov] using hcovered
      exact ⟨(hr.releaseAsked_iff ..).2 hasked, hl.raised_before (hr.raised hdisputed)⟩
    next hcov =>
      rw [hr.claims, hr.link, ← hl.claims, ← hl.link]
      simpa only [if_neg hcov] using hcovered
  next hlost =>
    obtain ⟨htask, hhook, hlink, hreleased, haborted, hunknown⟩ := h
    have hlink' : LinkKeeps s.link.boxes.book s f := hl.link ▸ hlink.alike hl hr
    exact ⟨htask, hhook, hlink', hreleased.alike hl hr, hl.raised_before (hr.raised haborted),
      hl.raised_before (hr.raised hunknown)⟩

/-! ### A place filled, and every other own reservation released (R159, R160) -/

/-- One place of the records has been filled, and nothing else has changed but notices. -/
structure Filled (place : Ref) (s u : State) : Prop where
  keeps : Keeps [.map, .trucks] s u
  notices : RaisesOnly bookingNotices s u
  slots : ∀ row column, .slot row column ≠ place → slotAt u row column = slotAt s row column
  cradles : ∀ bay index, .cradle bay index ≠ place → cradleAt u bay index = cradleAt s bay index

theorem Filled.refl (place : Ref) (s : State) : Filled place s s :=
  ⟨keeps_refl .., raisesOnly_refl .., fun _ _ _ => rfl, fun _ _ _ => rfl⟩

theorem filled_setSlot (row column : Nat) (r : SlotRecord) (s : State) :
    Filled (.slot row column) s (setSlot row column r s) where
  keeps := keeps_mono (by simp) (keeps_setSlot row column r s)
  notices := raisesOnly_of_eq (setSlot_notices ..)
  slots row' column' hne := slotAt_setSlot_ne r s (by simpa using hne)
  cradles bay index _ := congrFun (congrFun (cradleAt_congr (bayRecord_congr (by simp) (by simp))) bay) index

theorem ownResvAt_of_filled {place ref : Ref} {s u : State} (h : Filled place s u) (hne : ref ≠ place) :
    ownResvAt u ref = ownResvAt s ref := by
  refine ownResvAt_congr ?_
  cases ref with
  | slot row column => rw [resvAt_slot, resvAt_slot, contentAt_congr (h.slots _ _ hne)]
  | cradle bay index => rw [resvAt_cradle, resvAt_cradle, h.cradles _ _ hne]

theorem SlotRecord.without_of_none {r : SlotRecord} (h : slotResv r.content = none) (p : Reservation → Bool)
    (source : ChangeSource) : r.without p source = r := by
  obtain ⟨content, src⟩ := r
  cases content <;> simp_all [slotResv, SlotRecord.without, SlotContent.without]

section
variable {place : Ref} {s u t : State} (hfilled : Filled place s u) (hloses : Loses bookingNotices u t)
  (hreleased : AllReleased ofStation .own u t)

include hfilled hloses in
theorem cfg_of_filled : t.cfg = u.cfg ∧ u.cfg = s.cfg :=
  ⟨hloses.keeps.2 .cfg (by simp [lossBlocks]), hfilled.keeps.2 .cfg (by simp)⟩

include hfilled hloses in
theorem keeps_of_filled : Keeps lossBlocks s t ∧ RaisesOnly bookingNotices s t ∧ LinkKeeps s.link.boxes.book s t :=
  ⟨hfilled.keeps.andThen hloses.keeps (by simp [lossBlocks]),
    raisesOnly_mono (by simp) (raisesOnly_trans hfilled.notices hloses.notices),
    linkKeeps_trans (linkKeeps_of_eq (hfilled.keeps.2 .link (by simp))) hloses.link⟩

include hfilled hloses hreleased in
/-- A place filled, then a loss that leaves no own reservation: every other one has been released. -/
theorem othersReleased_of_filled : OthersReleased place s t := by
  have hcfg := (cfg_of_filled hfilled hloses).1
  have hclaims : u.claims = s.claims := hfilled.keeps.2 .claims (by simp)
  refine ⟨fun row column hne => ?_, fun bay index hne => ?_, fun ref hne v hv hround => ?_⟩
  · rw [contentAt_of_allReleased hcfg hreleased, contentAt_congr (hfilled.slots row column hne)]
  · rw [cradleContent_of_allReleased hreleased, cradleContent, hfilled.cradles bay index hne, cradleContent]
  · exact (hloses.ownReleased hreleased).2 ref v ((ownResvAt_of_filled hfilled hne).trans hv)
      (mt (inRound_congr (by rw [hclaims]) ref v).1 hround)

include hfilled hloses hreleased in
/-- Every slot but the one filled that the station does not reserve keeps its record. -/
theorem unreservedSlotsKept_of_filled : UnreservedSlotsKept (fun row column => .slot row column = place) s t := by
  refine unreservedSlotsKept_of_slotAt fun row column hne hnone => ?_
  rw [← ownResvAt_of_filled hfilled hne] at hnone
  rw [slotAt_of_allReleased_of_none (cfg_of_filled hfilled hloses).1 hreleased hnone, hfilled.slots row column hne]

end

/-! ### The put-in into a slot (R116) -/

theorem makeDisputed_spec {row column : Nat} {source : ChangeSource} {r : SlotRecord} {s : State}
    (hr : slotAt s row column = some r) (hne : r.content ≠ .disputed) :
    Loses bookingNotices (setSlot row column { content := .disputed, source := source } s) (makeDisputed source row column s) ∧
      Raised .disputed s (makeDisputed source row column s) := by
  let d := setSlot row column { content := .disputed, source := source } s
  have hraise : Loses bookingNotices d (raise .disputed d) := loses_raise (by decide) d
  have hlost : Loses bookingNotices (raise .disputed d) (makeDisputed source row column s) := by
    simp only [makeDisputed, hr, if_neg hne]
    split
    · exact .refl _
    · split
      · exact loses_ownRemoved (by decide) ..
      · exact .refl _
  have hbefore : RaisesOnly [] s d := raisesOnly_of_eq (setSlot_notices ..)
  exact ⟨hraise.trans hlost, raised_trans (raised_before hbefore (raise_raised ..)) hlost.notices⟩

/-- R116: the slot of a put-in takes the coil where the station holds it for the put-in, and is DISPUTED elsewhere. -/
theorem putInSlot_spec (row column : Nat) (c : CoilInfo) (s : State) : ∃ content,
    Loses bookingNotices (setSlot row column { content := content, source := .own } s) (putInSlot row column c s) ∧
    slotResv content = none ∧
    ((∃ v w, ownResvAt s (.slot row column) = some v ∧ contentAt s row column = .reservedIn w ∧ content = .occupied c) ∨
      (∀ v w, ownResvAt s (.slot row column) = some v → contentAt s row column ≠ .reservedIn w) ∧ content = .disputed ∧
        (isSlot s row column → contentAt s row column ≠ .disputed → Raised .disputed s (putInSlot row column c s))) := by
  unfold putInSlot
  split
  next v w hv hw => exact ⟨_, loses_dropFromRound .., rfl, .inl ⟨v, w, hv, hw, rfl⟩⟩
  next hc => exact ⟨_, .refl _, rfl, .inr ⟨fun v w _ => by simp [hc], rfl, fun _ h => absurd hc h⟩⟩
  next hdisputed hnot =>
    refine ⟨.disputed, ?_, rfl, .inr ⟨fun v w hv hw => hnot v w hv hw, rfl, fun hslot _ => ?_⟩⟩
    · cases hr : slotAt s row column with
      | none =>
        rw [setSlot_of_not_isSlot _ hr]
        simpa only [makeDisputed, hr] using .refl s
      | some r => exact (makeDisputed_spec hr (by rwa [← contentAt_of_slotAt hr])).1
    · obtain ⟨r, hr⟩ := Option.isSome_iff_exists.1 hslot
      exact (makeDisputed_spec hr (by rwa [← contentAt_of_slotAt hr])).2

/-- What a put-in into a slot leaves once every own reservation has been released. -/
theorem putsInSlot_of_filled {row column : Nat} {k : Task} {s t f : State} (hcfg : f.cfg = t.cfg)
    (hloses : RaisesOnly bookingNotices t f) {content : SlotContent} (hresv : slotResv content = none)
    (hplaced : AllReleased ofStation .own (setSlot row column { content := content, source := .own } s) f)
    (hcases : (∃ v w, ownResvAt s (.slot row column) = some v ∧ contentAt s row column = .reservedIn w ∧
        content = .occupied { coil := k.coil, weight := some k.measuredWeight, width := k.width }) ∨
      (∀ v w, ownResvAt s (.slot row column) = some v → contentAt s row column ≠ .reservedIn w) ∧ content = .disputed ∧
        (isSlot s row column → contentAt s row column ≠ .disputed → Raised .disputed s t))
    (hcfg' : t.cfg = s.cfg) (hslot : isSlot s row column) :
    PutsInSlot row column (ownResvAt s (.slot row column)) k s f := by
  have hrecord : slotAt f row column = some { content := content, source := .own } := by
    rw [slotAt_of_allReleased (hcfg.trans (hcfg'.trans (setSlot_cfg ..).symm)) hplaced, slotAt_setSlot_same _ hslot]
    exact congrArg some (SlotRecord.without_of_none hresv _ _)
  refine ⟨by rw [sourceAt, hrecord]; rfl, ?_⟩
  rw [contentAt_of_slotAt hrecord]
  split
  next v w hv hw =>
    obtain ⟨-, -, -, -, hcontent⟩ | ⟨hnot, -⟩ := hcases
    · exact hcontent
    · exact absurd hw (hnot v w hv)
  next hnot =>
    obtain ⟨v, w, hv, hw, -⟩ | ⟨-, hcontent, hdisputed⟩ := hcases
    · exact absurd hw (hnot v w hv)
    · exact ⟨hcontent, fun hne => raised_trans (hdisputed hslot hne) hloses⟩

/-! ### The put-in into a cradle (R186 to R188) -/

theorem keeps_setBay (bay : Nat) (b : Option Truck) (s : State) : Keeps [.trucks] s (setBay bay b s) :=
  ⟨by simp, fun x hx => by cases x <;> simp_all [SameBlock]⟩

theorem cradleAt_of_bayRecord {bay index : Nat} {b : Truck} {c : Cradle} {s : State} (hb : bayRecord s bay = some b)
    (hc : b.cradles[index]? = some c) : cradleAt s bay index = some c := cradleAt_eq_some_iff.2 ⟨b, hb, hc⟩

/-- R186, R187: the station's coil placed in a cradle. -/
theorem placeInCradle_spec {bay index : Nat} {b : Truck} {c : Cradle} (coil : CoilId) (weight : Nat) {s : State}
    (hb : bayRecord s bay = some b) (hc : b.cradles[index]? = some c) :
    let u := placeInCradle bay index coil weight .own s
    let b' := b.place index c.offset coil weight .own
    Filled (.cradle bay index) s u ∧ bayRecord u bay = some b' ∧ (b'.overLimit = true → Raised .truckOver s u) := by
  let b' := b.place index c.offset coil weight .own
  have heq : placeInCradle bay index coil weight .own s =
      if b'.overLimit then raise .truckOver (setBay bay (some b') s) else setBay bay (some b') s := by
    simp only [placeInCradle, hb, cradleAt_of_bayRecord hb hc]
    rfl
  have hbay : bayRecord (setBay bay (some b') s) bay = some b' := bayRecord_setBay_same _ s (bay_le_of_bayRecord hb)
  have hset : Filled (.cradle bay index) s (setBay bay (some b') s) := by
    refine ⟨keeps_mono (by simp) (keeps_setBay ..), raisesOnly_of_eq (setBay_notices ..), fun row column _ => ?_,
      fun bay' index' hne => ?_⟩
    · rw [slotAt_congr (setBay_cfg ..) (setBay_map ..)]
    · by_cases h : bay' = bay
      · subst h
        have hindex : index ≠ index' := by rintro rfl; exact hne rfl
        have hget : b'.cradles[index']? = b.cradles[index']? := by simp [b', Truck.place, Truck.setCradle, hindex]
        simp only [cradleAt, hbay, hb, hget]
      · simp [cradleAt, bayRecord_setBay_ne _ s h]
  dsimp only
  rw [heq]
  split
  next hover =>
    have hraise := raise_raisesOnly .truckOver (setBay bay (some b') s)
    refine ⟨{ hset with keeps := hset.keeps.andThen (keeps_raise ..), notices := ?_ }, hbay, fun _ => ?_⟩
    · exact raisesOnly_mono (by decide) (raisesOnly_trans hset.notices hraise)
    · exact raised_before hset.notices (raise_raised ..)
  next hover => exact ⟨hset, hbay, fun h => absurd h hover⟩

/-- A cradle is OCCUPIED. -/
def CradleContent.isOccupied : CradleContent → Bool
  | .occupied _ _ _ => true
  | _ => false

theorem ownPlacement_of_none {bay index : Nat} (coil : CoilId) (weight : Nat) {s : State}
    (h : cradleAt s bay index = none) : ownPlacement bay index coil weight s = raise .truckConflict s := by
  simp [ownPlacement, h]

/-- R188: the station's put-in to a cradle of a record: filled but where it was OCCUPIED, and a conflict but where the
station holds it. -/
theorem ownPlacement_spec {bay index : Nat} {b : Truck} {c : Cradle} (coil : CoilId) (weight : Nat) {s : State}
    (hb : bayRecord s bay = some b) (hc : b.cradles[index]? = some c) :
    let t := ownPlacement bay index coil weight s
    let b' := b.place index c.offset coil weight .own
    ∃ u, Filled (.cradle bay index) s u ∧ Loses bookingNotices u t ∧
      (ownResvAt s (.cradle bay index) = none → Raised .truckConflict s t) ∧
      if c.content.isOccupied then bayRecord u bay = some b
      else bayRecord u bay = some b' ∧ (b'.overLimit = true → Raised .truckOver s u) := by
  have hcradle := cradleAt_of_bayRecord hb hc
  obtain ⟨hfilled, hplaced⟩ := placeInCradle_spec coil weight hb hc
  have hconflict : Raised .truckConflict s (raise .truckConflict (placeInCradle bay index coil weight .own s)) :=
    raised_before hfilled.notices (raise_raised ..)
  have hraise (u : State) : Loses bookingNotices u (raise .truckConflict u) := loses_raise (by decide) u
  simp only [ownPlacement, hcradle]
  cases hcontent : c.content with
  | occupied => exact ⟨s, .refl .., hraise s, fun _ => raise_raised .., hb⟩
  | free => exact ⟨_, hfilled, hraise _, fun _ => hconflict, hplaced⟩
  | reserved v =>
    dsimp only
    split
    next hown =>
      have hresv : resvAt s (.cradle bay index) = some v := by simp [resvAt_cradle, hcradle, hcontent, cradleResv]
      refine ⟨_, hfilled, loses_dropFromRound .., fun hnone => ?_, hplaced⟩
      simp [ownResvAt_eq_some_iff.2 ⟨hresv, hown⟩] at hnone
    next => exact ⟨_, hfilled, hraise _, fun _ => hconflict, hplaced⟩

theorem AllReleased.bayRecord_of_some {s t : State} (h : AllReleased ofStation .own s t) {bay : Nat} {b : Truck}
    (hb : bayRecord s bay = some b) : bayRecord t bay = some (b.without ofStation) := by
  rw [bayRecord_of_allReleased h, hb]
  rfl

theorem Truck.getElem?_place_same {b : Truck} {index : Nat} {c : Cradle} (hc : b.cradles[index]? = some c) (coil : CoilId)
    (weight : Nat) (placer : Holder) :
    (b.place index c.offset coil weight placer).cradles[index]? = some { c with content := .occupied coil weight placer } := by
  simp [Truck.place, Truck.setCradle, hc]

theorem cradleContent_of_bayRecord {bay index : Nat} {b : Truck} {c : Cradle} {s : State} (hb : bayRecord s bay = some b)
    (hc : b.cradles[index]? = some c) : cradleContent s bay index = some c.content := by
  rw [cradleContent, cradleAt_of_bayRecord hb hc]
  rfl

/-- What a put-in leaves of its place: a slot of the geometry by R116, a cradle by R187 and R188. -/
def PutsInPlace (ref : Ref) (k : Task) (s t : State) : Prop :=
  match ref with
  | .slot row column => isSlot s row column → PutsInSlot row column (ownResvAt s ref) k s t
  | .cradle bay index => PutsInCradle bay index k s t

theorem putInCradle_spec (bay index : Nat) (k : Task) (s : State) : ∃ u, Filled (.cradle bay index) s u ∧
    Loses bookingNotices u (putInAt k (.cradle bay index) s) ∧
    ∀ f, AllReleased ofStation .own u f → RaisesOnly bookingNotices (putInAt k (.cradle bay index) s) f →
      PutsInCradle bay index k s f := by
  cases hcradle : cradleAt s bay index with
  | none =>
    have heq : putInAt k (.cradle bay index) s = raise .truckConflict s := ownPlacement_of_none _ _ hcradle
    rw [heq]
    refine ⟨s, .refl .., loses_raise (by decide) s, fun f hreleased hraises => ⟨fun _ => ?_, fun b c hb hc => ?_⟩⟩
    · exact raised_trans (raise_raised ..) hraises
    · simp [cradleAt_of_bayRecord hb hc] at hcradle
  | some c =>
    obtain ⟨b, hb, hc⟩ := cradleAt_eq_some_iff.1 hcradle
    obtain ⟨u, hfilled, hloses, hconflict, hbay⟩ := ownPlacement_spec k.coil k.measuredWeight hb hc
    refine ⟨u, hfilled, hloses, fun f hreleased hraises => ⟨fun hnone => raised_trans (hconflict hnone) hraises, ?_⟩⟩
    intro b' c' hb' hc'
    obtain rfl := Option.some.inj (hb.symm.trans hb')
    obtain rfl := Option.some.inj (hc.symm.trans hc')
    have hcontent := cradleContent_of_allReleased hreleased bay index
    cases hocc : c.content.isOccupied with
    | true =>
      rw [hocc, if_pos rfl] at hbay
      rw [cradleContent_of_bayRecord hbay hc] at hcontent
      refine ⟨_, hreleased.bayRecord_of_some hbay, ?_⟩
      cases hcc : c.content <;> simp_all [CradleContent.isOccupied, Truck.without, CradleContent.without]
    | false =>
      rw [hocc] at hbay
      obtain ⟨hbay, hover⟩ := hbay
      rw [cradleContent_of_bayRecord hbay (Truck.getElem?_place_same hc ..)] at hcontent
      have hraised : (b.place index c.offset k.coil k.measuredWeight .own).overLimit = true → Raised .truckOver s f :=
        fun h => raised_trans (raised_trans (hover h) hloses.notices) hraises
      refine ⟨_, hreleased.bayRecord_of_some hbay, ?_⟩
      have hsum : (b.place index c.offset k.coil k.measuredWeight .own).K +
          (b.place index c.offset k.coil k.measuredWeight .own).A = b.K + b.A + k.measuredWeight := by
        simp only [Truck.place, frontShare]
        omega
      cases hcc : c.content with
      | occupied => simp [hcc, CradleContent.isOccupied] at hocc
      | free => exact ⟨hcontent, rfl, hsum, rfl, hraised⟩
      | reserved => exact ⟨hcontent, rfl, hsum, rfl, hraised⟩

theorem putInSlot_place (row column : Nat) (k : Task) (s : State) :
    let t := putInSlot row column { coil := k.coil, weight := some k.measuredWeight, width := k.width } s
    ∃ u, Filled (.slot row column) s u ∧ Loses bookingNotices u t ∧
      ∀ f, f.cfg = s.cfg → AllReleased ofStation .own u f → RaisesOnly bookingNotices t f → isSlot s row column →
        PutsInSlot row column (ownResvAt s (.slot row column)) k s f := by
  obtain ⟨content, hloses, hresv, hcases⟩ :=
    putInSlot_spec row column { coil := k.coil, weight := some k.measuredWeight, width := k.width } s
  have hcfg := (cfg_of_filled (filled_setSlot ..) hloses).1.trans (setSlot_cfg ..)
  exact ⟨_, filled_setSlot .., hloses, fun f hf hreleased hraises hslot =>
    putsInSlot_of_filled (hf.trans hcfg.symm) hraises hresv hreleased hcases hcfg hslot⟩

theorem putInAt_spec (ref : Ref) (k : Task) (s : State) : ∃ u, Filled ref s u ∧ Loses bookingNotices u (putInAt k ref s) ∧
    ∀ f, f.cfg = s.cfg → AllReleased ofStation .own u f → RaisesOnly bookingNotices (putInAt k ref s) f →
      PutsInPlace ref k s f := by
  cases ref with
  | slot row column => exact putInSlot_place row column k s
  | cradle bay index =>
    obtain ⟨u, hfilled, hloses, hplace⟩ := putInCradle_spec bay index k s
    exact ⟨u, hfilled, hloses, fun f _ => hplace f⟩

/-! ### The put-in and the return of a task (R159, R160) -/

/-- Two task records with the same fixed fields are the same but for target, state, reason and what waits. -/
theorem task_eq_of_fixed {k k' : Task} (h : k'.fixed = k.fixed) : k' =
    { k with target := k'.target, state := k'.state, reason := k'.reason, waiting := k'.waiting } := by
  obtain ⟨⟩ := k
  obtain ⟨⟩ := k'
  simp_all [Task.fixed]

section
variable {place : Ref} {frame : BookFrame} {s u x : State} {k : Task} {notice : Notice}
  (hk : s.tracker.task = some k) (hw : k.waiting ≠ some .takeOut) (hfilled : Filled place (queueBook frame s) u)
  (hloses : Loses bookingNotices u x) (hn : notice ∈ bookingNotices) (st : TaskState) (reason : Option Reason)
include hk hw hfilled hloses hn

/-- A booking that queues its frame, fills its place and ends the task. -/
theorem enterTerminal_of_filled : let t := enterTerminal st reason notice x
    LinkKeeps (some frame) s t ∧ OthersReleased place s t ∧
      t.tracker.task.map (fun y => { y with target := k.target }) =
        some { k with state := st, reason := reason, waiting := none } ∧
      t.tracker.hook = s.tracker.hook ∧ Raised notice s t ∧ NoOwn t ∧ Keeps lossBlocks s t ∧ RaisesOnly bookingNotices s t ∧
      UnreservedSlotsKept (fun row column => .slot row column = place) s t ∧ AllReleased ofStation .own u t ∧
      RaisesOnly bookingNotices x t ∧ t.cfg = s.cfg := by
  have hend : Loses bookingNotices x (enterTerminal st reason notice x) := loses_enterTerminal hn st reason x
  obtain ⟨hreleased, hraised, htracker⟩ := enterTerminal_spec st reason notice x
  generalize enterTerminal st reason notice x = t at *
  have hall : Loses bookingNotices u t := hloses.trans hend
  have hreleased' : AllReleased ofStation .own u t := .of_freedAlike hloses.freed hreleased
  have htracker' : u.tracker = s.tracker := hfilled.keeps.2 .tracker (by simp)
  obtain ⟨hkeeps, hnotices, hlink⟩ := keeps_of_filled hfilled hall
  obtain ⟨hcfg, hcfg'⟩ := cfg_of_filled hfilled hall
  obtain ⟨hhook, -⟩ := hall.hook (by rw [htracker', hk]; rintro _ ⟨⟩; exact hw)
  have hx : RaisesOnly bookingNotices s x := (keeps_of_filled hfilled hloses).2.1
  have hothers : OthersReleased place (queueBook frame s) t := othersReleased_of_filled hfilled hall hreleased'
  have hunreserved := unreservedSlotsKept_of_filled hfilled hall hreleased'
  refine ⟨?_, hothers, ?_, hhook.trans (by rw [htracker']), raised_before hx hraised,
    noOwn_of_allReleased hreleased', (keeps_queueBook frame s).andThen hkeeps (by simp [lossBlocks]), hnotices,
    hunreserved, hreleased', hend.notices, hcfg.trans hcfg'⟩
  · obtain ⟨c, r, w, hlink⟩ := linkKeeps_iff.1 hlink
    exact linkKeeps_iff.2 ⟨c, r, w, hlink⟩
  · have hfixed : x.tracker.task.map Task.fixed = some k.fixed := by rw [hloses.task, htracker', hk]; rfl
    obtain ⟨k', hk', hfixed⟩ := Option.map_eq_some_iff.1 hfixed
    rw [htracker, hk', task_eq_of_fixed hfixed]
    rfl

end

theorem placedRound_eq (k : Task) (ref : Ref) (s : State) :
    placedRound k ref s = ((ownResvAt s ref).map Reservation.round).getD k.round := by
  unfold placedRound
  cases ownResvAt s ref <;> rfl

/-- R159: the put-in of the running task at its target. -/
theorem putsIn_putIn {k : Task} {ref : Ref} {s : State} (hk : s.tracker.task = some k) (hw : k.waiting ≠ some .takeOut)
    (ht : k.target = some ref) : let t := putIn k s
    PutsIn k ref s t ∧ Keeps lossBlocks s t ∧ RaisesOnly bookingNotices s t ∧
      UnreservedSlotsKept (fun row column => .slot row column = ref) s t := by
  obtain ⟨u, hfilled, hloses, hplace⟩ :=
    putInAt_spec ref k (queueBook (.placed (placedRound k ref s) ref k.coil k.measuredWeight k.width) s)
  obtain ⟨hlink, hothers, htask, hhook, hdone, hnone, hkeeps, hraises, hunreserved, hreleased, hraises', hcfg⟩ :=
    enterTerminal_of_filled hk hw hfilled hloses (notice := .taskDone) (by decide) .done none
  have hput := hplace _ hcfg hreleased hraises'
  simp only [putIn, ht]
  rw [placedRound_eq] at *
  refine ⟨⟨hlink, ?_, hothers, htask, hhook, hdone, hnone⟩, hkeeps, hraises, hunreserved⟩
  cases ref <;> exact hput

/-- R160: the return of the running task to its source. -/
theorem returns_returnIn {k : Task} {s : State} (hk : s.tracker.task = some k) (hw : k.waiting ≠ some .takeOut) :
    let t := returnIn k s
    Returns (ownResvAt s k.source) k s t ∧ Keeps lossBlocks s t ∧ RaisesOnly bookingNotices s t ∧
      UnreservedSlotsKept (fun row column => .slot row column = k.source) s t := by
  obtain ⟨u, hfilled, hloses, hplace⟩ := putInSlot_place k.sourceRow k.sourceColumn k
    (queueBook (.placed (placedRound k k.source s) k.source k.coil k.measuredWeight k.width) s)
  obtain ⟨hlink, hothers, htask, hhook, hreturned, hnone, hkeeps, hraises, hunreserved, hreleased, hraises', hcfg⟩ :=
    enterTerminal_of_filled hk hw hfilled hloses (notice := .cancelled) (by decide) .cancelled (some .returned)
  have hput := hplace _ hcfg hreleased hraises'
  simp only [returnIn]
  rw [placedRound_eq] at *
  exact ⟨⟨hlink, hput, hothers, htask, hhook, hreturned, hnone⟩, hkeeps, hraises, hunreserved⟩

/-! ### Bookings between states alike -/

theorem PutsInSlot.alike {row column : Nat} {held : Option Reservation} {k : Task} {s u t f : State}
    (h : PutsInSlot row column held k u t) (hl : Alike s u) (hr : Alike t f) : PutsInSlot row column held k s f := by
  obtain ⟨hsource, hcontent⟩ := h
  refine ⟨by rw [hr.sourceAt, hsource], ?_⟩
  rw [hl.contentAt] at hcontent
  rw [hr.contentAt]
  split at hcontent
  · exact hcontent
  · exact ⟨hcontent.1, fun hne => hl.raised_before (hr.raised (hcontent.2 hne))⟩

theorem PutsInCradle.alike {bay index : Nat} {k : Task} {s u t f : State} (h : PutsInCradle bay index k u t) (hl : Alike s u)
    (hr : Alike t f) : PutsInCradle bay index k s f := by
  obtain ⟨hconflict, hplaced⟩ := h
  rw [hl.ownResvAt] at hconflict
  rw [hl.bayRecord] at hplaced
  refine ⟨fun hnone => hl.raised_before (hr.raised (hconflict hnone)), fun b c hb hc => ?_⟩
  obtain ⟨b', hb', hplaced⟩ := hplaced b c hb hc
  refine ⟨b', by rw [hr.bayRecord, hb'], ?_⟩
  have hcradle : cradleContent f bay index = cradleContent t bay index := by rw [cradleContent, cradleContent, hr.cradleAt]
  rw [hcradle]
  split at hplaced
  · exact hplaced
  · obtain ⟨hcontent, hA, hsum, hover, hraised⟩ := hplaced
    exact ⟨hcontent, hA, hsum, hover, fun h => hl.raised_before (hr.raised (hraised h))⟩

theorem OthersReleased.alike {place : Ref} {s u t f : State} (h : OthersReleased place u t) (hl : Alike s u) (hr : Alike t f) :
    OthersReleased place s f := by
  obtain ⟨hslots, hcradles, hasked⟩ := h
  refine ⟨fun row column hne => ?_, fun bay index hne => ?_, fun ref hne v hv hround => ?_⟩
  · rw [hr.contentAt, hslots row column hne, hl.contentAt]
  · have h := hcradles bay index hne
    simp only [cradleContent] at h ⊢
    rw [hr.cradleAt, h, hl.cradleAt]
  · exact (hr.releaseAsked_iff ..).2 (hasked ref hne v (by rwa [hl.ownResvAt]) (by rwa [hl.inRound_iff]))

theorem NoOwn.alike {t f : State} (h : NoOwn t) (hr : Alike t f) : NoOwn f := by
  rw [NoOwn, allReservations] at h ⊢
  rwa [hr.map, hr.bay0, hr.bay1]

theorem isSlot_alike {s u : State} (hl : Alike s u) {row column : Nat} : isSlot u row column ↔ isSlot s row column := by
  rw [isSlot, isSlot, hl.slotAt]

theorem PutsIn.alike {k : Task} {ref : Ref} {s u t f : State} (h : PutsIn k ref u t) (hl : Alike s u)
    (hls : u.tracker = s.tracker) (hr : Alike t f) (hrt : f.tracker = t.tracker) : PutsIn k ref s f := by
  obtain ⟨hlink, hplace, hothers, htask, hhook, hdone, hnone⟩ := h
  rw [hl.ownResvAt] at hlink
  refine ⟨hlink.alike hl hr, ?_, hothers.alike hl hr, by rw [hrt, htask], by rw [hrt, hhook, hls],
    hl.raised_before (hr.raised hdone), hnone.alike hr⟩
  cases ref with
  | slot row column => exact fun hslot => hl.ownResvAt ▸ (hplace ((isSlot_alike hl).2 hslot)).alike hl hr
  | cradle bay index => exact hplace.alike hl hr

theorem Returns.alike {held : Option Reservation} {k : Task} {s u t f : State} (h : Returns held k u t) (hl : Alike s u)
    (hls : u.tracker = s.tracker) (hr : Alike t f) (hrt : f.tracker = t.tracker) : Returns held k s f := by
  obtain ⟨hlink, hplace, hothers, htask, hhook, hreturned, hnone⟩ := h
  exact ⟨hlink.alike hl hr, fun hslot => (hplace ((isSlot_alike hl).2 hslot)).alike hl hr, hothers.alike hl hr,
    by rw [hrt, htask], by rw [hrt, hhook, hls], hl.raised_before (hr.raised hreturned), hnone.alike hr⟩

theorem UnreservedSlotsKept.alike {out : Nat → Nat → Prop} {s t f : State} (h : UnreservedSlotsKept out s t)
    (hr : Alike t f) : UnreservedSlotsKept out s f := by
  rw [UnreservedSlotsKept, hr.contentAt, hr.sourceAt]
  exact h

theorem UnreservedSlotsKept.mono {out out' : Nat → Nat → Prop} {s t : State} (h : UnreservedSlotsKept out s t)
    (hout : ∀ row column, out row column → out' row column) : UnreservedSlotsKept out' s t :=
  fun row column hne => h row column (mt (hout row column) hne)

/-! ### The take-out of a task, with all that it keeps -/

/-- The take-out of the running task, the blocks and notices it touches, and the slots it leaves. -/
theorem takeOut_spec {k : Task} {s : State} (hk : s.tracker.task = some k) : let t := takeOut k s
    TakesOut k s t ∧ Keeps lossBlocks s t ∧ RaisesOnly bookingNotices s t ∧
      UnreservedSlotsKept (fun row column => k.source = .slot row column) s t := by
  have htakes := takesOut_takeOut hk
  by_cases hheld : ∃ v c w, ownResvAt s k.source = some v ∧ contentAt s k.sourceRow k.sourceColumn = .reservedOut c w
  · obtain ⟨v, c, w, hv, hc⟩ := hheld
    have hslot : isSlot s k.sourceRow k.sourceColumn := isSlot_of_contentAt (by simp [hc])
    obtain ⟨hkeeps, hraises, -⟩ := takeOutRecords_spec (k := k) v hslot
    obtain ⟨hkeeps', hraises', -⟩ := afterTakeOut_spec k (takeOutRecords k v s)
    rw [takeOut_of_held hv hc] at htakes ⊢
    refine ⟨htakes, hkeeps.andThen hkeeps' (by simp [lossBlocks]) (by simp [lossBlocks]),
      raisesOnly_mono (by decide) (raisesOnly_trans hraises hraises'), fun row column hout _ => ?_⟩
    simp only [TakesOut, hv, hc] at htakes
    obtain ⟨-, -, -, hothers, -⟩ := htakes
    exact hothers row column fun h => hout (by obtain ⟨rfl, rfl⟩ := Prod.mk.inj h; rfl)
  · rw [takeOut_of_lost fun v hv c w hc => hheld ⟨v, c, w, hv, hc⟩] at htakes ⊢
    obtain ⟨hkeeps, hraises, -, -, -, ⟨hreleased, -⟩, -⟩ := sourceLost_spec hk
    exact ⟨htakes, hkeeps, raisesOnly_mono (by decide) hraises, unreservedSlotsKept_of_slotAt fun _ _ _ =>
      slotAt_of_allReleased_of_none (hkeeps.2 .cfg (by simp [lossBlocks])) hreleased⟩

/-! ### TASK_CONFIRM (R156, R157, R159, R169) -/

/-- A refused TASK_CONFIRM is answered and does nothing else. -/
theorem taskConfirm_answers {s : State} {r : Status} (hrun : Running s) (h : taskConfirm s = (s, .err r)) (hr : r ≠ .ok) :
    Answers .taskConfirm (.err r) s := by
  rw [Answers, exec, execTaskConfirm, request_of_answer hrun h hr]

/-- An accepted TASK_CONFIRM settles its body. -/
theorem exec_taskConfirm_of_accepted {s b : State} (hrun : Running s) (h : taskConfirm s = (b, .okWith [])) :
    exec .taskConfirm s = .next (respond (.okWith []) (settle b)) := by
  rw [exec, execTaskConfirm, request_of_acceptance hrun h]

theorem exec_bookingResumed {s : State} (hrun : Running s) :
    exec .bookingResumed s = .next (settle (resumeBooking s)) := by
  rw [exec, execBookingResumed, event_of_running _ hrun]

/-- An accepted request that books keeps the blocks and raises the notices of its body. -/
theorem accepts_of_body {must may : List Notice} {s b : State} (hkeeps : Keeps lossBlocks s b)
    (hnotices : Notices must may s b) : Accepts lossBlocks must may [] s (respond (.okWith []) (settle b)) :=
  accepts_settle hkeeps hnotices (hkeeps.2 .port (by simp [lossBlocks]))

theorem notices_of_raisesOnly {may : List Notice} {s t : State} (h : RaisesOnly may s t) : Notices [] may s t :=
  ⟨by simp, h⟩

theorem keeps_updateTask (f : Task → Task) (s : State) : Keeps [.tracker] s (updateTask f s) := keeps_withTracker ..

theorem unreservedSlotsKept_of_eq {out : Nat → Nat → Prop} {s t : State} (hcfg : t.cfg = s.cfg) (hmap : t.map = s.map) :
    UnreservedSlotsKept out s t :=
  unreservedSlotsKept_of_slotAt fun _ _ _ _ => by rw [slotAt_congr hcfg hmap]

theorem keeps_releaseOwn (ref : Ref) (s : State) : Keeps [.map, .trucks, .link, .claims] s (releaseOwn ref s) := by
  unfold releaseOwn
  split
  · exact keeps_refl ..
  · exact ((keeps_releaseRef ..).andThen (ds := [.map, .trucks, .link, .claims]) (keeps_dropFromRound ..)).andThen
      (keeps_askRelease ..)

/-- R145: a reference whose own reservation has been released holds none, its RELEASE has been asked for, and no other slot
has changed. -/
theorem releaseOwn_spec (ref : Ref) (s : State) : let t := releaseOwn ref s
    ownResvAt t ref = none ∧ (∀ v, ownResvAt s ref = some v → ReleaseAsked v.round ref t) ∧
      ∀ row column, .slot row column ≠ ref → slotAt t row column = slotAt s row column := by
  unfold releaseOwn
  split
  next hnone => exact ⟨hnone, by simp [hnone], fun _ _ _ => rfl⟩
  next v hv =>
    let u := releaseRef Reservation.isOwn .own ref s
    obtain ⟨-, -, -, hasked⟩ := askRelease_spec { round := v.round, refs := [ref] } (dropFromRound ref u)
    have hkeeps : Keeps [.link, .claims] u (askRelease { round := v.round, refs := [ref] } (dropFromRound ref u)) :=
      keeps_trans (keeps_dropFromRound ..) (keeps_askRelease ..)
    have hslots := slotAt_congr (hkeeps.2 .cfg (by simp)) (hkeeps.2 .map (by simp))
    have hbays : bayRecord _ = bayRecord u :=
      bayRecord_congr (hkeeps.2 .trucks (by simp)).1 (hkeeps.2 .trucks (by simp)).2
    refine ⟨?_, ?_, fun row column hne => ?_⟩
    · refine Option.eq_none_iff_forall_ne_some.2 fun w hw => ?_
      obtain ⟨hw, hown⟩ := ownResvAt_eq_some_iff.1 hw
      have hfreed : resvAt u ref = (resvAt s ref).filter fun v => !v.isOwn := resvAt_releaseRef_same ..
      rw [resvAt_congr hslots (cradleAt_congr hbays), hfreed, Option.filter_eq_some_iff] at hw
      simp [hown] at hw
    · intro w hw
      obtain rfl := Option.some.inj (hv.symm.trans hw)
      exact hasked ref (List.mem_singleton_self ref)
    · rw [hslots, slotAt_releaseRef_ne _ _ s hne]

/-- R157: a target that no longer fits the accepted weight is released and lost. -/
theorem acceptWeight_of_misfit {k : Task} {ref : Ref} {s : State} (hk : s.tracker.task = some k) (ht : k.target = some ref)
    (hfit : targetStillFits s ref k.measuredWeight = false) : let b := acceptWeight k s
    b.tracker = { s.tracker with
      task := some { k with weight := some k.measuredWeight, target := none, state := .targetLost } } ∧
    ownResvAt b ref = none ∧ (∀ v, ownResvAt s ref = some v → ReleaseAsked v.round ref b) ∧
    LinkKeeps s.link.boxes.book s b ∧ UnreservedSlotsKept (fun row column => k.target = some (.slot row column)) s b ∧
    Keeps lossBlocks s b ∧ Notices [.targetLost] [] s b := by
  let u := updateTask (fun t => { t with weight := some k.measuredWeight }) s
  let lost (x : State) := updateTask (fun t => { t with target := none, state := .targetLost }) x
  have heq : acceptWeight k s = raise .targetLost (lost (releaseOwn ref u)) := by
    have hfit' : targetStillFits u ref k.measuredWeight = false := hfit
    have hrelease : releaseTarget u = releaseOwn ref u := by simp [releaseTarget, u, updateTask, hk, ht]
    simp only [acceptWeight, ht]
    rw [if_neg (by simpa using hfit'), hrelease]
  obtain ⟨hnone, hasked, hslots⟩ := releaseOwn_spec ref u
  have hkeeps := keeps_releaseOwn ref u
  have htracker : (releaseOwn ref u).tracker = u.tracker := hkeeps.2 .tracker (by simp)
  have hloses : Loses [] u (releaseOwn ref u) := loses_releaseOwn ref u
  have hquiet : RaisesOnly [] s (lost (releaseOwn ref u)) := hloses.notices
  dsimp only
  rw [heq]
  refine ⟨?_, hnone, hasked, hloses.link, unreservedSlotsKept_of_slotAt fun row column hout _ => ?_, ?_, ?_⟩
  · show Tracker.mk ((releaseOwn ref u).tracker.task.map _) (releaseOwn ref u).tracker.hook = _
    rw [htracker]
    simp [u, updateTask, hk]
  · exact hslots row column (by rw [ht] at hout; simpa [eq_comm] using hout)
  · have hfreed : Keeps lossBlocks s (releaseOwn ref u) :=
      (keeps_updateTask _ s).andThen hkeeps (by simp [lossBlocks]) (by simp [lossBlocks])
    have hlost : Keeps [.tracker] (releaseOwn ref u) (raise .targetLost (lost (releaseOwn ref u))) :=
      (keeps_updateTask _ _).andThen (keeps_raise ..)
    exact hfreed.andThen hlost (by simp) (by simp [lossBlocks])
  · exact notices_trans (notices_of_raisesOnly hquiet) (notices_raise .targetLost _)

section
variable {k : Task} {s : State} (hrun : Running s) (hk : s.tracker.task = some k) (hw : k.waiting = none)
include hrun hk hw

/-- R156: a TASK_CONFIRM in LIFT_PENDING makes the take-out, or lets it wait. -/
theorem taskConfirm_of_liftPending (hst : k.state = .liftPending) : ∃ t, exec .taskConfirm s = .next t ∧
    Accepts lossBlocks [] bookingNotices [] s t ∧ UnreservedSlotsKept (fun row column => k.source = .slot row column) s t ∧
    if s.link.boxes.book.isSome then
      t.tracker = { s.tracker with task := some { k with waiting := some .takeOut } } ∧ t.map = s.map
    else TakesOut k s t := by
  have hbody : taskConfirm s = (bookTakeOut k s, .okWith []) := by simp [taskConfirm, hk, hw, hst]
  refine ⟨_, exec_taskConfirm_of_accepted hrun hbody, ?_⟩
  unfold bookTakeOut bookFull
  split
  next =>
    refine ⟨accepts_of_body (keeps_mono (by simp [lossBlocks]) (keeps_updateTask ..))
      (notices_of_raisesOnly (raisesOnly_of_eq rfl)), unreservedSlotsKept_of_eq (by simp) (by simp), ?_, by simp⟩
    rw [respond_tracker, settle_tracker]
    simp [updateTask, hk]
  next =>
    obtain ⟨htakes, hkeeps, hraises, hunreserved⟩ := takeOut_spec hk
    exact ⟨accepts_of_body hkeeps (notices_of_raisesOnly hraises), hunreserved.alike (alike_respond_settle ..),
      htakes.alike (.refl s) rfl (alike_respond_settle ..) (by simp)⟩

/-- R159: a TASK_CONFIRM in PLACE_PENDING makes the put-in, or lets it wait. -/
theorem taskConfirm_of_placePending (hst : k.state = .placePending) : ∃ t, exec .taskConfirm s = .next t ∧
    Accepts lossBlocks [] bookingNotices [] s t ∧ UnreservedSlotsKept (fun row column => k.target = some (.slot row column)) s t ∧
    if s.link.boxes.book.isSome then
      t.tracker = { s.tracker with task := some { k with waiting := some .putIn } } ∧ t.map = s.map
    else match k.target with
      | none => t.tracker = s.tracker ∧ t.map = s.map ∧ t.link = s.link
      | some ref => PutsIn k ref s t := by
  have hbody : taskConfirm s = (bookPutIn k s, .okWith []) := by simp [taskConfirm, hk, hw, hst]
  refine ⟨_, exec_taskConfirm_of_accepted hrun hbody, ?_⟩
  unfold bookPutIn bookFull
  split
  next =>
    refine ⟨accepts_of_body (keeps_mono (by simp [lossBlocks]) (keeps_updateTask ..))
      (notices_of_raisesOnly (raisesOnly_of_eq rfl)), unreservedSlotsKept_of_eq (by simp) (by simp), ?_, by simp⟩
    rw [respond_tracker, settle_tracker]
    simp [updateTask, hk, hst]
  next =>
    cases ht : k.target with
    | none =>
      have hput : putIn k s = s := by simp [putIn, ht]
      rw [hput]
      exact ⟨accepts_of_body (keeps_refl ..) (notices_refl ..), unreservedSlotsKept_of_eq (by simp) (by simp),
        by simp, by simp, by simp⟩
    | some ref =>
      obtain ⟨hputs, hkeeps, hraises, hunreserved⟩ := putsIn_putIn hk (by simp [hw]) ht
      exact ⟨accepts_of_body hkeeps (notices_of_raisesOnly hraises),
        (hunreserved.alike (alike_respond_settle ..)).mono (by simp [eq_comm]),
        hputs.alike (.refl s) rfl (alike_respond_settle ..) (by simp)⟩

/-- R157: a TASK_CONFIRM in VERIFY_HOLD accepts the measured weight. -/
theorem taskConfirm_of_verifyHold (hst : k.state = .verifyHold) : ∃ t, exec .taskConfirm s = .next t ∧
    t.tracker.hook = s.tracker.hook ∧
    match k.target with
    | none => t.tracker.task = some { k with weight := some k.measuredWeight, state := .targetLost } ∧
        Accepts [.tracker] [] [] [] s t
    | some ref =>
      if targetStillFits s ref k.measuredWeight then
        t.tracker.task = some { k with weight := some k.measuredWeight, state := .toTarget } ∧ Accepts [.tracker] [] [] [] s t
      else
        t.tracker.task = some { k with weight := some k.measuredWeight, target := none, state := .targetLost } ∧
        ownResvAt t ref = none ∧ (∀ v, ownResvAt s ref = some v → ReleaseAsked v.round ref t) ∧
        LinkKeeps s.link.boxes.book s t ∧ UnreservedSlotsKept (fun row column => k.target = some (.slot row column)) s t ∧
        Accepts lossBlocks [.targetLost] [] [] s t := by
  have hbody : taskConfirm s = (acceptWeight k s, .okWith []) := by simp [taskConfirm, hk, hw, hst]
  refine ⟨_, exec_taskConfirm_of_accepted hrun hbody, ?_⟩
  rw [respond_tracker, settle_tracker]
  let u := updateTask (fun t => { t with weight := some k.measuredWeight }) s
  have hwritten (f : Task → Task) : Accepts [.tracker] [] [] [] s (respond (.okWith []) (settle (updateTask f u))) :=
    accepts_settle (keeps_trans (keeps_updateTask ..) (keeps_updateTask ..)) (notices_of_eq rfl) rfl
  cases ht : k.target with
  | none =>
    have heq : acceptWeight k s = updateTask (fun t => { t with state := .targetLost }) u := by simp [acceptWeight, ht, u]
    rw [heq]
    exact ⟨rfl, by simp [u, updateTask, hk, ht], hwritten _⟩
  | some ref =>
    dsimp only
    split
    next hfit =>
      have hfit' : targetStillFits u ref k.measuredWeight = true := hfit
      have heq : acceptWeight k s = updateTask (fun t => { t with state := .toTarget }) u := by
        simp only [acceptWeight, ht]
        rw [if_pos hfit']
      rw [heq]
      exact ⟨rfl, by simp [u, updateTask, hk, ht], hwritten _⟩
    next hfit =>
      obtain ⟨htracker, hnone, hasked, hlink, hunreserved, hkeeps, hnotices⟩ :=
        acceptWeight_of_misfit hk ht (by simpa using hfit)
      have halike := alike_respond_settle (.okWith []) (acceptWeight k s)
      rw [ht] at hunreserved
      simp only [htracker]
      exact ⟨trivial, trivial, by rw [halike.ownResvAt, hnone], fun v hv => (halike.releaseAsked_iff ..).2 (hasked v hv),
        hlink.alike (.refl s) halike, hunreserved.alike halike, accepts_of_body hkeeps hnotices⟩

end

/-! ### BOOKING_RESUMED (R169) -/

/-- A body that changes nothing. -/
theorem acts_settle_self (touched : List Block) (may : List Notice) (s : State) : Acts touched [] may s (settle s) :=
  acts_settle (keeps_refl ..) (notices_refl ..)

/-- R169: a BOOKING_RESUMED that finds no booking waiting, or the mailbox full, changes nothing. -/
theorem resumeBooking_of_idle {k : Task} {s : State} (hk : s.tracker.task = some k)
    (h : bookFull s = true ∨ k.waiting = none) : resumeBooking s = s := by
  simp only [resumeBooking, hk]
  by_cases hfull : bookFull s = true
  · rw [if_pos hfull]
  · rw [if_neg hfull, h.resolve_left hfull]

/-- R169: the waiting booking is made once the mailbox is empty. -/
theorem resumeBooking_of_waiting {k : Task} {s : State} {w : Booking} (hk : s.tracker.task = some k)
    (hempty : ¬ s.link.boxes.book.isSome = true) (hw : k.waiting = some w) : resumeBooking s =
      match w with
      | .takeOut => takeOut k s
      | .putIn => putIn k s
      | .returnIn => returnIn k s := by
  simp only [resumeBooking, hk, bookFull, if_neg hempty, hw]
  cases w <;> rfl

/-- R169: what a BOOKING_RESUMED with the mailbox empty makes of each waiting booking. -/
theorem bookingResumed_of_waiting {k : Task} {s : State} {w : Booking} (hrun : Running s) (hk : s.tracker.task = some k)
    (hempty : ¬ s.link.boxes.book.isSome = true) (hw : k.waiting = some w) : ∃ t, exec .bookingResumed s = .next t ∧
    Acts lossBlocks [] bookingNotices s t ∧
    UnreservedSlotsKept (fun row column => k.source = .slot row column ∨ k.target = some (.slot row column)) s t ∧
    match (generalizing := false) w with
    | .takeOut => TakesOut k s t
    | .putIn => match k.target with
      | none => t.tracker = s.tracker ∧ t.map = s.map ∧ t.link = s.link
      | some ref => PutsIn k ref s t
    | .returnIn => Returns (ownResvAt s k.source) k s t := by
  have hacts {b : State} (hkeeps : Keeps lossBlocks s b) (hraises : RaisesOnly bookingNotices s b) :
      Acts lossBlocks [] bookingNotices s (settle b) := acts_settle hkeeps (notices_of_raisesOnly hraises)
  refine ⟨_, exec_bookingResumed hrun, ?_⟩
  rw [resumeBooking_of_waiting hk hempty hw]
  cases w with
  | takeOut =>
    obtain ⟨htakes, hkeeps, hraises, hunreserved⟩ := takeOut_spec hk
    exact ⟨hacts hkeeps hraises, (hunreserved.alike (alike_settle _)).mono fun _ _ => .inl,
      htakes.alike (.refl s) rfl (alike_settle _) (settle_tracker _)⟩
  | putIn =>
    cases ht : k.target with
    | none =>
      have hput : putIn k s = s := by simp [putIn, ht]
      simp only [hput]
      exact ⟨hacts (keeps_refl ..) (raisesOnly_refl ..), unreservedSlotsKept_of_eq (by simp) (by simp), by simp⟩
    | some ref =>
      obtain ⟨hputs, hkeeps, hraises, hunreserved⟩ := putsIn_putIn hk (by simp [hw]) ht
      exact ⟨hacts hkeeps hraises, (hunreserved.alike (alike_settle _)).mono fun _ _ h => .inr (by rw [h]),
        hputs.alike (.refl s) rfl (alike_settle _) (settle_tracker _)⟩
  | returnIn =>
    obtain ⟨hreturns, hkeeps, hraises, hunreserved⟩ := returns_returnIn hk (by simp [hw])
    exact ⟨hacts hkeeps hraises, (hunreserved.alike (alike_settle _)).mono fun _ _ h => .inl h.symm,
      hreturns.alike (.refl s) rfl (alike_settle _) (settle_tracker _)⟩

/-- Settles O46: TASK_CONFIRM by the task state, then BOOKING_RESUMED by what waits. -/
theorem bookingsConfirmedAndResumed : Obligations.BookingsConfirmedAndResumed := by
  intro s hrun
  cases hk : s.tracker.task with
  | none =>
    have hresumed : resumeBooking s = s := by simp [resumeBooking, hk]
    refine ⟨taskConfirm_answers hrun (by simp [taskConfirm, hk]) (by decide), _, exec_bookingResumed hrun, ?_⟩
    rw [hresumed]
    exact acts_settle_self ..
  | some k =>
    refine ⟨?_, ?_⟩
    · split
      next hw =>
        exact taskConfirm_answers hrun (by simp [taskConfirm, hk, hw]) (by decide)
      next hw =>
        replace hw : k.waiting = none := by simpa using hw
        have hrefused (h : taskConfirm s = (s, .err .badState)) : Answers .taskConfirm (.err .badState) s :=
          taskConfirm_answers hrun h (by decide)
        cases hst : k.state with
        | liftPending =>
          obtain ⟨t, hexec, haccepts, hkept, hbooked⟩ := taskConfirm_of_liftPending hrun hk hw hst
          rw [hst] at hbooked
          exact ⟨t, hexec, haccepts, hkept.mono fun _ _ => .inl, hbooked⟩
        | verifyHold =>
          obtain ⟨t, hexec, hhook, hverified⟩ := taskConfirm_of_verifyHold hrun hk hw hst
          refine ⟨t, hexec, hhook, ?_⟩
          cases ht : k.target with
          | none => simpa only [ht] using hverified
          | some ref =>
            simp only [ht] at hverified ⊢
            split
            next hfit => simpa only [if_pos hfit] using hverified
            next hfit =>
              obtain ⟨htask, hnone, hasked, hlink, hkept, haccepts⟩ := by simpa only [if_neg hfit] using hverified
              exact ⟨htask, hnone, hasked, hlink, hkept.mono fun _ _ => .inr, haccepts⟩
        | placePending =>
          obtain ⟨t, hexec, haccepts, hkept, hbooked⟩ := taskConfirm_of_placePending hrun hk hw hst
          rw [hst] at hbooked
          refine ⟨t, hexec, haccepts, hkept.mono fun _ _ => .inr, ?_⟩
          cases ht : k.target <;> simpa only [ht] using hbooked
        | _ => exact hrefused (by simp [taskConfirm, hk, hw, hst])
    · by_cases hfull : s.link.boxes.book.isSome = true
      · refine ⟨_, exec_bookingResumed hrun, ?_⟩
        rw [resumeBooking_of_idle hk (.inl hfull), if_pos hfull]
        exact ⟨acts_settle_self .., unreservedSlotsKept_of_eq (by simp) (by simp), acts_settle_self ..⟩
      · simp only [if_neg hfull]
        cases hw : k.waiting with
        | none =>
          refine ⟨_, exec_bookingResumed hrun, ?_⟩
          rw [resumeBooking_of_idle hk (.inr hw)]
          exact ⟨acts_settle_self .., unreservedSlotsKept_of_eq (by simp) (by simp), acts_settle_self ..⟩
        | some w =>
          obtain ⟨t, hexec, hacts, hkept, hbooked⟩ := bookingResumed_of_waiting hrun hk hfull hw
          refine ⟨t, hexec, hacts, hkept, ?_⟩
          cases w with
          | takeOut => simpa only [hw] using hbooked
          | putIn => cases ht : k.target <;> simpa only [hw, ht] using hbooked
          | returnIn => simpa only [hw] using hbooked

end Sys2Proof.Machine
end

section
/-! PROOFS. What the task tracker makes of a LIFT and of a SET_DOWN (R154, R156, R158 to R164): the blocks each touches, the
round an early lift abandons, and the record a lift leaves. -/

namespace Sys2Proof.Machine

/-! ### What a LIFT and a SET_DOWN touch -/

/-- A step that changes no block but those of a loss and raises no notice but some. -/
def Within (ns : List Notice) (s t : State) : Prop := Keeps lossBlocks s t ∧ RaisesOnly ns s t

section
variable {ns : List Notice} {s t u : State}

theorem Within.refl (s : State) : Within ns s s := ⟨keeps_refl .., raisesOnly_refl ..⟩

theorem Within.trans (h : Within ns s t) (k : Within ns t u) : Within ns s u :=
  ⟨keeps_trans h.1 k.1, raisesOnly_mono (by simp) (raisesOnly_trans h.2 k.2)⟩

theorem Within.mono {ms : List Notice} (h : Within ns s t) (hns : ns ⊆ ms) : Within ms s t :=
  ⟨h.1, raisesOnly_mono (fun _ hn => hns hn) h.2⟩

theorem Loses.within (h : Loses ns s t) : Within ns s t := ⟨h.keeps, h.notices⟩

theorem within_withTracker (x : Tracker) (s : State) : Within ns s (s.withTracker x) :=
  ⟨keeps_mono (by simp [lossBlocks]) (keeps_withTracker x s), raisesOnly_of_eq rfl⟩

theorem within_raise {n : Notice} (hn : n ∈ ns) (s : State) : Within ns s (raise n s) := (loses_raise hn s).within

theorem within_of_filled {place : Ref} {frame : BookFrame} (hfilled : Filled place (queueBook frame s) u)
    (hloses : Loses bookingNotices u t) : Within bookingNotices s t := by
  obtain ⟨hkeeps, hraises, -⟩ := keeps_of_filled hfilled hloses
  exact ⟨(keeps_queueBook frame s).andThen hkeeps (by simp [lossBlocks]), hraises⟩

end

theorem within_putIn (k : Task) (s : State) : Within bookingNotices s (putIn k s) := by
  unfold putIn
  split
  · exact .refl s
  next ref _ =>
    obtain ⟨u, hfilled, hloses, -⟩ :=
      putInAt_spec ref k (queueBook (.placed (placedRound k ref s) ref k.coil k.measuredWeight k.width) s)
    exact within_of_filled hfilled (hloses.trans (loses_enterTerminal (by decide) ..))

theorem within_returnIn (k : Task) (s : State) : Within bookingNotices s (returnIn k s) := by
  obtain ⟨u, hfilled, hloses, -⟩ := putInSlot_place k.sourceRow k.sourceColumn k
    (queueBook (.placed (placedRound k k.source s) k.source k.coil k.measuredWeight k.width) s)
  exact within_of_filled hfilled (hloses.trans (loses_enterTerminal (by decide) ..))

theorem within_startReturn (k : Task) (s : State) : Within bookingNotices s (startReturn k s) := by
  have hfreed : Within bookingNotices s (if k.state = .retargeting then abandonRound s else releaseTarget s) := by
    split
    · exact (loses_abandonRound s).within
    · exact (loses_releaseTarget s).within
  have hbooked (u : State) : Within bookingNotices u (if bookFull u then
      updateTask (fun t => { t with state := .placePending, waiting := some .returnIn }) u else returnIn k u) := by
    split
    · exact within_withTracker ..
    · exact within_returnIn ..
  exact (hfreed.trans (within_withTracker ..)).trans (hbooked _)

theorem within_wrongSetDown (k : Task) (s : State) : Within bookingNotices s (wrongSetDown k s) := by
  unfold wrongSetDown
  refine Loses.within (.trans ?_ (loses_enterTerminal (by decide) ..))
  split
  · exact loses_abandonRound s
  · exact .refl s

theorem within_bookPutIn (k : Task) (s : State) : Within bookingNotices s (bookPutIn k s) := by
  unfold bookPutIn
  split
  · exact within_withTracker ..
  · exact within_putIn ..

theorem within_setDownAtTarget (mode : BookMode) (k : Task) (s : State) :
    Within (.placePending :: bookingNotices) s (setDownAtTarget mode k s) := by
  unfold setDownAtTarget
  split
  · exact (within_bookPutIn k s).mono (List.subset_cons_self ..)
  · exact (within_withTracker _ s).trans (within_raise (by simp) _)

/-- R156, R158, R160, R163, R164: a SET_DOWN, whatever the task state. -/
theorem within_onSetDown (s : State) : Within (.placePending :: bookingNotices) s (onSetDown s) := by
  have hmore {t u : State} (h : Within bookingNotices t u) : Within (.placePending :: bookingNotices) t u :=
    h.mono (List.subset_cons_self ..)
  simp only [onSetDown]
  refine .trans (t := setHook none s) (within_withTracker _ s) ?_
  generalize setHook none s = u
  have hunknown : Within (.placePending :: bookingNotices) u
      (if s.tracker.hook.map Hook.origin = some .unknown then raise .hookUnknown u else u) := by
    split
    · exact within_raise (by decide) u
    · exact .refl u
  have hundone (k : Task) : Within (.placePending :: bookingNotices) u
      (if hookOver u k.source then undoLift u else wrongSetDown k u) := by
    split
    · exact within_withTracker ..
    · exact hmore (within_wrongSetDown ..)
  have hreturned (k : Task) : Within (.placePending :: bookingNotices) u
      (if hookOver u k.source then startReturn k u else wrongSetDown k u) := by
    split
    · exact hmore (within_startReturn ..)
    · exact hmore (within_wrongSetDown ..)
  split
  · exact hunknown
  next k hk =>
    cases hst : k.state with
    | done | cancelled | claimLost | aborted => exact hunknown
    | toSource =>
      dsimp only
      split
      · exact hundone k
      · exact .refl u
    | liftPending => exact hundone k
    | verifyHold | targetLost | retargeting | returning => exact hreturned k
    | toTarget =>
      dsimp only
      split
      · exact within_setDownAtTarget ..
      · exact hreturned k
    | claiming | placePending => exact .refl u

/-! ### The LIFT (R154, R161, R162, R164) -/

/-- The hook record of a lift that no task can explain (R162, R164). -/
def strangeHook (n : Nat) : Hook := { coil := none, weight := n, width := none, origin := .unknown }

theorem liftUnknown_spec (n : Nat) (s : State) : let t := liftUnknown n s
    Keeps [.tracker] s t ∧ Notices [.hookUnknown] [] s t ∧ t.tracker = { s.tracker with hook := some (strangeHook n) } :=
  ⟨(keeps_withTracker ..).andThen (keeps_raise ..), notices_of_eq_trans rfl (notices_raise .hookUnknown (setHook _ s)), rfl⟩

/-- A loss, then the release of every own reservation: nothing that was not of the running round is left unasked. -/
theorem Loses.then_ownReleased {ns : List Notice} {s u t : State} (h : Loses ns s u) (k : OwnReleased u t)
    (hasked : ∀ n ref, ReleaseAsked n ref u → ReleaseAsked n ref t) : OwnReleased s t := by
  obtain ⟨hreleased, hown⟩ := k
  refine ⟨.of_freedAlike h.freed hreleased, fun ref v hv hround => ?_⟩
  obtain hin | hkept | ha := h.own ref v hv
  · exact absurd hin hround
  · exact hown ref v hkept fun hin => hround (h.inRound ref v hin)
  · exact hasked _ ref ha

/-- R162: a wrong lift of the running task, after a loss told to no one. -/
theorem wrongLift_spec {k : Task} {s u : State} (hk : u.tracker.task = some k) (h : Loses [] s u) (reason : Reason) (n : Nat) :
    let t := wrongLift reason n u
    t.tracker = { task := some { k with measured := some n, state := .aborted, reason := some reason, waiting := none }
                  hook := some (strangeHook n) } ∧
      LinkKeeps s.link.boxes.book s t ∧ OwnReleased s t ∧ Keeps lossBlocks s t ∧ Notices [.hookUnknown, .aborted] [] s t := by
  let m := updateTask (fun t => { t with measured := some n }) u
  obtain ⟨hkeeps, hnotices, htracker⟩ := liftUnknown_spec n m
  have hkeeps' : Keeps [.tracker] u (liftUnknown n m) := keeps_trans (keeps_updateTask ..) hkeeps
  have halike : Alike u (liftUnknown n m) := alike_of_keeps hkeeps' hnotices.2
  have hend : Loses [.aborted] (liftUnknown n m) (enterTerminal .aborted (some reason) .aborted (liftUnknown n m)) :=
    loses_enterTerminal (by simp) ..
  obtain ⟨hreleased, haborted, htracker'⟩ := enterTerminal_spec .aborted (some reason) .aborted (liftUnknown n m)
  rw [show wrongLift reason n u = enterTerminal .aborted (some reason) .aborted (liftUnknown n m) from rfl]
  generalize enterTerminal .aborted (some reason) .aborted (liftUnknown n m) = t at *
  have hasked (n' : Nat) (ref : Ref) (ha : ReleaseAsked n' ref u) : ReleaseAsked n' ref t :=
    hend.asked n' ref ((halike.releaseAsked_iff n' ref).2 ha)
  have hlifted : Keeps lossBlocks u (liftUnknown n m) := keeps_mono (by simp [lossBlocks]) hkeeps'
  refine ⟨?_, ?_, h.then_ownReleased ((hend.ownReleased hreleased).alike halike (.refl _)) hasked,
    keeps_trans h.keeps (keeps_trans hlifted hend.keeps), ?_⟩
  · rw [htracker', htracker]
    simp [m, updateTask, hk]
  · exact linkKeeps_trans h.link ((halike.link ▸ hend.link).alike halike (.refl _))
  · have hunknown : Notices [.hookUnknown] [] u (liftUnknown n m) := notices_of_eq_trans rfl hnotices
    have hend' : Notices [.aborted] [] (liftUnknown n m) t := ⟨by simpa using haborted, hend.notices⟩
    simpa using notices_trans (notices_trans (notices_of_raisesOnly h.notices) hunknown) hend'

/-! ### The round of a task that is abandoned (R136, R137) -/

/-- A release of every own reservation where no round runs changes no mailbox but the RELEASE. -/
theorem releaseAllOwn_of_no_round (extra : List ReleaseFrame) {s : State} (h : s.claims.round = none) :
    let t := releaseAllOwn extra s
    t.claims.round = none ∧ ClaimBoxKept s t := by
  have hdrop : dropReassert (releaseWhere Reservation.isOwn .own s) = releaseWhere Reservation.isOwn .own s := by
    simp [dropReassert, h]
  obtain ⟨hlink, hclaims, -⟩ := askReleases_spec ((extra ++ ownReservations s).foldl addRequest [])
    (releaseWhere Reservation.isOwn .own s)
  simp only [releaseAllOwn, hdrop, ClaimBoxKept]
  rw [hlink, hclaims]
  exact ⟨h, rfl, rfl⟩

/-- R136: the CLAIM of a closed round has gone, is withdrawn, or a RELEASE names its references. -/
theorem closeRound_spec (r : Round) (s : State) : let t := closeRound r s
    t.claims.round = none ∧
    match r.stage with
    | .queued => if s.link.sending = some .claim then
        t.link.withdrawal = some { round := r.number, refs := r.entries.map ClaimEntry.ref } else t.link.boxes.claim = none
    | .opened => ∀ x ∈ r.entries, ReleaseAsked r.number x.ref t := by
  obtain ⟨hkeeps, -, hclaims, -⟩ := releaseEntries_spec r.number r.entries (s.withClaims { s.claims with round := none })
  have hlink : (releaseEntries r.number r.entries (s.withClaims { s.claims with round := none })).link = s.link :=
    hkeeps.2 .link (by simp)
  simp only [closeRound_eq, recallClaim]
  generalize releaseEntries r.number r.entries (s.withClaims { s.claims with round := none }) = u at *
  cases r.stage with
  | queued =>
    refine ⟨by rw [withdrawClaim_claims, hclaims]; rfl, ?_⟩
    simp only [withdrawClaim, hlink]
    split
    · rfl
    · rfl
  | opened =>
    obtain ⟨-, hclaims', -, hasked⟩ := askRelease_spec { round := r.number, refs := r.entries.map ClaimEntry.ref } u
    exact ⟨by rw [hclaims', hclaims]; rfl, fun x hx => hasked _ (List.mem_map_of_mem hx)⟩

/-- A closed round, then a step that leaves no own reservation, no mailbox but the RELEASE and no request changed. -/
theorem roundClosed_of_closeRound {r : Round} {s t : State} (hround : t.claims.round = none)
    (hbox : ClaimBoxKept (closeRound r s) t) (hasked : ∀ n ref, ReleaseAsked n ref (closeRound r s) → ReleaseAsked n ref t)
    (hnone : ∀ ref, ownResvAt t ref = none) : RoundClosed r s t := by
  obtain ⟨-, hclosed⟩ := closeRound_spec r s
  refine ⟨hround, fun x _ w hw => by simp [hnone] at hw, ?_⟩
  cases hstage : r.stage with
  | queued =>
    simp only [hstage] at hclosed ⊢
    split
    next h => rw [if_pos h] at hclosed; rw [hbox.2, hclosed]
    next h => rw [if_neg h] at hclosed; rw [hbox.1, hclosed]
  | opened =>
    simp only [hstage] at hclosed ⊢
    exact fun _ x hx => hasked _ _ (hclosed x hx)

theorem RoundClosed.alike {r : Round} {s u t f : State} (h : RoundClosed r u t) (hl : Alike s u) (hr : Alike t f) :
    RoundClosed r s f := by
  obtain ⟨hround, hown, hclosed⟩ := h
  refine ⟨by rw [hr.claims, hround], by rwa [hr.ownResvAt], ?_⟩
  cases hstage : r.stage with
  | queued =>
    simp only [hstage] at hclosed ⊢
    rwa [hr.link, ← hl.link]
  | opened =>
    simp only [hstage] at hclosed ⊢
    exact fun hne x hx => (hr.releaseAsked_iff ..).2 (hclosed hne x hx)

theorem abandonRound_eq {r : Round} {s : State} (hr : s.claims.round = some r) (hpurpose : r.purpose ≠ .reassert) :
    abandonRound s = closeRound r s := by
  simp [abandonRound, hr, hpurpose]

theorem keeps_closeRound (r : Round) (s : State) : Keeps [.map, .trucks, .claims, .link] s (closeRound r s) := by
  rw [closeRound_eq]
  have hended : Keeps [.claims] s (s.withClaims { s.claims with round := none }) :=
    ⟨rfl, fun b hb => by cases b <;> simp_all [SameBlock]⟩
  obtain ⟨hfreed, -⟩ := releaseEntries_spec r.number r.entries (s.withClaims { s.claims with round := none })
  have hrecalled (u : State) : Keeps [.link, .claims] u (recallClaim r u) := by
    unfold recallClaim
    split
    · exact keeps_withdrawClaim ..
    · exact keeps_askRelease ..
  exact (hended.andThen (ds := [.map, .trucks, .claims]) hfreed).andThen (hrecalled _)

theorem abandonRound_tracker (s : State) : (abandonRound s).tracker = s.tracker := by
  unfold abandonRound
  split
  · rfl
  · split
    · rfl
    · exact (keeps_closeRound ..).2 .tracker (by simp)

/-- R162: a wrong lift where no round runs. -/
theorem wrongLift_of_no_round (reason : Reason) (n : Nat) {c : State} (h : c.claims.round = none) :
    let t := wrongLift reason n c
    t.claims.round = none ∧ ClaimBoxKept c t ∧ (∀ n ref, ReleaseAsked n ref c → ReleaseAsked n ref t) ∧
      ∀ ref, ownResvAt t ref = none := by
  let m := raise .aborted (updateTask (fun t => { t with state := .aborted, reason := some reason, waiting := none })
    (liftUnknown n (updateTask (fun t => { t with measured := some n }) c)))
  have hm : m.claims.round = none := h
  obtain ⟨hround, hbox⟩ := releaseAllOwn_of_no_round [] hm
  have hloses : Loses [] m (releaseAllOwn [] m) := loses_releaseAllOwn ..
  exact ⟨hround, hbox, fun n' ref h => hloses.asked n' ref h,
    ownResvAt_of_allReleased (hloses.keeps.2 .cfg (by simp [lossBlocks])) (allReleased_releaseAllOwn [] m)⟩

/-- R137, R162: an early lift abandons the running round and closes it. -/
theorem roundClosed_of_earlyLift {r : Round} {s : State} (n : Nat) (hr : s.claims.round = some r)
    (hpurpose : r.purpose ≠ .reassert) : RoundClosed r s (wrongLift .earlyLift n (abandonRound s)) := by
  rw [abandonRound_eq hr hpurpose]
  obtain ⟨hround, hbox, hasked, hnone⟩ := wrongLift_of_no_round .earlyLift n (closeRound_spec r s).1
  exact roundClosed_of_closeRound hround hbox hasked hnone

/-! ### A lift at the source and a lift back up (R154, R161) -/

/-- The tracker of a lift at the source: the measured weight in the task, an unnamed coil of the task on the hook. -/
def liftedTracker (n : Nat) (k : Task) : Tracker where
  task := some { k with measured := some n }
  hook := some { coil := none, weight := n, width := none, origin := .task }

/-- The tracker of a lift back up from the place where the task has set down. -/
def liftedBackTracker (k : Task) : Tracker where
  task := some { k with state := if k.waiting = some .returnIn then .returning else .toTarget, waiting := none }
  hook := some { coil := some k.coil, weight := k.measuredWeight, width := k.width, origin := .task }

@[simp] theorem withTracker_withTracker (x y : Tracker) (s : State) : (s.withTracker x).withTracker y = s.withTracker y := rfl

section
variable {k : Task} {s : State} (hk : s.tracker.task = some k) (n : Nat)
include hk

theorem liftAtSource_manual : liftAtSource .manual n s =
    raise .liftPending (s.withTracker
      { liftedTracker n k with task := some { k with measured := some n, state := .liftPending } }) := by
  simp [liftAtSource, updateTask, setHook, hk, liftedTracker]

theorem liftAtSource_auto : liftAtSource .auto n s =
    bookTakeOut { k with measured := some n } (s.withTracker (liftedTracker n k)) := by
  simp [liftAtSource, updateTask, setHook, hk, liftedTracker]

omit n in
theorem liftBack_eq : liftBack k s = s.withTracker (liftedBackTracker k) := by
  simp [liftBack, updateTask, setHook, hk, liftedBackTracker]

/-! ### A LIFT by the task state -/

theorem onLift_of_toSource (hst : k.state = .toSource) : onLift n s =
    if hookOver s k.source then liftAtSource s.cfg.bookMode n s else wrongLift .wrongLift n s := by
  simp only [onLift, hk, hst]

theorem onLift_of_placePending (hst : k.state = .placePending) : onLift n s =
    if hookOverSome s (pendingPlace k) then liftBack k s else wrongLift .wrongLift n s := by
  simp only [onLift, hk, hst]

theorem onLift_of_claiming (hst : k.state = .claiming) : onLift n s = wrongLift .earlyLift n (abandonRound s) := by
  simp only [onLift, hk, hst]

theorem within_liftAtSource (mode : BookMode) : Within (.liftPending :: bookingNotices) s (liftAtSource mode n s) := by
  cases mode with
  | manual =>
    rw [liftAtSource_manual hk]
    exact (within_withTracker ..).trans (within_raise (by simp) _)
  | auto =>
    rw [liftAtSource_auto hk, bookTakeOut]
    split
    · exact (within_withTracker ..).trans (within_withTracker ..)
    · obtain ⟨-, hkeeps, hraises, -⟩ := takeOut_spec (k := { k with measured := some n }) (s := s.withTracker (liftedTracker n k)) rfl
      exact (within_withTracker ..).trans (Within.mono ⟨hkeeps, hraises⟩ (List.subset_cons_self ..))

theorem within_wrongLift {u : State} (reason : Reason) (h : Loses [] s u) (hu : u.tracker = s.tracker) :
    Within (.liftPending :: bookingNotices) s (wrongLift reason n u) := by
  obtain ⟨-, -, -, hkeeps, hnotices⟩ := wrongLift_spec (hu ▸ hk) h reason n
  exact ⟨hkeeps, raisesOnly_mono (by decide) hnotices.2⟩

end

/-- R154, R161, R162, R164: a LIFT, whatever the task state. -/
theorem within_onLift (n : Nat) (s : State) : Within (.liftPending :: bookingNotices) s (onLift n s) := by
  have hunknown : Within (.liftPending :: bookingNotices) s (liftUnknown n s) :=
    (within_withTracker _ s).trans (within_raise (by decide) (setHook _ s))
  cases hk : s.tracker.task with
  | none => simpa only [onLift, hk] using hunknown
  | some k =>
    cases hst : k.state with
    | done | cancelled | claimLost | aborted => simpa only [onLift, hk, hst] using hunknown
    | claiming =>
      rw [onLift_of_claiming hk n hst]
      exact within_wrongLift hk n _ (loses_abandonRound s) (abandonRound_tracker s)
    | toSource =>
      rw [onLift_of_toSource hk n hst]
      split
      · exact within_liftAtSource hk n _
      · exact within_wrongLift hk n _ (.refl s) rfl
    | placePending =>
      rw [onLift_of_placePending hk n hst]
      split
      · rw [liftBack_eq hk]
        exact within_withTracker ..
      · exact within_wrongLift hk n _ (.refl s) rfl
    | liftPending | verifyHold | toTarget | targetLost | retargeting | returning =>
      simpa only [onLift, hk, hst] using Within.refl s

end Sys2Proof.Machine
end

section
/-! PROOFS. The weighing unit (R16 to R34): channels, runs, the window of nets, a cycle before and after its event, and the
claims about WEIGHING_CYCLE and ZERO_SET. -/

namespace Sys2Proof.Machine

/-! ### Channels and runs (R17 to R20, R28 to R30) -/

/-- R18: the fine window by the place of the coarse value in its step of 1,024. -/
theorem windowBase_eq (w : Nat) : windowBase w =
    if w % 1024 < 512 then w / 1024 - 1 else if w / 1024 = 15 then 14 else w / 1024 := by
  have hrest : w - w / 1024 * 1024 = w % 1024 := by omega
  simp only [windowBase, hrest]

/-- R30: the fault state that a coarse code leaves a channel in. -/
def faultAfter (rail : Bool) (c : Channel) : Bool :=
  if c.fault then rail || decide (c.clearRun + 1 < 5) else rail && decide (5 ≤ c.railRun + 1)

/-- R30: the runs and the fault state, field by field. -/
theorem faultStep_eq (code : Nat) (c : Channel) : faultStep code c =
    { c with
      railRun := if c.fault then c.railRun else if onRail code && decide (c.railRun + 1 < 5) then c.railRun + 1 else 0
      clearRun := if c.fault then (if onRail code || decide (5 ≤ c.clearRun + 1) then 0 else c.clearRun + 1)
        else if faultAfter (onRail code) c then 0 else c.clearRun
      fault := faultAfter (onRail code) c } := by
  obtain ⟨input, coarse, railRun, clearRun, value, weight, fault⟩ := c
  simp only [faultStep, faultAfter]
  cases fault with
  | false =>
    cases onRail code with
    | false => simp
    | true =>
      by_cases h : 5 ≤ railRun + 1
      · have hnot : ¬ railRun + 1 < 5 := by omega
        simp [h, hnot]
      · have hlt : railRun + 1 < 5 := by omega
        simp [h, hlt]
  | true =>
    cases onRail code with
    | true => simp
    | false =>
      by_cases h : 5 ≤ clearRun + 1
      · have hnot : ¬ clearRun + 1 < 5 := by omega
        simp [h, hnot]
      · have hlt : clearRun + 1 < 5 := by omega
        simp [h, hlt]

/-- R30: a channel enters CHANNEL_FAULT where the cycle leaves it faulted and it was not. -/
theorem entersFault_eq (code : Nat) (c : Channel) : entersFault code c = (faultAfter (onRail code) c && !c.fault) := by
  cases h : c.fault <;> simp [entersFault, faultAfter, h]

/-- R28, R29: the judgement of a condition, as the statement writes it. -/
theorem Condition.judge_eq (setAt clearAt : Nat) (sets clears : Bool) (c : Condition) : c.judge setAt clearAt sets clears =
    if c.set then
      if clears && decide (clearAt ≤ c.clearRun + 1) then { set := false, setRun := 0, clearRun := 0 }
      else { set := true, setRun := c.setRun, clearRun := if clears then c.clearRun + 1 else 0 }
    else if sets && decide (setAt ≤ c.setRun + 1) then { set := true, setRun := 0, clearRun := 0 }
    else { set := false, setRun := if sets then c.setRun + 1 else 0, clearRun := c.clearRun } := by
  obtain ⟨set, setRun, clearRun⟩ := c
  simp only [Condition.judge]
  cases set with
  | true =>
    cases clears with
    | false => simp
    | true => by_cases h : clearAt ≤ clearRun + 1 <;> simp [h]
  | false =>
    cases sets with
    | false => simp
    | true => by_cases h : setAt ≤ setRun + 1 <;> simp [h]

/-! ### The window of nets (R23, R24) -/

/-- R23: the spread of a window is its largest difference. -/
theorem spread_le_iff {band : Nat} (w : List Int) : spread w ≤ band ↔ ∀ x ∈ w, ∀ y ∈ w, x - y ≤ band := by
  cases w with
  | nil => simp [spread]
  | cons n ns =>
    obtain ⟨hmax, hle⟩ := List.max?_eq_some_iff.1 (List.max?_cons' (x := n) (xs := ns))
    obtain ⟨hmin, hge⟩ := List.min?_eq_some_iff.1 (List.min?_cons' (x := n) (xs := ns))
    constructor
    · intro h x hx y hy
      have hx' := hle x hx
      have hy' := hge y hy
      simp only [spread] at h
      omega
    · exact fun h => h _ hmax _ hmin

theorem windowStable_iff {band : Nat} {w : List Int} :
    windowStable band w ↔ w.length = 8 ∧ ∀ x ∈ w, ∀ y ∈ w, x - y ≤ band := by
  simp [windowStable, spread_le_iff]

/-- R23: the window after a cycle, by its net. -/
def windowAfter (net : Option Int) (window : List Int) : List Int :=
  match net with
  | none => window
  | some n => if 8 < (window ++ [n]).length then (window ++ [n]).tail else window ++ [n]

/-- R23, R24: the window, the stable net and the last stable net that a cycle leaves. -/
theorem judgeWindow_spec (band : Nat) (w : WeighingUnit) : let v := judgeWindow band w
    v = { w with window := v.window, stableNet := v.stableNet, lastStable := v.lastStable } ∧
      v.window = windowAfter w.net w.window ∧
      v.stableNet = (if w.net.isSome ∧ v.window.length = 8 ∧ ∀ x ∈ v.window, ∀ y ∈ v.window, x - y ≤ band then
        some ((v.window.sum + 4) / 8) else none) ∧
      v.lastStable = v.stableNet.or w.lastStable := by
  obtain ⟨a, b, gross, net, window, stableNet, lastStable, load, overload, slack, cycleElapsed⟩ := w
  cases net with
  | none => simp [judgeWindow, windowAfter]
  | some n =>
    have hwindow : appendNet n window = windowAfter (some n) window := rfl
    simp only [judgeWindow, hwindow]
    by_cases h : windowStable band (windowAfter (some n) window)
    · simp only [if_pos h]
      exact ⟨trivial, trivial, (if_pos ⟨rfl, windowStable_iff.1 h⟩).symm, rfl⟩
    · simp only [if_neg h]
      exact ⟨trivial, trivial, (if_neg fun ⟨_, hiff⟩ => h (windowStable_iff.2 hiff)).symm, rfl⟩

/-! ### The weighing cycle in its parts (R16, R34) -/

/-- R16, R21 to R24: what a cycle measures, its load state and conditions still to be judged. -/
theorem weighStep_spec (c : Cfg) (coarseA fineA coarseB fineB : Int) (w : WeighingUnit) :
    let v := weighStep c coarseA fineA coarseB fineB w
    v.a = convertChannel c.fsA coarseA fineA w.a ∧ v.b = convertChannel c.fsB coarseB fineB w.b ∧
      v.gross = v.a.weight + v.b.weight ∧
      v.net = (if v.a.fault || v.b.fault then none else some ((v.gross : Int) - c.tare)) ∧
      v.window = windowAfter v.net
        (if entersFault (coarseCode coarseA) w.a || entersFault (coarseCode coarseB) w.b then [] else w.window) ∧
      v.stableNet = (if v.net.isSome ∧ v.window.length = 8 ∧ ∀ x ∈ v.window, ∀ y ∈ v.window, x - y ≤ c.stabilityBand then
        some ((v.window.sum + 4) / 8) else none) ∧
      v.lastStable = v.stableNet.or w.lastStable ∧ v.cycleElapsed = 0 ∧
      v.load = w.load ∧ v.overload = w.overload ∧ v.slack = w.slack := by
  let converted : WeighingUnit := { w with
    a := convertChannel c.fsA coarseA fineA w.a, b := convertChannel c.fsB coarseB fineB w.b, cycleElapsed := 0 }
  let entered := entersFault (coarseCode coarseA) w.a || entersFault (coarseCode coarseB) w.b
  let formed := formNet c.tare (if entered then converted.emptyWindow else converted)
  have hformed : formed = { converted with
      gross := converted.a.weight + converted.b.weight
      net := if converted.a.fault || converted.b.fault then none
        else some (((converted.a.weight + converted.b.weight : Nat) : Int) - c.tare)
      window := if entered then [] else w.window
      stableNet := if entered then none else w.stableNet } := by
    simp only [formed]
    cases entered <;> rfl
  obtain ⟨hrest, hwindow, hstable, hlast⟩ := judgeWindow_spec c.stabilityBand formed
  have hstep : weighStep c coarseA fineA coarseB fineB w = judgeWindow c.stabilityBand formed := rfl
  dsimp only
  rw [hstep]
  generalize judgeWindow c.stabilityBand formed = v at *
  obtain ⟨a, b, gross, net, window, stableNet, lastStable, load, overload, slack, cycleElapsed⟩ := v
  rw [hformed] at hrest hwindow hstable hlast
  simp only [WeighingUnit.mk.injEq] at hrest hwindow hstable hlast ⊢
  obtain ⟨rfl, rfl, rfl, rfl, -, -, -, rfl, rfl, rfl, rfl⟩ := hrest
  exact ⟨rfl, rfl, rfl, rfl, hwindow, hstable, hlast, rfl, rfl, rfl, rfl⟩

/-- A cycle before its event is handed to the task tracker: the weighing unit and the notices of its conditions. -/
def cycleMeasured (coarseA fineA coarseB fineB : Int) (s : State) : State :=
  let after := judgeLoad s.cfg (weighStep s.cfg coarseA fineA coarseB fineB s.weigh)
  raiseIf (!s.weigh.slack.set && after.slack.set) .slack
    (raiseIf (!s.weigh.overload.set && after.overload.set) .overload
      (raiseIf (entersFault (coarseCode coarseB) s.weigh.b) .channelFault
        (raiseIf (entersFault (coarseCode coarseA) s.weigh.a) .channelFault (s.withWeigh after))))

theorem weighingCycle_eq (coarseA fineA coarseB fineB : Int) (s : State) : weighingCycle coarseA fineA coarseB fineB s =
    handLoadEvent
      (loadEvent s.cfg.liftThreshold s.cfg.releaseThreshold (weighStep s.cfg coarseA fineA coarseB fineB s.weigh))
      (cycleMeasured coarseA fineA coarseB fineB s) := rfl

theorem keeps_raiseIf (b : Bool) (n : Notice) (s : State) : Keeps [] s (raiseIf b n s) := by
  cases b
  · exact keeps_refl ..
  · exact keeps_raise ..

theorem notices_raiseIf (b : Bool) (n : Notice) (s : State) : Notices (if b then [n] else []) [] s (raiseIf b n s) := by
  cases b
  · exact notices_refl ..
  · exact notices_raise ..

theorem keeps_withWeigh (w : WeighingUnit) (s : State) : Keeps [.weigh] s (s.withWeigh w) :=
  ⟨rfl, fun b hb => by cases b <;> simp_all [SameBlock]⟩

/-- R28 to R30: the notices of a cycle, by the weighing unit before and after it. -/
def cycleNotices (w v : WeighingUnit) : List Notice :=
  (if (v.a.fault && !w.a.fault) || (v.b.fault && !w.b.fault) then [.channelFault] else []) ++
  (if v.overload.set && !w.overload.set then [.overload] else []) ++
  (if v.slack.set && !w.slack.set then [.slack] else [])

theorem cycleNotices_subset (w v : WeighingUnit) : ∀ n ∈ cycleNotices w v, n ∈ [Notice.channelFault, .overload, .slack] := by
  intro n hn
  simp only [cycleNotices, List.mem_append, List.mem_ite_nil_right, List.mem_singleton] at hn
  simp only [List.mem_cons, List.not_mem_nil, or_false]
  tauto

theorem convertChannel_fault (fs : Nat) (coarseIn fineIn : Int) (c : Channel) :
    (convertChannel fs coarseIn fineIn c).fault = faultAfter (onRail (coarseCode coarseIn)) c := by
  simp [convertChannel, faultStep_eq]

/-- A cycle before its event changes the weighing unit alone and raises the notices of what it enters. -/
theorem cycleMeasured_spec (coarseA fineA coarseB fineB : Int) (s : State) :
    let u := cycleMeasured coarseA fineA coarseB fineB s
    Keeps [.weigh] s u ∧ Notices (cycleNotices s.weigh u.weigh) [] s u ∧
      u.weigh = judgeLoad s.cfg (weighStep s.cfg coarseA fineA coarseB fineB s.weigh) := by
  let after := judgeLoad s.cfg (weighStep s.cfg coarseA fineA coarseB fineB s.weigh)
  obtain ⟨ha, hb, -⟩ := weighStep_spec s.cfg coarseA fineA coarseB fineB s.weigh
  have hfaultA : entersFault (coarseCode coarseA) s.weigh.a = (after.a.fault && !s.weigh.a.fault) := by
    rw [entersFault_eq, ← convertChannel_fault s.cfg.fsA coarseA fineA, ← ha]; rfl
  have hfaultB : entersFault (coarseCode coarseB) s.weigh.b = (after.b.fault && !s.weigh.b.fault) := by
    rw [entersFault_eq, ← convertChannel_fault s.cfg.fsB coarseB fineB, ← hb]; rfl
  let faultedA := raiseIf (entersFault (coarseCode coarseA) s.weigh.a) .channelFault (s.withWeigh after)
  let faulted := raiseIf (entersFault (coarseCode coarseB) s.weigh.b) .channelFault faultedA
  let loaded := raiseIf (!s.weigh.overload.set && after.overload.set) .overload faulted
  let u := raiseIf (!s.weigh.slack.set && after.slack.set) .slack loaded
  have hraised : Keeps [] (s.withWeigh after) u :=
    keeps_trans (keeps_trans (keeps_trans (keeps_raiseIf ..) (keeps_raiseIf ..)) (keeps_raiseIf ..)) (keeps_raiseIf ..)
  have hweigh : u.weigh = after := hraised.2 .weigh (by simp)
  have hfault := notices_or (u := faulted) (notices_raiseIf _ _ (s.withWeigh after)) (notices_raiseIf _ _ faultedA)
  have hloaded := notices_trans (u := loaded) hfault (notices_raiseIf _ _ faulted)
  have hnotices := notices_trans (u := u) hloaded (notices_raiseIf _ _ loaded)
  refine ⟨(keeps_withWeigh after s).andThen hraised, ?_, hweigh⟩
  show Notices (cycleNotices s.weigh u.weigh) [] s u
  rw [hweigh, cycleNotices, ← hfaultA, ← hfaultB, Bool.and_comm after.overload.set, Bool.and_comm after.slack.set]
  exact notices_of_eq_trans rfl hnotices

/-- The notices that a handed event may raise. -/
def eventNotices : Option LoadEvent → List Notice
  | none => []
  | some (.lift _) => .liftPending :: bookingNotices
  | some .setDown => .placePending :: bookingNotices

/-- R34: the event of a cycle touches the blocks of a loss, and nothing where there is none. -/
theorem handLoadEvent_spec (e : Option LoadEvent) (s : State) : let t := handLoadEvent e s
    Keeps (if e.isSome then lossBlocks else []) s t ∧ RaisesOnly (eventNotices e) s t := by
  cases e with
  | none => exact ⟨keeps_refl .., raisesOnly_refl ..⟩
  | some e =>
    cases e with
    | lift n => exact within_onLift n.toNat s
    | setDown => exact within_onSetDown s

theorem exec_weighingCycle {s : State} (hrun : Running s) (coarseA fineA coarseB fineB : Int) :
    exec (.weighingCycle coarseA fineA coarseB fineB) s = .next (settle (weighingCycle coarseA fineA coarseB fineB s)) := by
  rw [← event_of_running _ hrun]; rfl

/-- R16: the weighing unit that a cycle leaves. -/
theorem weighingCycle_weigh (coarseA fineA coarseB fineB : Int) (s : State) :
    (settle (weighingCycle coarseA fineA coarseB fineB s)).weigh =
      judgeLoad s.cfg (weighStep s.cfg coarseA fineA coarseB fineB s.weigh) := by
  obtain ⟨-, -, hweigh⟩ := cycleMeasured_spec coarseA fineA coarseB fineB s
  obtain ⟨hkeeps, -⟩ := handLoadEvent_spec
    (loadEvent s.cfg.liftThreshold s.cfg.releaseThreshold (weighStep s.cfg coarseA fineA coarseB fineB s.weigh))
    (cycleMeasured coarseA fineA coarseB fineB s)
  rw [settle_weigh, weighingCycle_eq, ← hweigh]
  exact hkeeps.2 .weigh (by split <;> simp [lossBlocks])

/-! ### What a weighing cycle measures and judges -/

/-- R16 to R20, R30: one channel, as the statement writes it. -/
theorem convertChannel_eq (fs : Nat) (coarseIn fineIn : Int) (c : Channel) :
    let code := coarseCode coarseIn
    let middle := code * 16 + 8
    let base := if middle % 1024 < 512 then middle / 1024 - 1 else if middle / 1024 = 15 then 14 else middle / 1024
    let fine := (max 0 (min 1023 ((fineIn - base * 1024) / 2))).toNat
    let value := if fine = 0 ∨ fine = 1023 then middle else base * 1024 + 2 * fine
    let rail := code == 0 || code == 1023
    convertChannel fs coarseIn fineIn c =
      { input := fineIn
        coarse := code
        railRun := if c.fault then c.railRun else if rail && decide (c.railRun + 1 < 5) then c.railRun + 1 else 0
        clearRun := if c.fault then (if rail || decide (5 ≤ c.clearRun + 1) then 0 else c.clearRun + 1)
          else if faultAfter rail c then 0 else c.clearRun
        value := value
        weight := (value * fs + 8192) / 16384
        fault := faultAfter rail c } := by
  simp only [convertChannel, faultStep_eq, channelValue, windowBase_eq]
  rfl

/-- Settles O17: the measurements of a weighing cycle are those of its step. -/
theorem weighingCycleMeasures : Obligations.WeighingCycleMeasures := by
  intro coarseA fineA coarseB fineB s hrun
  obtain ⟨ha, hb, hgross, hnet, hwindow, hstable, hlast, helapsed, -⟩ :=
    weighStep_spec s.cfg coarseA fineA coarseB fineB s.weigh
  refine ⟨_, exec_weighingCycle hrun .., ?_⟩
  rw [weighingCycle_weigh]
  rw [entersFault_eq, entersFault_eq] at hwindow
  exact ⟨ha.trans (convertChannel_eq ..), hb.trans (convertChannel_eq ..), hgross, hnet, hwindow, hstable, hlast, helapsed⟩

/-- R25: the stable net of a cycle makes a LIFT. -/
def makesLift (lift : Nat) (stableNet : Option Int) (load : LoadState) : Bool :=
  match stableNet with
  | none => false
  | some n => load == .unloaded && decide ((lift : Int) ≤ n)

/-- R26: the stable net of a cycle makes a SET_DOWN. -/
def makesSetDown (release : Nat) (stableNet : Option Int) (load : LoadState) : Bool :=
  match stableNet with
  | none => false
  | some n => load == .loaded && decide (n ≤ (release : Int))

/-- R25 to R27: the event of a cycle, by its stable net and the load state. -/
theorem loadEvent_spec (lift release : Nat) (w : WeighingUnit) :
    let e := loadEvent lift release w
    let lifted := makesLift lift w.stableNet w.load
    let down := makesSetDown release w.stableNet w.load
    loadAfter e w.load = (if lifted then .loaded else if down then .unloaded else w.load) ∧ e.isSome = (lifted || down) ∧
      eventNotices e = (if lifted then .liftPending :: bookingNotices
        else if down then .placePending :: bookingNotices else []) := by
  simp only [loadEvent]
  cases w.stableNet with
  | none => exact ⟨rfl, rfl, rfl⟩
  | some n =>
    cases w.load with
    | unloaded => by_cases h : (lift : Int) ≤ n <;> simp [makesLift, makesSetDown, h, loadAfter, eventNotices]
    | loaded => by_cases h : n ≤ (release : Int) <;> simp [makesLift, makesSetDown, h, loadAfter, eventNotices]

/-- What a cycle touches and raises, by its event. -/
theorem acts_weighingCycle (coarseA fineA coarseB fineB : Int) (s : State) :
    let v := weighStep s.cfg coarseA fineA coarseB fineB s.weigh
    let e := loadEvent s.cfg.liftThreshold s.cfg.releaseThreshold v
    Acts (.weigh :: if e.isSome then lossBlocks else []) (cycleNotices s.weigh (judgeLoad s.cfg v)) (eventNotices e) s
      (settle (weighingCycle coarseA fineA coarseB fineB s)) := by
  obtain ⟨hkeeps, hnotices, hweigh⟩ := cycleMeasured_spec coarseA fineA coarseB fineB s
  obtain ⟨hkeeps', hraises⟩ := handLoadEvent_spec
    (loadEvent s.cfg.liftThreshold s.cfg.releaseThreshold (weighStep s.cfg coarseA fineA coarseB fineB s.weigh))
    (cycleMeasured coarseA fineA coarseB fineB s)
  rw [hweigh] at hnotices
  rw [weighingCycle_eq]
  exact acts_settle (hkeeps.andThen hkeeps' (by simp) (fun b hb => List.mem_cons_of_mem _ hb))
    (by simpa using notices_trans hnotices (notices_of_raisesOnly hraises))

/-- Settles O18: the judgement of a weighing cycle, then what its event touches. -/
theorem weighingCycleJudges : Obligations.WeighingCycleJudges := by
  intro coarseA fineA coarseB fineB s hrun
  obtain ⟨-, -, -, -, -, -, -, -, hload, hoverload, hslack⟩ := weighStep_spec s.cfg coarseA fineA coarseB fineB s.weigh
  obtain ⟨hloadAfter, hsome, hmay⟩ := loadEvent_spec s.cfg.liftThreshold s.cfg.releaseThreshold
    (weighStep s.cfg coarseA fineA coarseB fineB s.weigh)
  have hacts := acts_weighingCycle coarseA fineA coarseB fineB s
  refine ⟨_, exec_weighingCycle hrun .., ?_⟩
  rw [weighingCycle_weigh]
  simp only [hsome, hmay] at hacts
  generalize weighStep s.cfg coarseA fineA coarseB fineB s.weigh = v at *
  rw [hload] at hloadAfter hacts
  refine ⟨?_, ?_, ?_, hacts⟩
  · exact (congrArg (loadAfter _) hload).trans hloadAfter
  · simp only [← Condition.judge_eq, ← hoverload]
    rfl
  · simp only [← Condition.judge_eq, ← hslack]
    rfl

/-! ### ZERO_SET (R32) -/

/-- Settles O21: ZERO_SET by the load state and the stable net. -/
theorem zeroSetTakesStableGross : Obligations.ZeroSetTakesStableGross := by
  intro s hrun
  have hrefused (h : zeroSet s = (s, .err .notStable)) : Answers .zeroSet (.err .notStable) s :=
    congrArg Host.Outcome.next (request_of_answer hrun h (by decide))
  split
  next n hload hstable =>
    let tare := (clampInt 0 1000 (n + s.cfg.tare)).toNat
    let t := (s.withWeigh (s.weigh.moveNets ((s.cfg.tare : Int) - tare))).withCfg { s.cfg with tare := tare }
    have hbody : zeroSet s = (t, .okWith (be 2 tare)) := by simp only [zeroSet, hload, hstable]; rfl
    have hkeeps : Keeps [.weigh, .cfg] s t := ⟨rfl, fun b hb => by cases b <;> simp_all [SameBlock, t]⟩
    refine ⟨_, congrArg Host.Outcome.next (request_of_acceptance hrun hbody), ?_, ?_,
      accepts_settle hkeeps (notices_of_eq rfl) rfl⟩
    · exact (respond_cfg ..).trans (settle_cfg t)
    · rw [respond_weigh, settle_weigh]
      simp only [t, State.withCfg, State.withWeigh, WeighingUnit.moveNets, hstable]
      rfl
  next h =>
    apply hrefused
    unfold zeroSet
    split
    next n hload hstable => exact absurd hstable (h n hload)
    · rfl

/-! ### A LIFT handed to the task tracker (R33, R154, R155, R161, R162, R164) -/

/-- A cycle that makes a load state LOADED has a LIFT with its stable net. -/
theorem exec_of_lifted {coarseA fineA coarseB fineB : Int} {s t : State} (hrun : Running s)
    (hunloaded : s.weigh.load = .unloaded) (hexec : exec (.weighingCycle coarseA fineA coarseB fineB) s = .next t)
    (hloaded : t.weigh.load = .loaded) :
    t = settle (onLift (t.weigh.stableNet.getD 0).toNat (cycleMeasured coarseA fineA coarseB fineB s)) := by
  obtain ⟨-, -, -, -, -, -, -, -, hload, -⟩ := weighStep_spec s.cfg coarseA fineA coarseB fineB s.weigh
  rw [exec_weighingCycle hrun] at hexec
  obtain rfl := Host.Outcome.next.inj hexec
  rw [weighingCycle_weigh] at hloaded ⊢
  rw [weighingCycle_eq]
  generalize weighStep s.cfg coarseA fineA coarseB fineB s.weigh = v at *
  rw [hunloaded] at hload
  have hevent : loadAfter (loadEvent s.cfg.liftThreshold s.cfg.releaseThreshold v) v.load = .loaded := hloaded
  show _ = settle (onLift (v.stableNet.getD 0).toNat _)
  simp only [loadEvent, hload] at hevent ⊢
  cases hstable : v.stableNet with
  | none => simp [hstable, loadAfter] at hevent
  | some n =>
    simp only [hstable] at hevent ⊢
    split at hevent
    next h => rw [if_pos h]; rfl
    next h => exact absurd hevent (by simp [loadAfter])

/-- The hook point and the windows are read from the position unit, the configuration and the bays. -/
theorem hookOver_congr {s t : State} (h : Alike s t) (hpos : t.pos = s.pos) : hookOver t = hookOver s := by
  funext ref
  cases ref with
  | slot => simp only [hookOver, hookPoint, hpos, h.cfg]
  | cradle =>
    unfold hookOver inCradleWindow hookPoint
    rw [hpos, h.cfg, h.bayRecord]

/-- The notices a cycle may raise besides those of its event (R28 to R30). -/
def measureNotices : List Notice := [.channelFault, .overload, .slack]

/-- What a cycle leaves before its event, as far as the task tracker reads it. -/
structure Measured (s u : State) : Prop where
  keeps : Keeps [.weigh] s u
  raises : RaisesOnly measureNotices s u

theorem measured_cycleMeasured (coarseA fineA coarseB fineB : Int) (s : State) :
    Measured s (cycleMeasured coarseA fineA coarseB fineB s) := by
  obtain ⟨hkeeps, ⟨-, hraises⟩, -⟩ := cycleMeasured_spec coarseA fineA coarseB fineB s
  exact ⟨hkeeps, raisesOnly_mono (fun n hn => cycleNotices_subset s.weigh _ n (by simpa using hn)) hraises⟩

section
variable {s u : State} (h : Measured s u)
include h

theorem Measured.alike : Alike s u := alike_of_keeps h.keeps h.raises

theorem Measured.tracker : u.tracker = s.tracker := h.keeps.2 .tracker (by simp)

theorem Measured.hookOver : hookOver u = hookOver s := hookOver_congr h.alike (h.keeps.2 .pos (by simp))

/-- What a step after the measurements changes, seen from the state before the cycle. -/
theorem Measured.acts {f : State} {touched : List Block} {must may : List Notice} (hkeeps : Keeps touched u f)
    (hnotices : Notices must may u f) : Acts (.weigh :: touched) must (measureNotices ++ may) s (settle f) :=
  acts_settle (h.keeps.andThen hkeeps (by simp) (fun b hb => List.mem_cons_of_mem _ hb))
    (by simpa using notices_trans (notices_of_raisesOnly h.raises) hnotices)

/-- R162: a wrong lift, seen from the state before the cycle. -/
theorem Measured.wrongLift {k : Task} {c : State} (hk : s.tracker.task = some k) (hloses : Loses [] u c)
    (hc : c.tracker = u.tracker) (reason : Reason) (n : Nat) : let t := settle (wrongLift reason n c)
    t.tracker = { task := some { k with measured := some n, state := .aborted, reason := some reason, waiting := none }
                  hook := some (strangeHook n) } ∧
      LinkKeeps s.link.boxes.book s t ∧ OwnReleased s t ∧ Acts (.weigh :: lossBlocks) [.hookUnknown, .aborted] measureNotices s t := by
  obtain ⟨htracker, hlink, hown, hkeeps, hnotices⟩ := wrongLift_spec (k := k) (by rw [hc, h.tracker, hk]) hloses reason n
  exact ⟨(settle_tracker _).trans htracker, (h.alike.link ▸ hlink).alike h.alike (alike_settle _),
    hown.alike h.alike (alike_settle _), h.acts hkeeps hnotices⟩

/-- R162, R164: a lift that no task can explain, seen from the state before the cycle. -/
theorem Measured.liftUnknown {task : Option Task} (hk : s.tracker.task = task) (n : Nat) : let t := settle (liftUnknown n u)
    t.tracker = { task := task, hook := some (strangeHook n) } ∧ Acts [.weigh, .tracker] [.hookUnknown] measureNotices s t := by
  obtain ⟨hkeeps, hnotices, htracker⟩ := liftUnknown_spec n u
  exact ⟨(settle_tracker _).trans (by simp only [htracker, h.tracker, hk]), h.acts hkeeps hnotices⟩

/-- A lift that changes the tracker alone and raises nothing. -/
theorem Measured.withTracker (x : Tracker) : let t := settle (u.withTracker x)
    t.tracker = x ∧ Acts [.weigh, .tracker] [] measureNotices s t :=
  ⟨settle_tracker _, h.acts (keeps_withTracker x u) (notices_of_eq rfl)⟩

/-- R154: a lift at the source in MANUAL, seen from the state before the cycle. -/
theorem Measured.liftAtSource_manual {k : Task} (hk : s.tracker.task = some k) (n : Nat) :
    let t := settle (liftAtSource .manual n u)
    t.tracker = { liftedTracker n k with task := some { k with measured := some n, state := .liftPending } } ∧
      Acts [.weigh, .tracker] [.liftPending] measureNotices s t := by
  rw [Machine.liftAtSource_manual (by rw [h.tracker, hk])]
  exact ⟨settle_tracker _, h.acts ((keeps_withTracker ..).andThen (keeps_raise ..))
    (notices_of_eq_trans rfl (notices_raise .liftPending (u.withTracker _)))⟩

/-- R154, R155, R169: a lift at the source in AUTO, seen from the state before the cycle. -/
theorem Measured.liftAtSource_auto {k : Task} (hk : s.tracker.task = some k) (n : Nat) :
    let t := settle (liftAtSource .auto n u)
    if s.link.boxes.book.isSome then
      t.tracker = { liftedTracker n k with task := some { k with measured := some n, waiting := some .takeOut } } ∧
        Acts [.weigh, .tracker] [] measureNotices s t
    else
      TakesOut { k with measured := some n } (s.withTracker (liftedTracker n k)) t ∧
        Acts (.weigh :: lossBlocks) [] (measureNotices ++ bookingNotices) s t := by
  have hfull : bookFull (u.withTracker (liftedTracker n k)) = s.link.boxes.book.isSome :=
    congrArg (fun l : Link => l.boxes.book.isSome) h.alike.link
  rw [Machine.liftAtSource_auto (by rw [h.tracker, hk]), bookTakeOut, hfull]
  split
  · exact h.withTracker _
  · obtain ⟨htakes, hkeeps, hraises, -⟩ :=
      takeOut_spec (k := { k with measured := some n }) (s := u.withTracker (liftedTracker n k)) rfl
    have halike : Alike (s.withTracker (liftedTracker n k)) (u.withTracker (liftedTracker n k)) := { h.alike with }
    exact ⟨htakes.alike halike rfl (alike_settle _) (settle_tracker _),
      h.acts ((keeps_withTracker ..).andThen hkeeps (by simp [lossBlocks]) (by simp))
        (notices_of_eq_trans rfl (notices_of_raisesOnly hraises))⟩

end

/-- Settles O19: a LIFT by the task state, seen from the state before the cycle. -/
theorem liftIsJudgedByTask : Obligations.LiftIsJudgedByTask := by
  intro coarseA fineA coarseB fineB s t hrun hunloaded hexec hloaded
  have ht := exec_of_lifted hrun hunloaded hexec hloaded
  have h := measured_cycleMeasured coarseA fineA coarseB fineB s
  dsimp only
  generalize (t.weigh.stableNet.getD 0).toNat = n at *
  generalize cycleMeasured coarseA fineA coarseB fineB s = u at *
  subst ht
  cases hk : s.tracker.task with
  | none =>
    have hlift : onLift n u = liftUnknown n u := by simp only [onLift, h.tracker, hk]
    rw [hlift]
    exact h.liftUnknown hk n
  | some k =>
    have hk' : u.tracker.task = some k := by rw [h.tracker, hk]
    cases hst : k.state with
    | done | cancelled | claimLost | aborted =>
      have hlift : onLift n u = liftUnknown n u := by simp only [onLift, hk', hst]
      simp only [hst, hlift]
      exact h.liftUnknown hk n
    | claiming =>
      simp only [hst, onLift_of_claiming hk' n hst, true_imp_iff]
      obtain ⟨htracker, hlink, hown, hacts⟩ :=
        h.wrongLift hk (loses_abandonRound u) (abandonRound_tracker u) .earlyLift n
      exact ⟨htracker, hlink, hown, fun r hr hpurpose =>
        (roundClosed_of_earlyLift n (h.alike.claims ▸ hr) hpurpose).alike h.alike (alike_settle _), hacts⟩
    | toSource =>
      simp only [hst, onLift_of_toSource hk' n hst, h.hookOver, h.alike.cfg]
      by_cases hover : hookOver s k.source
      · simp only [if_pos hover]
        cases s.cfg.bookMode with
        | manual => exact h.liftAtSource_manual hk n
        | auto => exact hst ▸ h.liftAtSource_auto hk n
      · simp only [if_neg hover]
        obtain ⟨htracker, hlink, hown, hacts⟩ := h.wrongLift hk (.refl u) rfl .wrongLift n
        exact ⟨htracker, hlink, hown, nofun, hacts⟩
    | placePending =>
      have hwindow : hookOverSome u (pendingPlace k) =
          hookOverSome s (if k.waiting = some .returnIn then some k.source else k.target) := by
        unfold hookOverSome
        rw [h.hookOver]
        rfl
      simp only [hst, onLift_of_placePending hk' n hst, hwindow]
      by_cases hover : hookOverSome s (if k.waiting = some .returnIn then some k.source else k.target)
      · simp only [if_pos hover, liftBack_eq hk']
        exact h.withTracker _
      · simp only [if_neg hover]
        obtain ⟨htracker, hlink, hown, hacts⟩ := h.wrongLift hk (.refl u) rfl .wrongLift n
        exact ⟨htracker, hlink, hown, nofun, hacts⟩
    | liftPending | verifyHold | toTarget | targetLost | retargeting | returning =>
      have hlift : onLift n u = u := by simp only [onLift, hk', hst]
      simp only [hst, hlift]
      exact ⟨by rw [settle_tracker, h.tracker], h.acts (keeps_refl ..) (notices_refl ..)⟩

end Sys2Proof.Machine
end

section
/-! PROOFS. The configuration store (R22, R76, R103, R175, R200 to R204): the items as they are stored and read, what follows
from a write at once, and the claim about CFG_WRITE. -/

namespace Sys2Proof.Machine

/-! ### The items of one value (section 10.3) -/

/-- The one-value items of the configuration in the order of their numbers, 0 where a number names none. -/
def scalarValues (c : Cfg) : List Nat :=
  [0, c.stationId.getD 0, c.beat, c.claimWindow, c.vmax, c.aBridge, c.aTrolley, c.aHoist, c.tReact, c.margin, c.slowBand,
    c.hysteresis, c.lostDriftCap, c.plusExtent, c.minusExtent, c.runwayMin, c.runwayMax, c.trolleyMin, c.trolleyMax,
    c.hoistBottom, c.hoistTop, c.scaleBridge, c.scaleTrolley, c.scaleHoist, 0, 0, c.tolerance, c.fsA, c.fsB, c.tare,
    c.ratedLoad, c.overloadPercent, c.liftThreshold, c.releaseThreshold, c.stabilityBand, c.slackThreshold,
    c.radiusLoaded, c.radiusUnloaded, c.bookMode.code, 0, c.slotWindow, 0, 0, c.cradleWindow]

theorem getScalar_eq (c : Cfg) (item : Nat) : getScalar c item = (scalarValues c).getD item 0 := by
  by_cases h : item < 44
  · interval_cases item <;> rfl
  · have hdefault : (scalarValues c).getD item 0 = 0 := List.getD_eq_default _ _ (by simp [scalarValues]; omega)
    rw [hdefault, getScalar]
    all_goals omega

theorem scalarRange_lt {item : Nat} {range : Nat × Nat × Nat} (h : scalarRange item = some range) : item < 44 := by
  by_contra hge
  rw [scalarRange] at h
  · exact absurd h (by simp)
  all_goals omega

/-- A write of a one-value item changes that item alone of the list, and the release threshold with the lift threshold. -/
theorem scalarValues_setScalar {item : Nat} (v : Nat) (c : Cfg) (h : item < 44) :
    let d := setScalar item v c
    scalarValues d = if item = 32 then ((scalarValues c).set 32 d.liftThreshold).set 33 d.releaseThreshold
      else (scalarValues c).set item (getScalar d item) := by
  interval_cases item <;> rfl

/-- Every other one-value item stands. -/
theorem getScalar_setScalar_ne {item j : Nat} (v : Nat) (c : Cfg) (h : item < 44) (hne : j ≠ item)
    (hrelease : ¬ (item = 32 ∧ j = 33)) : getScalar (setScalar item v c) j = getScalar c j := by
  rw [getScalar_eq, getScalar_eq, scalarValues_setScalar v c h, List.getD, List.getD]
  split
  next h32 =>
    have hj : j ≠ 33 := fun hj => hrelease ⟨h32, hj⟩
    rw [List.getElem?_set_ne hj.symm, List.getElem?_set_ne (by omega)]
  · rw [List.getElem?_set_ne hne.symm]

/-- What a write of a one-value item leaves of the other kinds of item. -/
theorem setScalar_keeps (item v : Nat) (c : Cfg) : let d := setScalar item v c
    d.marksBridge = c.marksBridge ∧ d.marksTrolley = c.marksTrolley ∧ d.geometry = c.geometry ∧
      d.bay0 = c.bay0 ∧ d.bay1 = c.bay1 ∧ (item ≠ 1 → d.stationId = c.stationId) := by
  dsimp only
  unfold setScalar
  split <;> simp [writeLift]

/-- A write of an item with neither pair nor code stores the clamped value. -/
theorem getScalar_setScalar {item : Nat} {range : Nat × Nat × Nat} (v : Nat) (c : Cfg)
    (hrange : scalarRange item = some range)
    (hplain : item ∉ [15, 16, 17, 18, 19, 20, 32, 33, 38]) : getScalar (setScalar item v c) item = v := by
  have hlt := scalarRange_lt hrange
  interval_cases item <;> simp_all [scalarRange, getScalar, setScalar]

/-- An item is stored as before where the parts of the configuration it is read from are. -/
theorem storedValues_congr {j : Nat} {c d : Cfg} (hscalar : getScalar d j = getScalar c j)
    (hid : j = 1 → d.stationId = c.stationId) (hbridge : j = 24 → d.marksBridge = c.marksBridge)
    (htrolley : j = 25 → d.marksTrolley = c.marksTrolley) (hgeometry : j = 39 → d.geometry = c.geometry)
    (hbay0 : j = 41 → d.bay0 = c.bay0) (hbay1 : j = 42 → d.bay1 = c.bay1) : storedValues j d = storedValues j c := by
  unfold storedValues
  split
  · rw [hid rfl]
  · rw [hbridge rfl]
  · rw [htrolley rfl]
  · rw [hgeometry rfl]
  · rw [hbay0 rfl]
  · rw [hbay1 rfl]
  · rw [hscalar]

/-- A one-value item written leaves every other item as stored. -/
theorem storedValues_setScalar {item j : Nat} (v : Nat) (c : Cfg) (h : item < 44) (hne : j ≠ item)
    (hrelease : ¬ (item = 32 ∧ j = 33)) : storedValues j (setScalar item v c) = storedValues j c := by
  obtain ⟨hbridge, htrolley, hgeometry, hbay0, hbay1, hid⟩ := setScalar_keeps item v c
  exact storedValues_congr (getScalar_setScalar_ne v c h hne hrelease) (fun hj => hid fun hi => hne (hj.trans hi.symm))
    (fun _ => hbridge) (fun _ => htrolley) (fun _ => hgeometry) (fun _ => hbay0) (fun _ => hbay1)

/-- R22, R76, R202: a one-value item holds the clamped value, its pair kept in order. -/
theorem written_setScalar {item : Nat} {range : Nat × Nat × Nat} (values : List Nat) (c : Cfg)
    (hrange : scalarRange item = some range) :
    Written item values c (setScalar item (clampScalar item range (values.headD 0)) c) := by
  have hlt := scalarRange_lt hrange
  unfold Written
  dsimp only
  generalize values.headD 0 = v
  split
  case h_1 =>
    have hbeat : v < 76 ↔ v ≤ 75 := by omega
    simp only [setScalar, clampScalar, clampBeat, hbeat, if_true]
  case h_2 | h_3 | h_4 | h_5 | h_6 | h_7 =>
    cases hrange
    simp [setScalar, clampScalar, clampNat, min_comm v]
  case h_8 | h_9 | h_13 | h_14 | h_15 => cases hrange
  case h_10 =>
    cases hrange
    simp [setScalar, writeLift, clampScalar, clampNat, min_comm v]
  case h_11 =>
    cases hrange
    simp [setScalar, clampScalar, clampNat, min_comm v]
  case h_12 =>
    cases hrange
    have hzero : min 1 v = 0 ↔ v = 0 := by omega
    simp [setScalar, clampScalar, clampNat, bookModeOf, hzero]
  case h_16 hbeat _ _ _ _ _ _ _ _ _ _ _ _ _ _ =>
    have hplain : getScalar (setScalar item (clampScalar item range v) c) item = clampScalar item range v :=
      getScalar_setScalar _ c hrange (by simp; tauto)
    rw [hrange, hplain, clampScalar, if_neg hbeat]
    rfl

/-! ### What follows from a write at once (R22, R58, R66, R76, R81, R103, R203) -/

/-- What a write of an item makes of the state: the item holds the clamped values and every other item
stands; the window, the neighbour table, the reservations of a peer, the kept mailboxes and the map are as the item says. -/
structure CfgStored (item : Nat) (values : List Nat) (s t : State) : Prop where
  written : Written item values s.cfg t.cfg
  others : ∀ j, j ≠ item → ¬ (item = 32 ∧ j = 33) → storedValues j t.cfg = storedValues j s.cfg
  weigh : t.weigh =
    if item = 27 ∨ item = 28 ∨ item = 29 then { s.weigh with window := [], stableNet := none } else s.weigh
  table : if item = 1 then
      t.table = { s.table with entries := s.table.entries.filter fun e => some e.id != t.cfg.stationId } ∧
      (if (entryOf s (t.cfg.stationId.getD 0)).isSome then AllReleased (heldBy (t.cfg.stationId.getD 0)) .own s t
        else t.map = s.map ∧ t.trucks.bay0 = s.trucks.bay0 ∧ t.trucks.bay1 = s.trucks.bay1)
    else t.trucks.bay0 = s.trucks.bay0 ∧ t.trucks.bay1 = s.trucks.bay1 ∧ t.table =
      if (4 ≤ item ∧ item ≤ 20) ∨ item = 36 ∨ item = 37 then
        { s.table with entries := s.table.entries.map (evalEntry t) }
      else s.table
  boxes : if item = 1 ∧ s.cfg.stationId ≠ t.cfg.stationId ∨ item = 39 ∧ s.cfg.geometry ≠ t.cfg.geometry then
      t.link = { s.link with boxes := { s.link.boxes with release := none, book := none, truck := none } } ∧
      t.claims = { s.claims with heldRequests := [] }
    else t.link = s.link ∧ t.claims = s.claims
  map : if item = 39 ∧ s.cfg.geometry ≠ t.cfg.geometry then
      ∀ g, t.cfg.geometry = some g → t.map = List.replicate (g.rows * columns g) { content := .unknown, source := .own }
    else item ≠ 1 → t.map = s.map

/-- What a write does before it is settled and answered: it touches no other block and raises nothing. -/
structure CfgWrites (item : Nat) (values : List Nat) (s t : State) : Prop extends CfgStored item values s t where
  keeps : Keeps [.cfg, .weigh, .table, .link, .claims, .map, .trucks] s t
  notices : t.notices = s.notices

/-- R22: the weighing unit after a write of an item. -/
def weighAfterWrite (item : Nat) (w : WeighingUnit) : WeighingUnit :=
  if item = 27 ∨ item = 28 ∨ item = 29 then { w with window := [], stableNet := none } else w

/-- R76, R81: the neighbour table after a write of an item other than the station identifier. -/
def tableAfterWrite (item : Nat) (s : State) : NeighbourTable :=
  if (4 ≤ item ∧ item ≤ 20) ∨ item = 36 ∨ item = 37 then { s.table with entries := s.table.entries.map (evalEntry s) }
  else s.table

/-- The state after a write of an item other than the station identifier and the geometry. -/
def itemWritten (item : Nat) (d : Cfg) (s : State) : State :=
  ((s.withCfg d).withWeigh (weighAfterWrite item s.weigh)).withTable (tableAfterWrite item (s.withCfg d))

/-- A write that leaves the station identifier and the geometry changes what R22 and R76 say and nothing else. -/
theorem cfgWrites_itemWritten {item : Nat} {values : List Nat} {s : State} {d : Cfg} (hwritten : Written item values s.cfg d)
    (hothers : ∀ j, j ≠ item → ¬ (item = 32 ∧ j = 33) → storedValues j d = storedValues j s.cfg)
    (hid : item ≠ 1) (hgeometry : d.geometry = s.cfg.geometry) : CfgWrites item values s (itemWritten item d s) := by
  have hcfg : (itemWritten item d s).cfg = d := rfl
  have hentries : evalEntry (itemWritten item d s) = evalEntry (s.withCfg d) := evalEntry_congr rfl rfl
  refine ⟨⟨hwritten, hothers, rfl, ?_, ?_, ?_⟩, ?_, rfl⟩
  · rw [if_neg hid, hentries]
    exact ⟨rfl, rfl, rfl⟩
  · rw [if_neg (by simp [hid, hcfg, hgeometry])]
    exact ⟨rfl, rfl⟩
  · rw [if_neg (by simp [hcfg, hgeometry])]
    exact fun _ => rfl
  · exact ⟨rfl, fun b hb => by cases b <;> simp_all [SameBlock, itemWritten]⟩

/-- R22, R76, R81: a one-value item other than the station identifier, written. -/
theorem writeScalar_eq {item : Nat} (v : Nat) (s : State) (hid : item ≠ 1) :
    writeScalar item v s = itemWritten item (setScalar item v s.cfg) s := by
  have hwindow : emptiesWindow item = true ↔ item = 27 ∨ item = 28 ∨ item = 29 := by simp [emptiesWindow, or_assoc]
  have hpermission : isPermissionItem item = true ↔ (4 ≤ item ∧ item ≤ 20) ∨ item = 36 ∨ item = 37 := by
    simp [isPermissionItem, or_assoc]
  simp only [writeScalar, if_neg hid, hwindow, hpermission, itemWritten, weighAfterWrite, tableAfterWrite]
  split <;> split <;> rfl

/-- R22, R76, R81, R202: a write of a one-value item other than the station identifier. -/
theorem cfgWrites_writeScalar {item : Nat} {range : Nat × Nat × Nat} (values : List Nat) (s : State)
    (hrange : scalarRange item = some range) (hid : item ≠ 1) :
    CfgWrites item values s (writeScalar item (clampScalar item range (values.headD 0)) s) := by
  obtain ⟨-, -, hgeometry, -⟩ := setScalar_keeps item (clampScalar item range (values.headD 0)) s.cfg
  rw [writeScalar_eq _ s hid]
  exact cfgWrites_itemWritten (written_setScalar values s.cfg hrange)
    (fun _ hj hrelease => storedValues_setScalar _ s.cfg (scalarRange_lt hrange) hj hrelease) hid hgeometry

/-! ### Mark lists and bay items (R175, R202) -/

theorem getScalar_congr {c d : Cfg} (h : scalarValues d = scalarValues c) (j : Nat) : getScalar d j = getScalar c j := by
  rw [getScalar_eq, getScalar_eq, h]

/-- A mark list or a bay item, written: nothing follows from it. -/
theorem cfgWrites_marks_bays {item : Nat} (values : List Nat) (s : State)
    (h : item = 24 ∨ item = 25 ∨ item = 41 ∨ item = 42) : CfgWrites item values s (writeItem item values s) := by
  have hmin (hi : Nat) : values.map (clampNat 0 hi) = values.map fun p => min p hi := by simp [clampNat, min_comm]
  rcases h with rfl | rfl | rfl | rfl
  · exact cfgWrites_itemWritten (d := { s.cfg with marksBridge := values.map (clampNat 0 400000) }) (hmin _)
      (fun j hj _ => storedValues_congr (getScalar_congr rfl j) (fun _ => rfl) (fun h => absurd h hj) (fun _ => rfl)
        (fun _ => rfl) (fun _ => rfl) (fun _ => rfl)) (by decide) rfl
  · exact cfgWrites_itemWritten (d := { s.cfg with marksTrolley := values.map (clampNat 0 60000) }) (hmin _)
      (fun j hj _ => storedValues_congr (getScalar_congr rfl j) (fun _ => rfl) (fun _ => rfl) (fun h => absurd h hj)
        (fun _ => rfl) (fun _ => rfl) (fun _ => rfl)) (by decide) rfl
  · exact cfgWrites_itemWritten (d := { s.cfg with bay0 := bayItemOf values }) rfl
      (fun j hj _ => storedValues_congr (getScalar_congr rfl j) (fun _ => rfl) (fun _ => rfl) (fun _ => rfl)
        (fun _ => rfl) (fun h => absurd h hj) (fun _ => rfl)) (by decide) rfl
  · exact cfgWrites_itemWritten (d := { s.cfg with bay1 := bayItemOf values }) rfl
      (fun j hj _ => storedValues_congr (getScalar_congr rfl j) (fun _ => rfl) (fun _ => rfl) (fun _ => rfl)
        (fun _ => rfl) (fun _ => rfl) (fun h => absurd h hj)) (by decide) rfl

/-! ### The station identifier (R203) -/

theorem filter_id_of_entryOf_none {id : Nat} {s : State} (h : entryOf s id = none) :
    (s.table.entries.filter fun e => some e.id != some id) = s.table.entries := by
  refine List.filter_eq_self.2 fun e he => ?_
  have hne := List.find?_eq_none.1 h e he
  simpa using hne

/-- R66: a farewell leaves no entry of the station and none of its reservations. -/
theorem takeFarewell_spec (id : Nat) (s : State) : let t := takeFarewell id s
    t.table = { s.table with entries := s.table.entries.filter fun e => some e.id != some id } ∧
      (if (entryOf s id).isSome then AllReleased (heldBy id) .own s t
        else t.map = s.map ∧ t.trucks.bay0 = s.trucks.bay0 ∧ t.trucks.bay1 = s.trucks.bay1) ∧
      Keeps [.table, .map, .trucks] s t ∧ t.notices = s.notices := by
  dsimp only
  unfold takeFarewell
  cases h : entryOf s id with
  | none =>
    refine ⟨?_, by simp, keeps_refl .., rfl⟩
    rw [filter_id_of_entryOf_none h]
  | some e =>
    have hreleased : AllReleased (heldBy id) .own s (releasePeer id s) := releaseWhere_allReleased ..
    have hid : (fun e : Entry => some e.id != some id) = fun e => e.id != id := by funext e; rfl
    rw [hid]
    exact ⟨rfl, hreleased, ⟨rfl, fun b hb => by cases b <;> simp_all [SameBlock, removeEntry, mapEntries, releasePeer]⟩, rfl⟩

/-- R58: the kept mailboxes emptied. -/
theorem emptyKeptBoxes_eq (s : State) : emptyKeptBoxes s =
    (s.withLink { s.link with boxes := { s.link.boxes with release := none, book := none, truck := none } }).withClaims
      { s.claims with heldRequests := [] } := rfl

/-- R58, R203: the station identifier stored and, where it has changed, the kept mailboxes emptied. -/
def stationIdStored (v : Nat) (s : State) : State :=
  if s.cfg.stationId = some v then s.withCfg { s.cfg with stationId := some v }
  else emptyKeptBoxes (s.withCfg { s.cfg with stationId := some v })

theorem stationIdStored_spec (v : Nat) (s : State) : let u := stationIdStored v s
    Keeps [.cfg, .link, .claims] s u ∧ u.notices = s.notices ∧ u.cfg = { s.cfg with stationId := some v } ∧
      if s.cfg.stationId ≠ some v then
        u.link = { s.link with boxes := { s.link.boxes with release := none, book := none, truck := none } } ∧
        u.claims = { s.claims with heldRequests := [] }
      else u.link = s.link ∧ u.claims = s.claims := by
  dsimp only
  unfold stationIdStored
  split
  next h =>
    rw [if_neg (by simpa using h)]
    exact ⟨⟨rfl, fun b hb => by cases b <;> simp_all [SameBlock]⟩, rfl, rfl, rfl, rfl⟩
  next h =>
    exact ⟨⟨rfl, fun b hb => by cases b <;> simp_all [SameBlock, emptyKeptBoxes_eq]⟩, rfl, rfl, rfl, rfl⟩

/-- R58, R66, R203: a write of the station identifier. -/
theorem cfgWrites_writeStationId (values : List Nat) (s : State) : CfgWrites 1 values s (writeItem 1 values s) := by
  let v := clampScalar 1 (1, 30, 1) (values.headD 0)
  obtain ⟨hkeeps, hnotices, hcfg, hboxes⟩ := stationIdStored_spec v s
  obtain ⟨htable, hreleased, hkeeps', hnotices'⟩ := takeFarewell_spec v (stationIdStored v s)
  rw [show writeItem 1 values s = takeFarewell v (stationIdStored v s) from rfl]
  have htable' : (stationIdStored v s).table = s.table := hkeeps.2 .table (by simp)
  have hentry : entryOf (stationIdStored v s) v = entryOf s v := by rw [entryOf, entryOf, htable']
  obtain ⟨hbay0, hbay1⟩ := hkeeps.2 .trucks (by simp)
  have hmap : (stationIdStored v s).map = s.map := hkeeps.2 .map (by simp)
  rw [hentry, AllReleased, hmap, hbay0, hbay1] at hreleased
  rw [htable'] at htable
  generalize stationIdStored v s = u at *
  have hcfg' : (takeFarewell v u).cfg = setScalar 1 v s.cfg := (hkeeps'.2 .cfg (by simp)).trans hcfg
  have hid : (takeFarewell v u).cfg.stationId = some v := by rw [hcfg']; rfl
  have hlink : (takeFarewell v u).link = u.link := hkeeps'.2 .link (by simp)
  have hclaims : (takeFarewell v u).claims = u.claims := hkeeps'.2 .claims (by simp)
  refine ⟨⟨?_, fun j hj hrelease => ?_, ?_, ?_, ?_, ?_⟩, hkeeps.andThen hkeeps', hnotices'.trans hnotices⟩
  · rw [hcfg']
    exact written_setScalar values s.cfg rfl
  · rw [hcfg']
    exact storedValues_setScalar v s.cfg (by decide) hj hrelease
  · exact (hkeeps'.2 .weigh (by simp)).trans (hkeeps.2 .weigh (by simp))
  · rw [if_pos rfl, hid]
    exact ⟨htable, hreleased⟩
  · rw [hid, hlink, hclaims]
    simpa using hboxes
  · simp

/-! ### The store geometry (R58, R103) -/

/-- R58, R103: a write of the store geometry. -/
theorem cfgWrites_writeGeometry (values : List Nat) (s : State) (h : values.length = 6) :
    CfgWrites 39 values s (writeItem 39 values s) := by
  obtain ⟨g, hg⟩ : ∃ g, geometryOf values = some g := by
    match values, h with
    | [_, _, _, _, _, _], _ => exact ⟨_, rfl⟩
  have hwrite : writeItem 39 values s = writeGeometry g s := by
    show (match geometryOf values with | none => s | some g => writeGeometry g s) = _
    rw [hg]
  have hothers (j : Nat) (hj : j ≠ 39) : storedValues j { s.cfg with geometry := some g } = storedValues j s.cfg :=
    storedValues_congr (getScalar_congr rfl j) (fun _ => rfl) (fun _ => rfl) (fun _ => rfl) (fun h => absurd h hj)
      (fun _ => rfl) (fun _ => rfl)
  rw [hwrite, writeGeometry]
  split
  next hsame =>
    exact ⟨⟨hsame.trans hg.symm, fun _ _ _ => rfl, rfl, ⟨rfl, rfl, rfl⟩, by simp, by simp⟩, keeps_refl .., rfl⟩
  next hnew =>
    have hchanged : s.cfg.geometry ≠ some g := hnew
    rw [emptyKeptBoxes_eq]
    refine ⟨⟨hg.symm, fun j hj _ => hothers j hj, rfl, ⟨rfl, rfl, rfl⟩, ?_, ?_⟩,
      ⟨rfl, fun b hb => by cases b <;> simp_all [SameBlock]⟩, rfl⟩
    · rw [if_pos (.inr ⟨rfl, hchanged⟩)]
      exact ⟨rfl, rfl⟩
    · rw [if_pos ⟨rfl, hchanged⟩]
      rintro g' ⟨⟩
      rfl

/-! ### CFG_WRITE (R200, R202) -/

/-- The listed items of several values. -/
theorem item_of_no_scalarRange {item : Nat} (hlisted : itemListed item = true) (h : scalarRange item = none) :
    (item = 24 ∨ item = 25 ∨ item = 41 ∨ item = 42) ∨ item = 39 := by
  have hrange : 1 ≤ item ∧ item ≤ 43 := by simpa [itemListed] using hlisted
  obtain ⟨hlo, hhi⟩ := hrange
  interval_cases item <;> simp_all [scalarRange]

/-- What a write of any listed item makes of the state. -/
theorem cfgWrites_writeItem {item : Nat} {values : List Nat} (s : State) (hlisted : itemListed item = true)
    (hlength : item = 39 → values.length = 6) : CfgWrites item values s (writeItem item values s) := by
  cases hrange : scalarRange item with
  | none =>
    obtain h | rfl := item_of_no_scalarRange hlisted hrange
    · exact cfgWrites_marks_bays values s h
    · exact cfgWrites_writeGeometry values s (hlength rfl)
  | some range =>
    by_cases hid : item = 1
    · subst hid
      exact cfgWrites_writeStationId values s
    · have hwrite : writeItem item values s = writeScalar item (clampScalar item range (values.headD 0)) s := by
        simp only [writeItem, hrange]
      rw [hwrite]
      exact cfgWrites_writeScalar values s hrange hid

/-- What is stored stands in every state that agrees on the blocks concerned. -/
theorem CfgStored.congr {item : Nat} {values : List Nat} {s b t : State} (h : CfgStored item values s b)
    (hcfg : t.cfg = b.cfg) (hweigh : t.weigh = b.weigh) (htable : t.table = b.table) (hlink : t.link = b.link)
    (hclaims : t.claims = b.claims) (hmap : t.map = b.map) (hbay0 : t.trucks.bay0 = b.trucks.bay0)
    (hbay1 : t.trucks.bay1 = b.trucks.bay1) (hpos : t.pos = b.pos) : CfgStored item values s t := by
  have hentries : evalEntry t = evalEntry b := evalEntry_congr (by rw [hpos]) hcfg
  obtain ⟨bwritten, bothers, bweigh, btable, bboxes, bmap⟩ := h
  rw [← hcfg] at bwritten bothers btable bboxes bmap
  rw [AllReleased] at btable
  rw [← hmap] at btable bmap
  rw [← htable, ← hentries, ← hbay0, ← hbay1] at btable
  rw [← hlink, ← hclaims] at bboxes
  exact ⟨bwritten, bothers, hweigh.trans bweigh, btable, bboxes, bmap⟩

/-- R200: how many values an item carries, if it is one that any write can name. -/
def valueCount (item : Nat) : Option Nat :=
  if item = 24 ∨ item = 25 then none
  else if item = 39 then some 6
  else if item = 41 ∨ item = 42 then some 3
  else if itemListed item then some 1
  else if 64 ≤ item ∧ item ≤ 79 then some 9
  else none

/-- R200: a write is refused for its length where the item carries another number of values. -/
theorem lengthBad_eq (item : Nat) (values : List Nat) :
    ((itemListed item || isZoneItem item) && !shapeFits item values) =
      (valueCount item).any fun n => decide (n ≠ values.length) := by
  unfold shapeFits valueCount
  split
  case h_1 | h_2 | h_3 | h_4 | h_5 => simp [itemListed, eq_comm]
  case h_6 h24 h25 h39 h41 h42 =>
    have hseveral : ¬ (item = 24 ∨ item = 25) := by tauto
    have hbay : ¬ (item = 41 ∨ item = 42) := by tauto
    rw [if_neg hseveral, if_neg h39, if_neg hbay]
    have hzone : isZoneItem item = true ↔ 64 ≤ item ∧ item ≤ 79 := by simp [isZoneItem]
    by_cases hlisted : itemListed item = true
    · have hnot : isZoneItem item = false := by
        simp only [itemListed, isZoneItem, Bool.and_eq_true, decide_eq_true_eq] at *
        simp; omega
      simp [hlisted, hnot, eq_comm]
    · by_cases hz : isZoneItem item = true
      · simp [hlisted, hz, ← hzone, eq_comm]
      · simp [hlisted, hz, ← hzone]

theorem exec_of_cfgItem {c : Instr} {item : Nat} {values : List Nat} (h : cfgItem c = some (item, values)) (s : State) :
    exec c s = .next (request (cfgWriteBody item values) s) := by
  unfold cfgItem at h
  split at h
  case h_7 => cases h
  all_goals obtain ⟨rfl, rfl⟩ := Prod.mk.inj (Option.some.inj h); rfl

/-- Settles O52: the checks of a CFG_WRITE in their order, then what the write makes of the state. -/
theorem cfgWriteStoresTheItem : Obligations.CfgWriteStoresTheItem := by
  intro c item values s hrun hc
  have hrefused (r : Status) (hr : r ≠ .ok) (hbody : cfgWriteBody item values s = (s, .err r)) : Answers c (.err r) s :=
    (exec_of_cfgItem hc s).trans (congrArg Host.Outcome.next (request_of_answer hrun hbody hr))
  show if ((valueCount item).any fun n => decide (n ≠ values.length)) = true then _ else _
  rw [← lengthBad_eq]
  by_cases hlength : ((itemListed item || isZoneItem item) && !shapeFits item values) = true
  · rw [if_pos hlength]
    exact hrefused .badArg (by decide) (if_pos hlength)
  rw [if_neg hlength]
  by_cases hstate : s.link.state ≠ .config
  · rw [if_pos hstate]
    exact hrefused .badState (by decide) ((if_neg hlength).trans (if_pos hstate))
  rw [if_neg hstate]
  by_cases hvalue : (!itemListed item || namedValueBad item values || geometryRefused item values) = true
  · refine (if_pos hvalue).mpr ?_
    exact hrefused .badArg (by decide) ((if_neg hlength).trans ((if_neg hstate).trans (if_pos hvalue)))
  refine (if_neg hvalue).mpr ?_
  have hlisted : itemListed item = true := by simp_all
  have hgeometry (h : item = 39) : values.length = 6 := by
    subst h
    simpa [itemListed, shapeFits] using hlength
  have hbody : cfgWriteBody item values s =
      (writeItem item values s, .okWith ((storedValues item (writeItem item values s).cfg).getD [])) :=
    (if_neg hlength).trans ((if_neg hstate).trans (if_neg hvalue))
  obtain ⟨hstored, hkeeps, hnotices⟩ := cfgWrites_writeItem s hlisted hgeometry
  obtain ⟨hwritten, hothers, hweigh, htable, hboxes, hmap⟩ := hstored.congr
    (t := respond (.okWith ((storedValues item (writeItem item values s).cfg).getD [])) (settle (writeItem item values s)))
    (by simp) (by simp) (by simp) (by simp) (by simp) (by simp) (by simp) (by simp) (by simp)
  refine ⟨_, (exec_of_cfgItem hc s).trans (congrArg Host.Outcome.next (request_of_acceptance hrun hbody)),
    hwritten, hothers, hweigh, htable, hboxes, hmap, ?_⟩
  rw [respond_cfg, settle_cfg]
  exact accepts_settle hkeeps (notices_of_eq hnotices) (hkeeps.2 .port (by simp))

end Sys2Proof.Machine
end

section
/-! PROOFS. Motion permissions (R31, R54, R68, R74, R79 to R97, R151, R176, R190, R191): the lowest offer bounds the output,
what each condition allows, when the conditions of place hold, and the claim about both. -/

namespace Sys2Proof.Machine

/-! ### The lowest offer (R74, R208) -/

theorem Level.lower_rank (a b : Level) : (a.lower b).rank = min a.rank b.rank := by
  unfold Level.lower
  split <;> omega

theorem foldl_lower_rank_le (os : List Level) (l : Level) :
    (os.foldl Level.lower l).rank ≤ l.rank ∧ ∀ o ∈ os, (os.foldl Level.lower l).rank ≤ o.rank := by
  induction os generalizing l with
  | nil => simp
  | cons o os ih =>
    obtain ⟨hfirst, hrest⟩ := ih (l.lower o)
    rw [Level.lower_rank] at hfirst
    refine ⟨hfirst.trans (Nat.min_le_left ..), fun x hx => ?_⟩
    obtain rfl | hx := List.mem_cons.1 hx
    · exact hfirst.trans (Nat.min_le_right ..)
    · exact hrest x hx

theorem levelOf_rank_le {s : State} {d : Dir} {o : Level} (h : o ∈ offers s d) : (levelOf s d).rank ≤ o.rank := by
  unfold levelOf
  split
  · exact Nat.zero_le _
  · exact (foldl_lower_rank_le (offers s d) .full).2 o h

theorem levelsOf_get (s : State) (d : Dir) : (levelsOf s).get d = levelOf s d := by cases d <;> rfl

theorem Level.eq_stop_of_rank {l : Level} (h : l.rank ≤ Level.stop.rank) : l = .stop := by
  cases l <;> simp_all [Level.rank]

section
variable {s : State} (h : OutputsFollow s) (d : Dir)
include h

theorem output_eq : s.perm.outputs.get d = levelOf s d := by rw [h.1, levelsOf_get]

/-- R74: an output is at or below every level that one of its offers is at or below. -/
theorem output_rank_le {o l : Level} (ho : o ∈ offers s d) (hl : o.rank ≤ l.rank) : (s.perm.outputs.get d).rank ≤ l.rank := by
  rw [output_eq h]
  exact (levelOf_rank_le ho).trans hl

theorem output_le_link {l : Level} (hl : (linkOffer s d).rank ≤ l.rank) : (s.perm.outputs.get d).rank ≤ l.rank :=
  output_rank_le h d (by simp [offers]) hl

theorem output_le_condition {l : Level} (hl : (conditionOffer s d).rank ≤ l.rank) :
    (s.perm.outputs.get d).rank ≤ l.rank := output_rank_le h d (by simp [offers]) hl

theorem output_le_entry {e : Entry} (he : e ∈ s.table.entries) {l : Level} (hl : (entryOffer s d e).rank ≤ l.rank) :
    (s.perm.outputs.get d).rank ≤ l.rank :=
  output_rank_le h d (List.mem_append_left _ (List.mem_append_right _ (List.mem_map_of_mem he))) hl

theorem output_le_zone {z : Zone} (hz : z ∈ s.perm.zones) {l : Level} (hl : (zoneOffer s d z).rank ≤ l.rank) :
    (s.perm.outputs.get d).rank ≤ l.rank :=
  output_rank_le h d (List.mem_append_right _ (List.mem_map_of_mem hz)) hl

end

/-! ### What each condition allows -/

/-- R54: what the link state allows of the bridge. -/
theorem linkOffer_bridge {s : State} {d : Dir} (hd : d.isBridge = true) :
    (s.link.state = .config ∨ s.link.state = .listen ∨ s.link.state = .halted → linkOffer s d = .stop) ∧
      (s.link.state = .idclash → carryingCoil s = false → linkOffer s d = .stop) ∧
      (s.link.state ≠ .active → (linkOffer s d).rank ≤ Level.creep.rank) := by
  unfold linkOffer
  cases s.link.state <;> cases carryingCoil s <;> simp [hd, Level.rank]

/-- R31: what OVERLOAD, SLACK and a channel fault allow. -/
theorem conditionOffer_rank_le (s : State) (d : Dir) :
    (s.weigh.overload.set = true → (d.isTravel = true → (conditionOffer s d).rank ≤ Level.slow.rank) ∧
      (d = .hoistUp → (conditionOffer s d).rank ≤ Level.stop.rank)) ∧
    (s.weigh.slack.set = true → d = .hoistDown → (conditionOffer s d).rank ≤ Level.stop.rank) ∧
    (s.weigh.a.fault = true ∨ s.weigh.b.fault = true → d.isTravel = false →
      (conditionOffer s d).rank ≤ Level.creep.rank) := by
  simp only [conditionOffer, Level.lower_rank]
  refine ⟨fun h => ⟨fun hd => ?_, ?_⟩, ?_, fun h hd => ?_⟩
  · simp only [if_pos h]
    cases d <;> simp_all [Dir.isTravel, Level.rank]
  · rintro rfl
    simp [h, Level.rank]
  · rintro h rfl
    simp [h, Level.rank]
  · simp [h, hd, Level.rank]

/-- R91, R93: what a zone allows. -/
theorem zoneOffer_rank_le (s : State) (d : Dir) (z : Zone) :
    (zoneInside s z.entry = true → (d.isTravel = true → (zoneOffer s d z).rank ≤ Level.creep.rank) ∧
      (d = .hoistDown → (zoneOffer s d z).rank ≤ Level.stop.rank)) ∧
    (zoneActive s z.entry = true → z.entry.kind = .slowArea → overlaps s z.entry = true → d.isTravel = true →
      (zoneOffer s d z).rank ≤ Level.slow.rank) ∧
    (zoneInside s z.entry = false → z.entry.kind ≠ .slowArea → (zoneOffer s d z).rank ≤ (z.held d).rank) := by
  unfold zoneOffer
  refine ⟨fun h => ⟨fun hd => ?_, ?_⟩, fun hactive hkind hover hd => ?_, fun h hkind => ?_⟩
  · rw [if_pos h]
    cases d <;> simp_all [Dir.isTravel, Level.rank]
  · rintro rfl
    rw [if_pos h]
  · have houtside : zoneInside s z.entry = false := by simp [zoneInside, zoneActs, hkind]
    rw [if_neg (by simp [houtside]), if_pos ⟨hactive, hkind, hover, hd⟩]
  · rw [if_neg (by simp [h]), if_neg (by simp [hkind])]

/-- R79, R81: what a neighbour entry allows on its side. -/
theorem entryOffer_rank_le {s : State} {d : Dir} {e : Entry}
    (hside : d = .bridgePlus ∧ onPlusSide s e = true ∨ d = .bridgeMinus ∧ onPlusSide s e = false) :
    (entryOffer s d e).rank ≤ (if d = .bridgePlus then e.heldPlus else e.heldMinus).rank ∧
      (e.state = .stale → (entryOffer s d e).rank ≤ Level.slow.rank) ∧
      (e.state = .lost → (entryOffer s d e).rank ≤ Level.creep.rank) ∧
      (e.report.posState ≠ .valid → (entryOffer s d e).rank ≤ Level.creep.rank) := by
  have hoffer : entryOffer s d e = Level.lower (if d = .bridgePlus then e.heldPlus else e.heldMinus) (entryCap e) := by
    obtain ⟨rfl, h⟩ | ⟨rfl, h⟩ := hside <;> simp [entryOffer, h]
  rw [hoffer, Level.lower_rank]
  have hcap : (e.state = .stale → (entryCap e).rank ≤ Level.slow.rank) ∧ (e.state = .lost → (entryCap e).rank ≤ Level.creep.rank) ∧
      (e.report.posState ≠ .valid → (entryCap e).rank ≤ Level.creep.rank) := by
    simp only [entryCap, Level.lower_rank]
    refine ⟨fun h => ?_, fun h => ?_, fun h => ?_⟩
    · simp [h]
    · simp [h]
    · simp [h]
  obtain ⟨hstale, hlost, hpos⟩ := hcap
  exact ⟨Nat.min_le_left .., fun h => (Nat.min_le_right ..).trans (hstale h), fun h => (Nat.min_le_right ..).trans (hlost h),
    fun h => (Nat.min_le_right ..).trans (hpos h)⟩

/-! ### The windows of slots and cradles (R95, R151, R176) -/

theorem magnitude_le_iff (v : Int) (n : Nat) : magnitude v ≤ n ↔ v ≤ n ∧ -v ≤ n := by
  simp only [magnitude]
  omega

/-- A point is near a place: no further off than the window on either side. -/
def near (window : Nat) (x y : Int) : Prop := x - y ≤ window ∧ y - x ≤ window

theorem magnitude_sub_le_iff (window : Nat) (x y : Int) : magnitude (x - y) ≤ window ↔ near window x y := by
  rw [magnitude_le_iff, near]
  omega

theorem slotIndex_isSome_iff (g : Geometry) (row column : Nat) :
    (slotIndex g row column).isSome = true ↔ row < g.rows ∧ column < columns g := by
  simp [slotIndex]

theorem inSlotWindow_iff (c : Cfg) (point : Int × Int) (row column : Nat) : inSlotWindow c point row column = true ↔
    ∃ g ∈ c.geometry, row < g.rows ∧ column < 2 * g.lower - 1 ∧
      near c.slotWindow point.1 (g.rowBase + row * g.rowPitch) ∧
      near c.slotWindow point.2 (g.posBase + (column * g.posPitch) / 2) := by
  unfold inSlotWindow
  cases c.geometry with
  | none => simp
  | some g =>
    simp only [Bool.and_eq_true, slotIndex_isSome_iff, decide_eq_true_eq, magnitude_sub_le_iff, Option.mem_def,
      Option.some.injEq, exists_eq_left', and_assoc]
    rfl

theorem hookOver_slot_iff (s : State) (row column : Nat) : hookOver s (.slot row column) = true ↔
    ∃ g ∈ s.cfg.geometry, row < g.rows ∧ column < 2 * g.lower - 1 ∧
      near s.cfg.slotWindow s.pos.bridge.current (g.rowBase + row * g.rowPitch) ∧
      near s.cfg.slotWindow s.pos.trolley.current (g.posBase + (column * g.posPitch) / 2) :=
  inSlotWindow_iff s.cfg (hookPoint s) row column

theorem cradleBridge_eq (b : BayItem) (r : Truck) (k : Cradle) :
    cradleBridge b r k = if r.orientation = .plus then (b.kingpin + k.offset : Int) else b.kingpin - k.offset := by
  cases ho : r.orientation <;> simp [cradleBridge, ho]

theorem inCradleWindow_iff (s : State) (point : Int × Int) (bay index : Nat) : inCradleWindow s point bay index = true ↔
    ∃ b ∈ bayItem s.cfg bay, ∃ r ∈ bayRecord s bay, ∃ k ∈ r.cradles[index]?,
      near s.cfg.cradleWindow point.2 b.line ∧
      near s.cfg.cradleWindow point.1
        (if r.orientation = .plus then b.kingpin + k.offset else b.kingpin - k.offset) := by
  unfold inCradleWindow
  cases bayItem s.cfg bay with
  | none => simp
  | some b =>
    cases bayRecord s bay with
    | none => simp
    | some r =>
      cases hk : r.cradles[index]? with
      | none => simp [hk]
      | some k => simp [hk, magnitude_sub_le_iff, cradleBridge_eq, and_comm]

theorem hookOver_cradle_iff (s : State) (bay index : Nat) : hookOver s (.cradle bay index) = true ↔
    ∃ b ∈ bayItem s.cfg bay, ∃ r ∈ bayRecord s bay, ∃ k ∈ r.cradles[index]?,
      near s.cfg.cradleWindow s.pos.trolley.current b.line ∧
      near s.cfg.cradleWindow s.pos.bridge.current
        (if r.orientation = .plus then b.kingpin + k.offset else b.kingpin - k.offset) :=
  inCradleWindow_iff s (hookPoint s) bay index

/-! ### The loaded store rule (R95, R96) -/

/-- R95: a slot that a loaded hook may not be lowered into. -/
theorem slotForbidden_iff (s : State) (row column : Nat) (c : SlotContent) : slotForbidden s row column c = true ↔
    (match c with
      | .occupied _ | .reservedOut _ _ | .disputed | .closed => True
      | .reservedIn v => v.holder ≠ .own
      | .unknown | .empty => False) ∨
    (column % 2 = 1 ∧ ¬ (isOccupied (contentAt s row (column - 1)) = true ∧
      isOccupied (contentAt s row (column + 1)) = true)) := by
  have hupper : (isUpper column && !bothLowersOccupied s row column) = true ↔ column % 2 = 1 ∧
      ¬ (isOccupied (contentAt s row (column - 1)) = true ∧ isOccupied (contentAt s row (column + 1)) = true) := by
    simp [isUpper, bothLowersOccupied, -not_and, not_and_or]
  unfold slotForbidden
  rw [Bool.or_eq_true, hupper]
  cases c <;> simp

/-- R96: a slot that the task holds as its source or its target. -/
theorem slotExempt_iff (s : State) (row column : Nat) : slotExempt s row column = false ↔
    ∀ k ∈ s.tracker.task,
      (k.source = .slot row column → k.state ∈ [.done, .cancelled, .claimLost, .aborted]) ∧
      (k.target = some (.slot row column) →
        k.state ∉ [.claiming, .toSource, .liftPending, .verifyHold, .toTarget, .placePending]) := by
  unfold slotExempt
  cases s.tracker.task with
  | none => simp
  | some k =>
    have hrunning : k.state.running = true ↔ k.state ∉ [.done, .cancelled, .claimLost, .aborted] := by
      cases k.state <;> decide
    have hexempts : k.state.exemptsTarget = true ↔
        k.state ∈ [.claiming, .toSource, .liftPending, .verifyHold, .toTarget, .placePending] := by
      cases k.state <;> decide
    simp only [← Bool.not_eq_true, Bool.or_eq_true, Bool.and_eq_true, decide_eq_true_eq, hrunning, hexempts, Option.mem_def,
      Option.some.injEq, forall_eq']
    tauto

/-- A record of the map whose place has a slot window is that of its slot. -/
theorem slotAt_of_window {s : State} {i : Nat} {r : SlotRecord} (hr : s.map[i]? = some r)
    (hwindow : inSlotWindow s.cfg (hookPoint s) (refOfIndex s i).1 (refOfIndex s i).2 = true) :
    slotAt s (refOfIndex s i).1 (refOfIndex s i).2 = some r := by
  obtain ⟨g, hg, hrow, hcolumn, -⟩ := (inSlotWindow_iff ..).1 hwindow
  have hg' : s.cfg.geometry = some g := hg
  refine slotAt_eq_some_iff.2 ⟨g, i, hg', ?_, hr⟩
  simp only [refOfIndex, hg'] at hrow hcolumn ⊢
  rw [slotIndex, if_pos ⟨hrow, hcolumn⟩, Nat.mul_comm, Nat.div_add_mod]

/-- R95, R96: the rule looks at the slots of the geometry. -/
theorem storeStops_iff_slots (s : State) : storeStops s = true ↔ s.weigh.load = .loaded ∧
    ∃ row column, ∃ r ∈ slotAt s row column, hookOver s (.slot row column) = true ∧
      slotForbidden s row column r.content = true ∧ slotExempt s row column = false := by
  simp only [storeStops, Bool.and_eq_true, decide_eq_true_eq, List.any_eq_true, Bool.not_eq_true']
  refine and_congr_right fun _ => ⟨?_, ?_⟩
  · rintro ⟨⟨r, i⟩, hmem, ⟨hwindow, hforbidden⟩, hexempt⟩
    have hr : s.map[i]? = some r := List.mem_zipIdx_iff_getElem?.1 hmem
    exact ⟨_, _, r, slotAt_of_window hr hwindow, hwindow, hforbidden, hexempt⟩
  · rintro ⟨row, column, r, hr, hwindow, hforbidden, hexempt⟩
    obtain ⟨g, i, hg, hi, hrecord⟩ := slotAt_eq_some_iff.1 hr
    have href : refOfIndex s i = (row, column) := by
      obtain ⟨hrow, hcolumn⟩ := div_mod_of_slotIndex hi
      simp only [refOfIndex, hg, hrow, hcolumn]
    refine ⟨(r, i), List.mem_zipIdx_iff_getElem?.2 hrecord, ?_⟩
    simp only [href]
    exact ⟨⟨hwindow, hforbidden⟩, hexempt⟩

/-! ### The task hold (R97) and the truck check (R190, R191) -/

theorem taskHolds_iff (s : State) : taskHolds s = true ↔ s.weigh.load = .loaded ∧
    ∃ k ∈ s.tracker.task, hookOver s k.source = false ∧
      (k.state ∈ [.verifyHold, .targetLost, .retargeting, .returning] ∨
        (k.state ∈ [.liftPending, .toTarget, .placePending] ∧ s.link.state ≠ .active)) := by
  unfold taskHolds
  cases s.tracker.task with
  | none => simp
  | some k =>
    have hstates : (k.state.held || (k.state.carrying && decide (s.link.state ≠ .active))) = true ↔
        k.state ∈ [.verifyHold, .targetLost, .retargeting, .returning] ∨
          (k.state ∈ [.liftPending, .toTarget, .placePending] ∧ s.link.state ≠ .active) := by
      cases k.state <;> simp [TaskState.held, TaskState.carrying]
    simp only [Bool.and_eq_true, decide_eq_true_eq, hstates, Bool.not_eq_true', Option.mem_def, Option.some.injEq,
      exists_eq_left']
    tauto

/-- R190: the planned-placement check, as the statement writes it. -/
theorem plannedPasses_eq (t : Truck) (k : Cradle) (W : Int) : plannedPasses t k W = plannedFits t k W := by
  obtain ⟨offset, content⟩ := k
  cases content <;> rfl

theorem bayStops_iff (s : State) (bay : Nat) : bayStops s bay = true ↔
    ∃ index, ∃ r ∈ bayRecord s bay, ∃ k ∈ r.cradles[index]?, hookOver s (.cradle bay index) = true ∧
      plannedFits r k (hookNet s) = false := by
  unfold bayStops
  cases bayRecord s bay with
  | none => simp
  | some r =>
    simp only [List.any_eq_true, Bool.and_eq_true, Bool.not_eq_true', plannedPasses_eq, Option.mem_def,
      Option.some.injEq, exists_eq_left']
    constructor
    · rintro ⟨⟨k, i⟩, hmem, hwindow, hfails⟩
      exact ⟨i, k, List.mem_zipIdx_iff_getElem?.1 hmem, hwindow, hfails⟩
    · rintro ⟨i, k, hk, hwindow, hfails⟩
      exact ⟨(k, i), List.mem_zipIdx_iff_getElem?.2 hk, hwindow, hfails⟩

theorem truckStops_iff (s : State) : truckStops s = true ↔ s.weigh.load = .loaded ∧
    ∃ bay index, ∃ r ∈ bayRecord s bay, ∃ k ∈ r.cradles[index]?, hookOver s (.cradle bay index) = true ∧
      plannedFits r k (s.weigh.stableNet.getD (s.weigh.lastStable.getD 0)) = false := by
  have hnet : hookNet s = s.weigh.stableNet.getD (s.weigh.lastStable.getD 0) := by
    unfold hookNet
    cases s.weigh.stableNet <;> rfl
  simp only [truckStops, Bool.and_eq_true, decide_eq_true_eq, Bool.or_eq_true, bayStops_iff, hnet]
  refine and_congr_right fun _ => ⟨?_, ?_⟩
  · rintro (h | h)
    · exact ⟨0, h⟩
    · exact ⟨1, h⟩
  · rintro ⟨bay, index, r, hr, h⟩
    match bay, bay_le_of_bayRecord hr with
    | 0, _ => exact .inl ⟨index, r, hr, h⟩
    | 1, _ => exact .inr ⟨index, r, hr, h⟩

/-! ### The hook envelope and the zones (R86, R89, R91) -/

theorem zoneActive_iff (s : State) (z : ZoneEntry) : zoneActive s z = true ↔ z.valid = true ∧ match z.cond with
    | .always => True
    | .switch n => s.perm.switches.getLsbD n = true
    | .truck bay => (bayRecord s bay).isSome = true := by
  unfold zoneActive
  cases z.cond <;> simp

theorem overlaps_iff (s : State) (z : ZoneEntry) : overlaps s z = true ↔
    s.pos.bridge.current - radius s ≤ z.bridgeMax ∧ z.bridgeMin ≤ s.pos.bridge.current + radius s ∧
      s.pos.trolley.current - radius s ≤ z.trolleyMax ∧ z.trolleyMin ≤ s.pos.trolley.current + radius s := by
  simp [overlaps, overlapsBridge, overlapsTrolley, and_assoc]

theorem zoneInside_iff (s : State) (z : ZoneEntry) : zoneInside s z = true ↔
    zoneActive s z = true ∧ overlaps s z = true ∧ match z.kind with
      | .keepOut => True
      | .loadedKeepOut => s.weigh.load = .loaded
      | .clearance => s.weigh.load = .loaded ∧ clearanceHeight s < z.clearance
      | .slowArea => False := by
  unfold zoneInside zoneActs
  cases z.kind
  case keepOut => simp
  case slowArea => simp
  all_goals
    simp only [Bool.and_eq_true, decide_eq_true_eq]
    tauto

/-! ### What the link state and each condition allow -/

/-- R54, R208: what the link state and a held reset allow. -/
theorem linkState_limits_motion (s : State) (h : OutputsFollow s) :
    (s.clock.resetHeld = true ∨ s.link.state = .config → s.perm.outputs = Levels.all .stop) ∧
      ∀ d, d.isBridge = true →
        (s.link.state = .listen ∨ s.link.state = .halted → s.perm.outputs.get d = .stop) ∧
        (s.link.state = .idclash → carryingCoil s = false → s.perm.outputs.get d = .stop) ∧
        (s.link.state ≠ .active → (s.perm.outputs.get d).rank ≤ Level.creep.rank) := by
  have hstop (d : Dir) (hl : linkOffer s d = .stop) : s.perm.outputs.get d = .stop :=
    Level.eq_stop_of_rank (output_le_link h d (by rw [hl]))
  refine ⟨fun hstopped => ?_, fun d hd => ?_⟩
  · have hall (d : Dir) : levelOf s d = .stop := by
      obtain hheld | hconfig := hstopped
      · simp [levelOf, hheld]
      · rw [← output_eq h]
        exact hstop d (by simp [linkOffer, hconfig])
    rw [h.1]
    simp only [levelsOf, hall, Levels.all]
  · obtain ⟨hstopped, hclash, hcreep⟩ := linkOffer_bridge (s := s) hd
    exact ⟨fun hl => hstop d (hstopped (.inr hl)), fun hl hc => hstop d (hclash hl hc),
      fun hl => output_le_link h d (hcreep hl)⟩

/-- R31, R68, R79, R81, R83 to R85, R91, R93, R95, R97, R191: what each condition that holds allows of a direction. -/
theorem condition_limits_motion (s : State) (d : Dir) (h : OutputsFollow s) :
    let atMost (l : Level) : Prop := (s.perm.outputs.get d).rank ≤ l.rank
    (s.table.untracked = true → d.isBridge = true → atMost .creep) ∧
    ((axisOf s d).state ≠ .valid → atMost .creep) ∧
    ((axisOf s d).state = .valid → atMost (s.perm.limits.get d)) ∧
    (s.weigh.overload.set = true → (d.isTravel = true → atMost .slow) ∧ (d = .hoistUp → atMost .stop)) ∧
    (s.weigh.slack.set = true → d = .hoistDown → atMost .stop) ∧
    (s.weigh.a.fault = true ∨ s.weigh.b.fault = true → d.isTravel = false → atMost .creep) ∧
    (storeStops s = true ∨ taskHolds s = true ∨ truckStops s = true → d = .hoistDown → atMost .stop) ∧
    (∀ z ∈ s.perm.zones, zoneInside s z.entry = true →
      (d.isTravel = true → atMost .creep) ∧ (d = .hoistDown → atMost .stop)) ∧
    (∀ z ∈ s.perm.zones, zoneActive s z.entry = true → z.entry.kind = .slowArea → overlaps s z.entry = true →
      d.isTravel = true → atMost .slow) ∧
    (∀ z ∈ s.perm.zones, zoneInside s z.entry = false → z.entry.kind ≠ .slowArea → atMost (z.held d)) ∧
    (∀ e ∈ s.table.entries, (d = .bridgePlus ∧ onPlusSide s e = true ∨ d = .bridgeMinus ∧ onPlusSide s e = false) →
      atMost (if d = .bridgePlus then e.heldPlus else e.heldMinus) ∧
      (e.state = .stale → atMost .slow) ∧ (e.state = .lost → atMost .creep) ∧
      (e.report.posState ≠ .valid → atMost .creep)) := by
  have hdown {b : Bool} (hb : b = true) (hmem : stopDown b d ∈ offers s d) (hd : d = .hoistDown) :
      (s.perm.outputs.get d).rank ≤ Level.stop.rank := output_rank_le h d hmem (by simp [stopDown, hb, hd])
  obtain ⟨hoverload, hslack, hfault⟩ := conditionOffer_rank_le s d
  refine ⟨fun hu hd => ?_, fun hv => ?_, fun hv => ?_, fun ho => ?_, fun hs hd => ?_, fun hf hd => ?_, fun hrules => ?_,
    fun z hz hinside => ?_, fun z hz hactive hkind hover hd => ?_, fun z hz houtside hkind => ?_, fun e he hside => ?_⟩
  · exact output_rank_le h d (o := untrackedOffer s d) (by simp [offers]) (by simp [untrackedOffer, hu, hd])
  · exact output_rank_le h d (o := axisOffer s d) (by simp [offers]) (by simp [axisOffer, hv])
  · exact output_rank_le h d (o := limitOffer s d) (by simp [offers]) (by simp [limitOffer, hv])
  · obtain ⟨htravel, hup⟩ := hoverload ho
    exact ⟨fun hd => output_le_condition h d (htravel hd), fun hd => output_le_condition h d (hup hd)⟩
  · exact output_le_condition h d (hslack hs hd)
  · exact output_le_condition h d (hfault hf hd)
  · obtain hstore | htask | htruck := hrules
    · exact hdown hstore (by simp [offers])
    · exact hdown htask (by simp [offers])
    · exact hdown htruck (by simp [offers])
  · obtain ⟨hinsideOffer, -⟩ := zoneOffer_rank_le s d z
    obtain ⟨htravel, hlower⟩ := hinsideOffer hinside
    exact ⟨fun hd => output_le_zone h d hz (htravel hd), fun hd => output_le_zone h d hz (hlower hd)⟩
  · obtain ⟨-, hslow, -⟩ := zoneOffer_rank_le s d z
    exact output_le_zone h d hz (hslow hactive hkind hover hd)
  · obtain ⟨-, -, hheld⟩ := zoneOffer_rank_le s d z
    exact output_le_zone h d hz (hheld houtside hkind)
  · obtain ⟨hheld, hstale, hlost, hpos⟩ := entryOffer_rank_le hside
    exact ⟨output_le_entry h d he hheld, fun hs => output_le_entry h d he (hstale hs),
      fun hl => output_le_entry h d he (hlost hl), fun hp => output_le_entry h d he (hpos hp)⟩

/-- R86: the envelope radius by the load state. -/
theorem radius_eq (s : State) :
    radius s = if s.weigh.load = .loaded then (s.cfg.radiusLoaded : Int) else s.cfg.radiusUnloaded := by
  unfold radius
  cases s.weigh.load <;> rfl

/-- Settles O59: the offers bound the outputs; the conditions of place are those of their rules. -/
theorem conditionsLimitMotion : Obligations.ConditionsLimitMotion := by
  refine ⟨linkState_limits_motion, condition_limits_motion, fun s => ?_⟩
  refine ⟨hookOver_slot_iff s, hookOver_cradle_iff s, ?_, taskHolds_iff s, truckStops_iff s, fun z => ?_⟩
  · refine (storeStops_iff_slots s).trans (and_congr_right fun _ => ?_)
    refine exists_congr fun row => exists_congr fun column => exists_congr fun r => and_congr_right fun _ =>
      and_congr_right fun _ => and_congr (slotForbidden_iff s row column r.content) (slotExempt_iff s row column)
  · have hover := overlaps_iff s z
    rw [radius_eq] at hover
    exact ⟨zoneActive_iff s z, hover, zoneInside_iff s z⟩

end Sys2Proof.Machine
end

section
/-! PROOFS. Peers that hold reservations (R52, R63, R65, R66, R71): which peers the neighbour table knows, and what each
operation makes of the reservations of peers. -/

namespace Sys2Proof.Machine

/-! ### Peers known and peers that hold -/

/-- What a station is known by: its identifier, state and foreign mark. -/
def Entry.knownBy (e : Entry) : Nat × EntryState × Bool := (e.id, e.state, e.foreign)

/-- A station has an entry that is FRESH or STALE and not geometry-foreign. -/
def PeerKnown (s : State) (id : Nat) : Prop := ∃ e, entryOf s id = some e ∧ e.state ≠ .lost ∧ e.foreign = false

/-- A reservation may stand from a state on: its holder, if a peer, holds one already or is known. -/
def Admits (s : State) (v : Reservation) : Prop :=
  ∀ id, v.holder = .peer id → (∃ w ∈ allReservations s, w.holder = .peer id) ∨ PeerKnown s id

/-- No peer has come to hold a reservation but one that is known, and the table knows the same of every station. -/
structure PeersStand (s t : State) : Prop where
  admitted : ∀ v ∈ allReservations t, Admits s v
  table : t.table.entries.map Entry.knownBy = s.table.entries.map Entry.knownBy

theorem entryOf_map_knownBy (s : State) (id : Nat) :
    (entryOf s id).map Entry.knownBy = (s.table.entries.map Entry.knownBy).find? fun x => x.1 == id := by
  rw [List.find?_map]
  rfl

theorem peerKnown_iff {s : State} {id : Nat} : PeerKnown s id ↔
    ∃ x, (entryOf s id).map Entry.knownBy = some x ∧ x.2.1 ≠ .lost ∧ x.2.2 = false := by
  simp [PeerKnown, Entry.knownBy]

theorem PeersStand.entryOf {s t : State} (h : PeersStand s t) (id : Nat) :
    (entryOf t id).map Entry.knownBy = (entryOf s id).map Entry.knownBy := by
  rw [entryOf_map_knownBy, entryOf_map_knownBy, h.table]

theorem PeersStand.known {s t : State} (h : PeersStand s t) (id : Nat) : PeerKnown t id ↔ PeerKnown s id := by
  rw [peerKnown_iff, peerKnown_iff, h.entryOf]

theorem senderForeign_eq (s : State) (id : Nat) : senderForeign s id = ((entryOf s id).map Entry.knownBy).any fun x => x.2.2 := by
  unfold senderForeign
  cases entryOf s id <;> rfl

theorem PeersStand.senderForeign {s t : State} (h : PeersStand s t) (id : Nat) : senderForeign t id = senderForeign s id := by
  rw [senderForeign_eq, senderForeign_eq, h.entryOf]

/-- A sender that may reserve and is not geometry-foreign is known (R52, R71). -/
theorem peerKnown_of_mayReserve {s : State} {id : Nat} (hmay : mayReserve s id = true) (hforeign : senderForeign s id = false) :
    PeerKnown s id := by
  unfold mayReserve at hmay
  unfold Machine.senderForeign at hforeign
  cases he : Machine.entryOf s id with
  | none => simp [he] at hmay
  | some e => exact ⟨e, he, by simpa [he] using hmay, by simpa [he] using hforeign⟩

theorem admits_of_mem {s : State} {v : Reservation} (h : v ∈ allReservations s) : Admits s v := fun _ hv => .inl ⟨v, h, hv⟩

theorem admits_own {s : State} {v : Reservation} (h : v.holder = .own) : Admits s v := fun id hv => by simp [h] at hv

theorem admits_of_known {s : State} {v : Reservation} {id : Nat} (hv : v.holder = .peer id) (h : PeerKnown s id) :
    Admits s v := fun id' hv' => by
  obtain rfl : id = id' := by simpa [hv] using hv'
  exact .inr h

/-- A reservation with the holder of one that may stand may stand. -/
theorem Admits.of_holder {s : State} {v w : Reservation} (h : Admits s w) (hv : v.holder = w.holder) : Admits s v :=
  fun id hid => h id (hv ▸ hid)

theorem PeersStand.admits {s t : State} (h : PeersStand s t) {v : Reservation} (hv : Admits t v) : Admits s v := fun id hid => by
  obtain ⟨w, hw, hwid⟩ | hknown := hv id hid
  · exact h.admitted w hw id hwid
  · exact .inr ((h.known id).1 hknown)

theorem PeersStand.refl (s : State) : PeersStand s s := ⟨fun _ => admits_of_mem, rfl⟩

theorem PeersStand.trans {s t u : State} (h : PeersStand s t) (k : PeersStand t u) : PeersStand s u :=
  ⟨fun v hv => h.admits (k.admitted v hv), k.table.trans h.table⟩

theorem PeersStand.peersKnown {s t : State} (h : PeersStand s t) (hs : PeersKnown s) : PeersKnown t := fun v hv id hid => by
  refine (h.known id).2 ?_
  obtain ⟨w, hw, hwid⟩ | hknown := h.admitted v hv id hid
  · exact hs w hw id hwid
  · exact hknown

theorem peersStand_foldl {α : Type} {f : State → α → State} (hf : ∀ s a, PeersStand s (f s a)) (as : List α) (s : State) :
    PeersStand s (as.foldl f s) := by
  induction as generalizing s with
  | nil => exact .refl s
  | cons a as ih => exact (hf s a).trans (ih _)

/-! ### Reservations of the records -/

theorem mem_allReservations {s : State} {v : Reservation} : v ∈ allReservations s ↔
    (∃ r ∈ s.map, slotResv r.content = some v) ∨
      ∃ bay b, bayRecord s bay = some b ∧ ∃ k ∈ b.cradles, cradleResv k.content = some v := by
  have hbays : (∃ b, (s.trucks.bay0 = some b ∨ s.trucks.bay1 = some b) ∧ ∃ k ∈ b.cradles, cradleResv k.content = some v) ↔
      ∃ bay b, bayRecord s bay = some b ∧ ∃ k ∈ b.cradles, cradleResv k.content = some v := by
    constructor
    · rintro ⟨b, hb | hb, h⟩
      · exact ⟨0, b, hb, h⟩
      · exact ⟨1, b, hb, h⟩
    · rintro ⟨bay, b, hb, h⟩
      match bay with
      | 0 => exact ⟨b, .inl hb, h⟩
      | 1 => exact ⟨b, .inr hb, h⟩
      | _ + 2 => cases hb
  rw [← hbays]
  simp [allReservations, or_and_right, exists_or]

theorem mem_allReservations_of_resvAt {s : State} {ref : Ref} {v : Reservation} (h : resvAt s ref = some v) :
    v ∈ allReservations s := by
  rw [mem_allReservations]
  cases ref with
  | slot row column =>
    obtain ⟨r, hr, hcontent⟩ := slotAt_of_contentAt (s := s) (row := row) (column := column) rfl
      (by intro h'; simp [resvAt_slot, h', slotResv] at h)
    obtain ⟨g, i, -, -, hget⟩ := slotAt_eq_some_iff.1 hr
    exact .inl ⟨r, List.mem_of_getElem? hget, by rw [hcontent]; exact h⟩
  | cradle bay index =>
    rw [resvAt_cradle] at h
    obtain ⟨k, hk, hv⟩ := Option.bind_eq_some_iff.1 h
    obtain ⟨b, hb, hget⟩ := cradleAt_eq_some_iff.1 hk
    exact .inr ⟨bay, b, hb, k, List.mem_of_getElem? hget, hv⟩

theorem admits_of_slot {s : State} {row column : Nat} {r : SlotRecord} {v : Reservation} (hr : slotAt s row column = some r)
    (hv : slotResv r.content = some v) : Admits s v :=
  admits_of_mem (mem_allReservations_of_resvAt (ref := .slot row column) (by rw [resvAt_slot, contentAt_of_slotAt hr, hv]))

theorem admits_of_ownResvAt {s : State} {ref : Ref} {v : Reservation} (h : ownResvAt s ref = some v) : Admits s v :=
  admits_of_mem (mem_allReservations_of_resvAt (ownResvAt_eq_some_iff.1 h).1)

/-! ### Records that stand -/

/-- Ages, reports and held levels make no difference to what the table knows. -/
theorem peersStand_of_map {s t : State} {f : Entry → Entry} (hmap : t.map = s.map) (hbays : bayRecord t = bayRecord s)
    (h : t.table.entries = s.table.entries.map f) (hf : ∀ e, (f e).knownBy = e.knownBy) : PeersStand s t :=
  ⟨fun v hv => admits_of_mem (by rwa [mem_allReservations, hmap, hbays, ← mem_allReservations] at hv),
    by rw [h, List.map_map]; exact List.map_congr_left fun e _ => hf e⟩

theorem peersStand_of_keeps {bs : List Block} {s t : State} (h : Keeps bs s t)
    (hbs : ∀ b ∈ [Block.table, .map, .trucks], b ∉ bs := by simp) : PeersStand s t := by
  obtain ⟨hbay0, hbay1⟩ := h.2 .trucks (hbs _ (by simp))
  have htable : t.table = s.table := h.2 .table (hbs _ (by simp))
  exact peersStand_of_map (f := id) (h.2 .map (hbs _ (by simp))) (bayRecord_congr hbay0 hbay1) (by simp [htable]) (fun _ => rfl)

theorem peersStand_settle (s : State) : PeersStand s (settle s) := peersStand_of_keeps (keeps_settle s)

theorem peersStand_raise (n : Notice) (s : State) : PeersStand s (raise n s) := peersStand_of_keeps (keeps_raise n s)

theorem peersStand_withTracker (x : Tracker) (s : State) : PeersStand s (s.withTracker x) :=
  peersStand_of_keeps (keeps_withTracker x s)

/-- Only own reservations make a difference, and the peers that hold stand. -/
theorem peersStand_of_freedAlike {s t : State} (h : FreedAlike s t) (htable : t.table = s.table) : PeersStand s t := by
  refine ⟨fun v hv id hid => .inl ⟨v, ?_, hid⟩, by rw [htable]⟩
  have hnotOwn : ofStation v = false := by simp [ofStation, hid]
  have hkept : ∀ o : Option Reservation, o.filter (fun v => !ofStation v) = some v ↔ o = some v := fun o => by
    rw [Option.filter_eq_some_iff]; simp [hnotOwn]
  obtain ⟨hmap, hbay0, hbay1⟩ := h
  rw [mem_allReservations] at hv ⊢
  obtain ⟨r, hr, hrv⟩ | ⟨bay, b, hb, k, hk, hkv⟩ := hv
  · obtain ⟨r', hr', heq⟩ := List.mem_map.1 (hmap ▸ List.mem_map_of_mem hr)
    have hresv := congrArg (fun x : SlotRecord => slotResv x.content) heq
    simp only [SlotRecord.without, slotResv_without] at hresv
    rw [(hkept _).2 hrv, hkept] at hresv
    exact .inl ⟨r', hr', hresv⟩
  · have hbays : (bayRecord t bay).map (Truck.without ofStation) = (bayRecord s bay).map (Truck.without ofStation) := by
      match bay with
      | 0 => exact hbay0
      | 1 => exact hbay1
      | _ + 2 => rfl
    obtain ⟨b', hb', heq⟩ := Option.map_eq_some_iff.1 (hbays.symm.trans (by rw [hb]; rfl))
    have hmem : ({ k with content := k.content.without ofStation } : Cradle) ∈ (b.without ofStation).cradles :=
      List.mem_map_of_mem (f := fun k : Cradle => { k with content := k.content.without ofStation }) hk
    rw [← heq] at hmem
    obtain ⟨k', hk', heq⟩ := List.mem_map.1 hmem
    have hresv := congrArg (fun x : Cradle => cradleResv x.content) heq
    simp only [cradleResv_without] at hresv
    rw [(hkept _).2 hkv, hkept] at hresv
    exact .inr ⟨bay, b', hb', k', hk', hresv⟩

theorem Loses.peersStand {ns : List Notice} {s t : State} (h : Loses ns s t) : PeersStand s t :=
  peersStand_of_freedAlike h.freed (h.keeps.2 .table (by simp [lossBlocks]))

/-! ### Records that change -/

/-- The table stands and every reservation of the records may stand. -/
theorem peersStand_of_records {s t : State} (htable : t.table = s.table)
    (hslots : ∀ r ∈ t.map, ∀ v, slotResv r.content = some v → Admits s v)
    (hcradles : ∀ bay b, bayRecord t bay = some b → ∀ k ∈ b.cradles, ∀ v, cradleResv k.content = some v → Admits s v) :
    PeersStand s t := by
  refine ⟨fun v hv => ?_, by rw [htable]⟩
  obtain ⟨r, hr, hrv⟩ | ⟨bay, b, hb, k, hk, hkv⟩ := mem_allReservations.1 hv
  · exact hslots r hr v hrv
  · exact hcradles bay b hb k hk v hkv

theorem admits_of_mem_map {s : State} {r : SlotRecord} (hr : r ∈ s.map) {v : Reservation} (hv : slotResv r.content = some v) :
    Admits s v := admits_of_mem (mem_allReservations.2 (.inl ⟨r, hr, hv⟩))

theorem admits_of_mem_cradles {s : State} {bay : Nat} {b : Truck} (hb : bayRecord s bay = some b) {k : Cradle}
    (hk : k ∈ b.cradles) {v : Reservation} (hv : cradleResv k.content = some v) : Admits s v :=
  admits_of_mem (mem_allReservations.2 (.inr ⟨bay, b, hb, k, hk, hv⟩))

theorem peersStand_setSlot {s : State} {row column : Nat} {r : SlotRecord}
    (h : ∀ v, slotResv r.content = some v → Admits s v) : PeersStand s (setSlot row column r s) := by
  refine peersStand_of_records (by simp) (fun r' hr' v hv => ?_) (fun bay b hb k hk v hv => ?_)
  · have hmem : r' ∈ s.map ∨ r' = r := by
      unfold setSlot at hr'
      split at hr'
      · exact .inl hr'
      · split at hr'
        · exact .inl hr'
        · exact List.mem_or_eq_of_mem_set hr'
    obtain hr' | rfl := hmem
    · exact admits_of_mem_map hr' hv
    · exact h v hv
  · rw [bayRecord_congr (s := s) (by simp) (by simp)] at hb
    exact admits_of_mem_cradles hb hk hv

/-- A slot takes a content without a reservation. -/
theorem peersStand_setSlot_free {s : State} {row column : Nat} {r : SlotRecord} (h : slotResv r.content = none) :
    PeersStand s (setSlot row column r s) := peersStand_setSlot fun v hv => by simp [h] at hv

theorem peersStand_setBay {s : State} {bay : Nat} {b : Option Truck}
    (h : ∀ x ∈ b, ∀ k ∈ x.cradles, ∀ v, cradleResv k.content = some v → Admits s v) : PeersStand s (setBay bay b s) := by
  refine peersStand_of_records (by simp) (fun r hr v hv => admits_of_mem_map (by simpa using hr) hv) (fun bay' x hx k hk v hv => ?_)
  by_cases hbay : bay' = bay
  · subst hbay
    have hx' : bayRecord (setBay bay' b s) bay' = b := bayRecord_setBay_same _ _ (bay_le_of_bayRecord hx)
    exact h x (hx'.symm.trans hx) k hk v hv
  · rw [bayRecord_setBay_ne _ _ hbay] at hx
    exact admits_of_mem_cradles hx hk hv

/-- The cradles of a record with one content changed. -/
theorem mem_setCradle {b : Truck} {index : Nat} {c : CradleContent} {k : Cradle} (h : k ∈ (b.setCradle index c).cradles) :
    k ∈ b.cradles ∨ k.content = c := by
  obtain ⟨i, hi⟩ := List.mem_iff_getElem?.1 h
  rw [Truck.setCradle, List.getElem?_modify] at hi
  obtain ⟨k', hk', rfl⟩ := Option.map_eq_some_iff.1 hi
  split
  · exact .inr rfl
  · exact .inl (List.mem_of_getElem? hk')

theorem peersStand_setCradle {s : State} {bay index : Nat} {c : CradleContent}
    (h : ∀ v, cradleResv c = some v → Admits s v) : PeersStand s (setCradle bay index c s) := by
  unfold setCradle
  split
  · exact .refl s
  next b hb =>
    refine peersStand_setBay ?_
    rintro x ⟨⟩ k hk v hv
    obtain hk | hk := mem_setCradle hk
    · exact admits_of_mem_cradles hb hk hv
    · exact h v (hk ▸ hv)

theorem slotResv_mapResv (f : Reservation → Reservation) (c : SlotContent) : slotResv (c.mapResv f) = (slotResv c).map f := by
  cases c <;> rfl

theorem cradleResv_mapResv (f : Reservation → Reservation) (c : CradleContent) :
    cradleResv (c.mapResv f) = (cradleResv c).map f := by
  cases c <;> rfl

theorem bayRecord_mapCradles {s t : State} {f : CradleContent → CradleContent} (h : t.trucks = s.trucks.mapCradles f) (bay : Nat) :
    bayRecord t bay = (bayRecord s bay).map fun b =>
      { b with cradles := b.cradles.map fun k => { k with content := f k.content } } := by
  match bay with
  | 0 | 1 => simp only [bayRecord, h, TruckUnit.mapCradles]
  | _ + 2 => rfl

/-- Every record changed by one function each for slots and cradles, that lets no reservation come from anywhere. -/
theorem peersStand_of_mapped {s t : State} {f : SlotRecord → SlotRecord} {g : CradleContent → CradleContent}
    (htable : t.table = s.table) (hmap : t.map = s.map.map f) (htrucks : t.trucks = s.trucks.mapCradles g)
    (hf : ∀ r v, slotResv (f r).content = some v → ∃ w, slotResv r.content = some w ∧ v.holder = w.holder)
    (hg : ∀ c v, cradleResv (g c) = some v → ∃ w, cradleResv c = some w ∧ v.holder = w.holder) : PeersStand s t := by
  refine peersStand_of_records htable (fun r hr v hv => ?_) (fun bay b hb k hk v hv => ?_)
  · rw [hmap] at hr
    obtain ⟨r', hr', rfl⟩ := List.mem_map.1 hr
    obtain ⟨w, hw, hholder⟩ := hf r' v hv
    exact (admits_of_mem_map hr' hw).of_holder hholder
  · rw [bayRecord_mapCradles htrucks] at hb
    obtain ⟨b', hb', rfl⟩ := Option.map_eq_some_iff.1 hb
    obtain ⟨k', hk', rfl⟩ := List.mem_map.1 hk
    obtain ⟨w, hw, hholder⟩ := hg k'.content v hv
    exact (admits_of_mem_cradles hb' hk' hw).of_holder hholder

theorem peersStand_mapReservations {f : Reservation → Reservation} (hf : ∀ v, (f v).holder = v.holder) (s : State) :
    PeersStand s (mapReservations f s) := by
  have hmapped {o : Option Reservation} {v : Reservation} (h : o.map f = some v) : ∃ w, o = some w ∧ v.holder = w.holder := by
    obtain ⟨w, hw, rfl⟩ := Option.map_eq_some_iff.1 h
    exact ⟨w, hw, hf w⟩
  exact peersStand_of_mapped (f := fun r => { r with content := r.content.mapResv f }) rfl rfl rfl
    (fun r v hv => hmapped (by rwa [slotResv_mapResv] at hv)) (fun c v hv => hmapped (by rwa [cradleResv_mapResv] at hv))

theorem peersStand_releaseWhere (p : Reservation → Bool) (source : ChangeSource) (s : State) :
    PeersStand s (releaseWhere p source s) := by
  have hkept {o : Option Reservation} {v : Reservation} (h : (o.filter fun v => !p v) = some v) :
      ∃ w, o = some w ∧ v.holder = w.holder := ⟨v, (Option.filter_eq_some_iff.1 h).1, rfl⟩
  exact peersStand_of_mapped rfl rfl rfl (fun r v hv => hkept (by rwa [slotResv_releaseIf] at hv))
    (fun c v hv => hkept (by rwa [cradleResv_releaseIf] at hv))

theorem peersStand_releaseRef (p : Reservation → Bool) (source : ChangeSource) (ref : Ref) (s : State) :
    PeersStand s (releaseRef p source ref s) := by
  unfold releaseRef
  split <;> split
  · exact .refl s
  next hr =>
    refine peersStand_setSlot fun v hv => ?_
    rw [slotResv_releaseIf] at hv
    exact admits_of_slot hr (Option.filter_eq_some_iff.1 hv).1
  · exact .refl s
  next hk =>
    refine peersStand_setCradle fun v hv => ?_
    rw [cradleResv_releaseIf] at hv
    obtain ⟨b, hb, hget⟩ := cradleAt_eq_some_iff.1 hk
    exact admits_of_mem_cradles hb (List.mem_of_getElem? hget) (Option.filter_eq_some_iff.1 hv).1

/-- A reservation changed in place may stand where the new one may. -/
theorem peersStand_updateResv {f : Reservation → Reservation} {ref : Ref} {s : State}
    (hf : ∀ v, resvAt s ref = some v → Admits s (f v)) : PeersStand s (updateResv f ref s) := by
  unfold updateResv
  split <;> split
  · exact .refl s
  next hr =>
    refine peersStand_setSlot fun v hv => ?_
    rw [slotResv_mapResv] at hv
    obtain ⟨w, hw, rfl⟩ := Option.map_eq_some_iff.1 hv
    exact hf w (by rw [resvAt_slot, contentAt_of_slotAt hr, hw])
  · exact .refl s
  next hk =>
    refine peersStand_setCradle fun v hv => ?_
    rw [cradleResv_mapResv] at hv
    obtain ⟨w, hw, rfl⟩ := Option.map_eq_some_iff.1 hv
    exact hf w (by simp [resvAt_cradle, hk, hw])

/-- A reservation made may stand. -/
theorem peersStand_reserveRef {v : Reservation} {s : State} (h : Admits s v) (dir : ClaimDir) (source : ChangeSource) (ref : Ref) :
    PeersStand s (reserveRef dir v source ref s) := by
  have hmade (c : SlotContent) (hc : slotResv c = some v) (row column : Nat) :
      PeersStand s (setSlot row column { content := c, source := source } s) :=
    peersStand_setSlot fun w hw => by obtain rfl := Option.some.inj (hc.symm.trans hw); exact h
  unfold reserveRef
  split
  · split
    · exact hmade _ rfl ..
    · exact hmade _ rfl ..
    · exact .refl s
  · split
    · split
      · exact peersStand_setCradle fun w hw => by obtain rfl := Option.some.inj hw; exact h
      · exact .refl s
    · exact .refl s

end Sys2Proof.Machine
end

section
/-! PROOFS. The reservations of peers through the operations of the records, the bookings and the rounds. -/

namespace Sys2Proof.Machine

/-! ### Slots and cradles that change (R106, R113, R116 to R124, R181, R186 to R189) -/

theorem lossNotices_subset : lossNotices ⊆ lossNotices := List.Subset.refl _

theorem peersStand_ownRemoved (ref : Ref) (v : Reservation) (s : State) : PeersStand s (ownRemoved ref v s) :=
  (loses_ownRemoved lossNotices_subset ref v s).peersStand

theorem peersStand_enterTerminal (st : TaskState) (reason : Option Reason) (notice : Notice) (s : State) :
    PeersStand s (enterTerminal st reason notice s) :=
  (loses_enterTerminal (ns := [notice]) (by simp) st reason s).peersStand

theorem peersStand_dropFromRound (ref : Ref) (s : State) : PeersStand s (dropFromRound ref s) :=
  peersStand_of_keeps (keeps_dropFromRound ref s)

theorem peersStand_releaseTarget (s : State) : PeersStand s (releaseTarget s) :=
  (loses_releaseTarget (ns := []) s).peersStand

theorem peersStand_abandonRound (s : State) : PeersStand s (abandonRound s) :=
  (loses_abandonRound (ns := []) s).peersStand

theorem peersStand_updateTask (f : Task → Task) (s : State) : PeersStand s (updateTask f s) := peersStand_withTracker _ s

theorem peersStand_makeDisputed (source : ChangeSource) (row column : Nat) (s : State) :
    PeersStand s (makeDisputed source row column s) := by
  unfold makeDisputed
  split
  · exact .refl s
  · split
    · exact .refl s
    · have hset : PeersStand s (raise .disputed (setSlot row column { content := .disputed, source := source } s)) :=
        (peersStand_setSlot_free rfl).trans (peersStand_raise ..)
      dsimp only
      split
      · exact hset
      · split
        · exact hset.trans (peersStand_ownRemoved ..)
        · exact hset

theorem peersStand_searchCoil (coil : CoilId) (except : Option (Nat × Nat)) (source : ChangeSource) (s : State) :
    PeersStand s (searchCoil coil except source s) :=
  peersStand_foldl (fun s p => by
    split
    · exact .refl s
    · exact peersStand_makeDisputed ..) _ s

theorem peersStand_checkUpper (row column : Nat) (s : State) : PeersStand s (checkUpper row column s) := by
  unfold checkUpper
  split
  · split
    · exact (peersStand_setSlot_free rfl).trans (peersStand_ownRemoved ..)
    · exact .refl s
  · exact .refl s

theorem peersStand_checkUndermined (before : State) (named : Ref) (s : State) :
    PeersStand s (checkUndermined before named s) := by
  unfold checkUndermined
  exact peersStand_foldl (fun s p => peersStand_checkUpper ..) _ s

theorem peersStand_takeOutSlot {row column : Nat} {v : Reservation} {s : State} (h : Admits s v) :
    PeersStand s (takeOutSlot row column v s) := by
  unfold takeOutSlot
  split
  · exact (((peersStand_setSlot_free rfl).trans (peersStand_raise ..)).trans (peersStand_dropFromRound ..)).trans
      (peersStand_of_keeps (keeps_askRelease ..))
  · exact peersStand_setSlot fun w hw => by obtain rfl := Option.some.inj hw; exact h

theorem peersStand_putInSlot (row column : Nat) (c : CoilInfo) (s : State) : PeersStand s (putInSlot row column c s) := by
  unfold putInSlot
  split
  · exact (peersStand_setSlot_free rfl).trans (peersStand_dropFromRound ..)
  · exact peersStand_setSlot_free rfl
  · exact peersStand_makeDisputed ..

theorem peersStand_placeInCradle (bay index : Nat) (coil : CoilId) (weight : Nat) (placer : Holder) (s : State) :
    PeersStand s (placeInCradle bay index coil weight placer s) := by
  unfold placeInCradle
  split
  next b k hb hk =>
    have hset : PeersStand s (setBay bay (some (b.place index k.offset coil weight placer)) s) := by
      refine peersStand_setBay ?_
      rintro x ⟨⟩ k' hk' v hv
      obtain hk' | hk' := mem_setCradle (b := b) (index := index) (c := .occupied coil weight placer) hk'
      · exact admits_of_mem_cradles hb hk' hv
      · simp [hk', cradleResv] at hv
    dsimp only
    split
    · exact hset.trans (peersStand_raise ..)
    · exact hset
  · exact .refl s

theorem peersStand_ownPlacement (bay index : Nat) (coil : CoilId) (weight : Nat) (s : State) :
    PeersStand s (ownPlacement bay index coil weight s) := by
  have hplaced := peersStand_placeInCradle bay index coil weight .own s
  unfold ownPlacement
  split
  · exact peersStand_raise ..
  · split
    · exact peersStand_raise ..
    · exact hplaced.trans (peersStand_raise ..)
    · split
      · exact hplaced.trans (peersStand_dropFromRound ..)
      · exact hplaced.trans (peersStand_raise ..)

theorem peersStand_peerPlacement (p bay index : Nat) (coil : CoilId) (weight : Nat) (s : State) :
    PeersStand s (peerPlacement p bay index coil weight s) := by
  unfold peerPlacement
  split
  · exact peersStand_raise ..
  · refine .trans ?_ (peersStand_placeInCradle ..)
    split
    · exact .refl s
    · exact (peersStand_setCradle fun _ hv => by simp [cradleResv] at hv).trans (peersStand_ownRemoved ..)

theorem cradleResv_release (c : CradleContent) : cradleResv c.release = none := by cases c <;> rfl

theorem peersStand_removeBayReservations (bay : Nat) (s : State) : PeersStand s (removeBayReservations bay s) := by
  unfold removeBayReservations
  refine .trans ?_ (peersStand_foldl (fun s p => peersStand_ownRemoved ..) _ _)
  split
  · exact .refl s
  · refine peersStand_setBay ?_
    rintro x ⟨⟩ k hk v hv
    obtain ⟨k', -, rfl⟩ := List.mem_map.1 hk
    simp [cradleResv_release] at hv

/-! ### Bookings and the events of the load (R154 to R164) -/

theorem peersStand_queueBook (f : BookFrame) (s : State) : PeersStand s (queueBook f s) := peersStand_of_keeps (keeps_queueBook f s)

theorem peersStand_takeOutRecords {k : Task} {v : Reservation} {s : State} (h : Admits s v) :
    PeersStand s (takeOutRecords k v s) :=
  ((peersStand_queueBook _ s).trans (peersStand_takeOutSlot h)).trans (peersStand_withTracker ..)

theorem peersStand_sourceLost (s : State) : PeersStand s (sourceLost s) :=
  ((peersStand_withTracker _ s).trans (peersStand_raise ..)).trans (peersStand_enterTerminal ..)

theorem peersStand_takeOut (k : Task) (s : State) : PeersStand s (takeOut k s) := by
  unfold takeOut
  split
  next hv _ =>
    exact (peersStand_takeOutRecords (admits_of_ownResvAt hv)).trans (peersStand_of_keeps (afterTakeOut_spec k _).1)
  · exact peersStand_sourceLost s

theorem peersStand_cancelTakeOut (k : Task) (s : State) : PeersStand s (cancelTakeOut k s) := by
  unfold cancelTakeOut
  split
  next hv _ =>
    exact ((peersStand_takeOutRecords (admits_of_ownResvAt hv)).trans (peersStand_releaseTarget _)).trans
      (peersStand_updateTask ..)
  · exact (peersStand_updateTask _ s).trans (peersStand_sourceLost _)

theorem peersStand_putIn (k : Task) (s : State) : PeersStand s (putIn k s) := by
  unfold putIn
  split
  · exact .refl s
  next ref _ =>
    have hput (u : State) : PeersStand u (putInAt k ref u) := by
      cases ref with
      | slot row column => exact peersStand_putInSlot ..
      | cradle bay index => exact peersStand_ownPlacement ..
    exact ((peersStand_queueBook _ s).trans (hput _)).trans (peersStand_enterTerminal ..)

theorem peersStand_returnIn (k : Task) (s : State) : PeersStand s (returnIn k s) :=
  ((peersStand_queueBook _ s).trans (peersStand_putInSlot ..)).trans (peersStand_enterTerminal ..)

theorem peersStand_bookTakeOut (k : Task) (s : State) : PeersStand s (bookTakeOut k s) := by
  unfold bookTakeOut
  split
  · exact peersStand_updateTask ..
  · exact peersStand_takeOut k s

theorem peersStand_bookPutIn (k : Task) (s : State) : PeersStand s (bookPutIn k s) := by
  unfold bookPutIn
  split
  · exact peersStand_updateTask ..
  · exact peersStand_putIn k s

theorem peersStand_startReturn (k : Task) (s : State) : PeersStand s (startReturn k s) := by
  have hfreed : PeersStand s (if k.state = .retargeting then abandonRound s else releaseTarget s) := by
    split
    · exact peersStand_abandonRound s
    · exact peersStand_releaseTarget s
  have hbooked (u : State) : PeersStand u (if bookFull u then
      updateTask (fun t => { t with state := .placePending, waiting := some .returnIn }) u else returnIn k u) := by
    split
    · exact peersStand_updateTask ..
    · exact peersStand_returnIn ..
  exact (hfreed.trans (peersStand_updateTask (fun t => { t with target := none }) _)).trans (hbooked _)

theorem peersStand_resumeBooking (s : State) : PeersStand s (resumeBooking s) := by
  unfold resumeBooking
  split
  · exact .refl s
  · split
    · exact .refl s
    · split
      · exact .refl s
      · exact peersStand_takeOut ..
      · exact peersStand_putIn ..
      · exact peersStand_returnIn ..

theorem peersStand_wrongLift (reason : Reason) (n : Nat) (s : State) : PeersStand s (wrongLift reason n s) :=
  ((peersStand_updateTask _ s).trans (peersStand_of_keeps (liftUnknown_spec n _).1)).trans (peersStand_enterTerminal ..)

theorem peersStand_liftAtSource (mode : BookMode) (n : Nat) (s : State) : PeersStand s (liftAtSource mode n s) := by
  have hlifted : PeersStand s (setHook (some { coil := none, weight := n, width := none, origin := .task })
      (updateTask (fun t => { t with measured := some n }) s)) := (peersStand_updateTask _ s).trans (peersStand_withTracker ..)
  unfold liftAtSource
  dsimp only
  split
  · exact hlifted.trans (peersStand_bookTakeOut ..)
  · exact hlifted.trans ((peersStand_updateTask ..).trans (peersStand_raise ..))
  · exact hlifted

theorem peersStand_onLift (n : Nat) (s : State) : PeersStand s (onLift n s) := by
  have hunknown : PeersStand s (liftUnknown n s) := peersStand_of_keeps (liftUnknown_spec n s).1
  unfold onLift
  split
  · exact hunknown
  next k _ =>
    cases k.state with
    | done | cancelled | claimLost | aborted => exact hunknown
    | claiming => exact (peersStand_abandonRound s).trans (peersStand_wrongLift ..)
    | toSource =>
      dsimp only
      split
      · exact peersStand_liftAtSource ..
      · exact peersStand_wrongLift ..
    | placePending =>
      dsimp only
      split
      · exact (peersStand_withTracker _ s).trans (peersStand_updateTask ..)
      · exact peersStand_wrongLift ..
    | liftPending | verifyHold | toTarget | targetLost | retargeting | returning => exact .refl s

theorem peersStand_wrongSetDown (k : Task) (s : State) : PeersStand s (wrongSetDown k s) := by
  unfold wrongSetDown
  refine .trans ?_ (peersStand_enterTerminal ..)
  split
  · exact peersStand_abandonRound s
  · exact .refl s

theorem peersStand_setDownAtTarget (mode : BookMode) (k : Task) (s : State) : PeersStand s (setDownAtTarget mode k s) := by
  cases mode with
  | auto => exact peersStand_bookPutIn k s
  | manual => exact (peersStand_updateTask _ s).trans (peersStand_raise ..)

theorem peersStand_onSetDown (s : State) : PeersStand s (onSetDown s) := by
  unfold onSetDown
  refine .trans (t := setHook none s) (peersStand_withTracker ..) ?_
  dsimp only
  generalize setHook none s = u
  have hunknown : PeersStand u (if s.tracker.hook.map Hook.origin = some .unknown then raise .hookUnknown u else u) := by
    split
    · exact peersStand_raise ..
    · exact .refl u
  have hundone (k : Task) : PeersStand u (if hookOver u k.source then undoLift u else wrongSetDown k u) := by
    split
    · exact peersStand_updateTask ..
    · exact peersStand_wrongSetDown ..
  have hreturned (k : Task) : PeersStand u (if hookOver u k.source then startReturn k u else wrongSetDown k u) := by
    split
    · exact peersStand_startReturn ..
    · exact peersStand_wrongSetDown ..
  split
  · exact hunknown
  next k _ =>
    cases k.state with
    | done | cancelled | claimLost | aborted => exact hunknown
    | toSource =>
      dsimp only
      split
      · exact hundone k
      · exact .refl u
    | liftPending => exact hundone k
    | verifyHold | targetLost | retargeting | returning => exact hreturned k
    | toTarget =>
      dsimp only
      split
      · exact peersStand_setDownAtTarget ..
      · exact hreturned k
    | claiming | placePending => exact .refl u

theorem peersStand_weighingCycle (coarseA fineA coarseB fineB : Int) (s : State) :
    PeersStand s (weighingCycle coarseA fineA coarseB fineB s) := by
  obtain ⟨hkeeps, -⟩ := cycleMeasured_spec coarseA fineA coarseB fineB s
  rw [weighingCycle_eq]
  refine (peersStand_of_keeps hkeeps).trans ?_
  unfold handLoadEvent
  split
  · exact peersStand_onLift ..
  · exact peersStand_onSetDown _
  · exact .refl _

/-! ### Rounds (R133 to R147) -/

theorem loses_lateObjection (cause : Reason) (ref : Ref) (s : State) : Loses lossNotices s (lateObjection cause ref s) := by
  unfold lateObjection
  split
  · exact .refl s
  · split
    · split
      · exact (loses_releaseAllOwn ..).trans (loses_tellClaimLost lossNotices_subset ..)
      · exact .refl s
    · split
      · split
        · exact (loses_releaseOwn ..).trans (loses_tellTargetLost lossNotices_subset _)
        · exact .refl s
      · exact .refl s

theorem peersStand_withClaims (c : ClaimEngine) (s : State) : PeersStand s (s.withClaims c) :=
  peersStand_of_keeps (keeps_withLink_withClaims (l := s.link) (c := c) s)

theorem peersStand_holdRound (n : Nat) (s : State) : PeersStand s (holdRound n s) :=
  peersStand_mapReservations (fun v => by split <;> rfl) s

theorem peersStand_failReassert (r : Round) (s : State) : PeersStand s (failReassert r s) := by
  have hwithdrawn : PeersStand s (match r.stage with
      | .queued => withdrawClaim { round := r.number, refs := [] } s
      | .opened => s) := by
    split
    · exact peersStand_of_keeps (keeps_withdrawClaim ..)
    · exact .refl s
  unfold failReassert
  refine ((hwithdrawn.trans (peersStand_foldl (fun s e => ?_) r.entries _)).trans (peersStand_withClaims ..)).trans
    (peersStand_holdRound ..)
  split
  · exact .refl s
  · split
    · exact (loses_lateObjection ..).peersStand
    · exact .refl s

theorem peersStand_loseRound (cause : Reason) (s : State) : PeersStand s (loseRound cause s) :=
  (loses_loseRound lossNotices_subset cause s).peersStand

theorem peersStand_linkDown (s : State) : PeersStand s (linkDown s) := by
  unfold linkDown
  split
  · exact .refl s
  · split
    · exact .refl s
    · split
      · exact peersStand_failReassert ..
      · exact peersStand_loseRound ..

theorem peersStand_expireWindow (s : State) : PeersStand s (expireWindow s) := by
  have htold (p : Purpose) (s : State) : PeersStand s (tellHeld p s) := by
    cases p with
    | start | retarget => exact peersStand_updateTask ..
    | reassert => exact .refl s
  unfold expireWindow windowExpired
  split
  · exact .refl s
  · split
    · split
      · exact (((peersStand_withClaims _ s).trans (peersStand_holdRound ..)).trans (peersStand_raise ..)).trans (htold ..)
      · split
        · exact peersStand_failReassert ..
        · exact peersStand_loseRound ..
    · exact .refl s

theorem keeps_queueRound (purpose : Purpose) (priority : Nat) (entries : List ClaimEntry) (s : State) :
    Keeps [.link, .claims] s (queueRound purpose priority entries s) :=
  ⟨rfl, fun b hb => by cases b <;> simp_all [SameBlock, queueRound]⟩

theorem peersStand_startRound (purpose : Purpose) (priority : Nat) (entries : List ClaimEntry) (s : State) :
    PeersStand s (startRound purpose priority entries s) :=
  (peersStand_foldl (fun _ _ => peersStand_reserveRef (admits_own rfl) ..) entries s).trans
    (peersStand_of_keeps (keeps_queueRound ..))

theorem peersStand_reassert (s : State) : PeersStand s (reassert s) := by
  unfold reassert
  dsimp only
  split
  · exact .refl s
  · exact ((peersStand_mapReservations (fun v => by split <;> rfl) s).trans (peersStand_of_keeps (keeps_queueRound ..))).trans
      (peersStand_updateTask ..)

end Sys2Proof.Machine
end

section
/-! PROOFS. The reservations of peers through the link: frames sent and received, beats, JOIN and LEAVE, and a peer's CLAIM taken. -/

namespace Sys2Proof.Machine

/-! ### The link (R41, R50 to R58) -/

theorem keeps_updateLink (f : Link → Link) (s : State) : Keeps [.link] s (updateLink f s) :=
  ⟨rfl, fun b hb => by cases b <;> simp_all [SameBlock, updateLink]⟩

theorem peersStand_updateLink (f : Link → Link) (s : State) : PeersStand s (updateLink f s) :=
  peersStand_of_keeps (keeps_updateLink f s)

theorem keeps_endAttempt (s : State) : Keeps [.link] s (endAttempt s) :=
  ⟨by simp, fun b hb => by cases b <;> simp_all [SameBlock]⟩

theorem keeps_countReceiveError (s : State) : Keeps [.link] s (countReceiveError s) := by
  unfold countReceiveError
  split
  · exact keeps_refl ..
  · dsimp only
    split
    · exact (keeps_updateLink ..).andThen (keeps_raise ..)
    · exact keeps_updateLink ..

theorem keeps_setBoxes (b : Mailboxes) (s : State) : Keeps [.link] s (setBoxes b s) :=
  ⟨rfl, fun x hx => by cases x <;> simp_all [SameBlock, setBoxes]⟩

theorem keeps_askObject (f : ObjectFrame) (s : State) : Keeps [.link] s (askObject f s) :=
  ⟨by simp, fun b hb => by cases b <;> simp_all [SameBlock]⟩

theorem peersStand_enterMuted (s : State) : PeersStand s (enterMuted s) :=
  (((peersStand_raise _ s).trans (peersStand_updateLink ..)).trans (peersStand_updateLink ..)).trans (peersStand_linkDown _)

theorem peersStand_enterIdclash (s : State) : PeersStand s (enterIdclash s) :=
  (((peersStand_raise _ s).trans (peersStand_updateLink ..)).trans (peersStand_updateLink ..)).trans (peersStand_linkDown _)

theorem peersStand_enterConfig (s : State) : PeersStand s (enterConfig s) :=
  ((peersStand_updateLink _ s).trans (peersStand_updateLink ..)).trans (peersStand_linkDown _)

theorem peersStand_enterHalted (s : State) : PeersStand s (enterHalted s) :=
  ((peersStand_updateLink _ s).trans (peersStand_updateLink ..)).trans (peersStand_linkDown _)

theorem peersStand_startListen (s : State) : PeersStand s (startListen s) :=
  ((peersStand_updateLink _ s).trans (peersStand_updateLink ..)).trans (peersStand_linkDown _)

theorem peersStand_transmitError (s : State) : PeersStand s (transmitError s) := by
  have hended : PeersStand s (endAttempt (updateLink (fun l => { l with txErr := min 96 (l.txErr + 8) }) s)) :=
    (peersStand_updateLink _ s).trans (peersStand_of_keeps (keeps_endAttempt _))
  unfold transmitError
  dsimp only
  split
  · exact hended.trans (peersStand_enterMuted _)
  · exact hended

theorem peersStand_lineFaultBegins (receiving : Bool) (s : State) : PeersStand s (lineFaultBegins receiving s) := by
  unfold lineFaultBegins
  split
  · exact peersStand_transmitError s
  · split
    · exact (peersStand_updateLink _ s).trans (peersStand_of_keeps (keeps_countReceiveError _))
    · exact .refl s

theorem peersStand_frameStart (s : State) : PeersStand s (frameStart s) := by
  unfold frameStart
  split
  · split
    · exact .refl s
    · exact peersStand_updateLink ..
  · exact .refl s

theorem peersStand_arbitrationLost (s : State) : PeersStand s (arbitrationLost s) := by
  unfold arbitrationLost
  split
  · exact (peersStand_of_keeps (keeps_endAttempt s)).trans (peersStand_updateLink ..)
  · exact .refl s

theorem peersStand_frameSent (s : State) : PeersStand s (frameSent s) := by
  have hafter (m : Mailbox) (farewell : Bool) (u : State) : PeersStand u (afterSent m farewell u) := by
    cases m with
    | claim =>
      simp only [afterSent, claimSent]
      split
      · exact (peersStand_updateLink ..).trans (peersStand_of_keeps (keeps_askRelease ..))
      · exact peersStand_withClaims ..
    | status =>
      simp only [afterSent]
      split
      · exact peersStand_enterHalted u
      · exact .refl u
    | object | release | book | truck => exact .refl u
  unfold frameSent
  split
  · exact .refl s
  · exact (peersStand_updateLink _ s).trans (hafter ..)

theorem peersStand_ownIdentifierSeen (s : State) : PeersStand s (ownIdentifierSeen s) := by
  unfold ownIdentifierSeen
  split
  · exact peersStand_enterIdclash s
  · exact peersStand_enterIdclash s
  all_goals exact .refl s

theorem peersStand_composeStatus (farewell : Bool) (s : State) : PeersStand s (composeStatus farewell s) :=
  peersStand_of_keeps (keeps_setBoxes _ s)

theorem peersStand_enterActive (s : State) : PeersStand s (enterActive s) := by
  have hjoined : PeersStand s (composeStatus false (raise .joined (enterLinkState .active false s))) :=
    ((peersStand_updateLink _ s).trans (peersStand_raise ..)).trans (peersStand_composeStatus ..)
  unfold enterActive
  dsimp only
  split
  · exact hjoined.trans (peersStand_reassert _)
  · exact hjoined

/-- R51, R59, R204: the start of the next beat. -/
def beatStarted (s : State) : State :=
  updateLink (fun l => { l with rxErr := 0, beatElapsed := 0, beatPeriod := s.cfg.beat }) s

/-- A beat expiry counted in LISTEN or MUTED. -/
def beatCounted (s : State) : State := updateLink (fun l => { l with beats := l.beats + 1 }) (beatStarted s)

section
variable {s : State}

theorem beatExpiry_of_quiet (h : s.link.state = .config ∨ s.link.state = .halted ∨ s.link.state = .idclash) :
    beatExpiry s = beatStarted s := by
  obtain h | h | h := h <;> simp [beatExpiry, beatStarted, updateLink, h]

theorem beatExpiry_of_active (h : s.link.state = .active) : beatExpiry s = beatStatus (beatStarted s) := by
  simp [beatExpiry, beatStarted, updateLink, h]

theorem beatExpiry_of_listen (h : s.link.state = .listen) :
    beatExpiry s = if s.link.beats + 1 < 10 then beatCounted s else enterActive (beatStarted s) := by
  by_cases hb : s.link.beats + 1 < 10
  · simp [beatExpiry, beatCounted, beatStarted, updateLink, h, hb, Nat.not_le.2 hb]
  · simp [beatExpiry, beatStarted, updateLink, h, hb, Nat.not_lt.1 hb]

theorem beatExpiry_of_muted (h : s.link.state = .muted) :
    beatExpiry s = if s.link.beats + 1 < 20 then beatCounted s else linkDown (endMuted (beatStarted s)) := by
  by_cases hb : s.link.beats + 1 < 20
  · simp [beatExpiry, beatCounted, beatStarted, updateLink, h, hb, Nat.not_le.2 hb]
  · simp [beatExpiry, beatStarted, updateLink, h, hb, Nat.not_lt.1 hb]

end

theorem peersStand_beatStatus (s : State) : PeersStand s (beatStatus s) := by
  unfold beatStatus
  split
  · exact .refl s
  · split
    · exact peersStand_updateLink ..
    · exact peersStand_composeStatus ..

theorem peersStand_beatExpiry (s : State) : PeersStand s (beatExpiry s) := by
  have hstarted : PeersStand s (beatStarted s) := peersStand_updateLink _ s
  have hcounted : PeersStand s (beatCounted s) := hstarted.trans (peersStand_updateLink ..)
  cases h : s.link.state with
  | config => rwa [beatExpiry_of_quiet (.inl h)]
  | halted => rwa [beatExpiry_of_quiet (.inr (.inl h))]
  | idclash => rwa [beatExpiry_of_quiet (.inr (.inr h))]
  | active =>
    rw [beatExpiry_of_active h]
    exact hstarted.trans (peersStand_beatStatus _)
  | listen =>
    rw [beatExpiry_of_listen h]
    split
    · exact hcounted
    · exact hstarted.trans (peersStand_enterActive _)
  | muted =>
    rw [beatExpiry_of_muted h]
    split
    · exact hcounted
    · exact ((hstarted.trans (peersStand_updateLink ..)).trans (peersStand_updateLink ..)).trans (peersStand_linkDown _)

theorem peersStand_composeDeferred (s : State) : PeersStand s (composeDeferred s) := by
  unfold composeDeferred
  split
  · dsimp only
    split
    · exact (peersStand_updateLink _ s).trans (peersStand_composeStatus ..)
    · exact peersStand_updateLink ..
  · exact .refl s

theorem peersStand_putHeld (fs : List ReleaseFrame) (s : State) : PeersStand s (putHeld fs s) := by
  induction fs generalizing s with
  | nil => exact peersStand_withClaims ..
  | cons f fs ih =>
    unfold putHeld
    split
    next hput =>
      obtain ⟨b, rfl⟩ := putRelease_some hput
      exact (peersStand_of_keeps (keeps_setBoxes ..)).trans (ih _)
    · exact peersStand_withClaims ..

/-! ### Frames of peers (R117 to R124, R138 to R144, R180 to R185, R189) -/

theorem peersStand_recordClaim {sender : Nat} {s : State} (h : PeerKnown s sender) (round priority : Nat) (e : ClaimEntry) :
    PeersStand s (recordClaim sender round priority e s) := by
  have hknown : Admits s (peerReservation sender round priority s) := admits_of_known rfl h
  unfold recordClaim
  dsimp only
  split
  · split
    · exact peersStand_updateResv fun _ _ => hknown
    · exact .refl s
  · split
    · exact peersStand_reserveRef hknown ..
    · exact .refl s

theorem peersStand_recordClaims {sender : Nat} {s : State} (h : PeerKnown s sender) (round priority : Nat)
    (entries : List ClaimEntry) :
    PeersStand s (entries.foldl (fun s e => recordClaim sender round priority e s) s) := by
  induction entries generalizing s with
  | nil => exact .refl s
  | cons e entries ih =>
    have hfirst := peersStand_recordClaim h round priority e
    exact hfirst.trans (ih ((hfirst.known sender).2 h))

theorem peersStand_meetOwns (sender round priority : Nat) (entries : List ClaimEntry) (s : State) :
    PeersStand s (meetOwns sender round priority entries s) := by
  have hobject (ref : Ref) (s : State) : PeersStand s (objectTo sender round ref s) := peersStand_of_keeps (keeps_askObject ..)
  refine peersStand_foldl (fun s e => ?_) entries s
  split
  · exact .refl s
  · unfold meetOwn outranked
    split
    · exact hobject ..
    · split
      · exact .refl s
      · split
        · split
          · split
            · exact (loses_lateObjection ..).peersStand
            · exact peersStand_loseRound ..
          · exact hobject ..
        · exact .refl s

theorem peersStand_takeClaim {sender : Nat} {s : State} (h : senderForeign s sender = false) (round priority : Nat)
    (entries : List ClaimEntry) : PeersStand s (takeClaim sender round priority entries s) := by
  have hmet := peersStand_meetOwns sender round priority entries s
  unfold takeClaim
  dsimp only
  split
  next hmay => exact hmet.trans (peersStand_recordClaims (peerKnown_of_mayReserve hmay (hmet.senderForeign sender ▸ h)) ..)
  · exact hmet

theorem peersStand_takeObject (n : Nat) (ref : Ref) (s : State) : PeersStand s (takeObject n ref s) := by
  have hlate : PeersStand s (lateObject n ref s) := by
    unfold lateObject
    split
    · exact .refl s
    · split
      · exact (loses_lateObjection ..).peersStand
      · exact .refl s
  unfold takeObject
  split
  · exact hlate
  · split
    · split
      · exact (loses_lateObjection ..).peersStand
      · exact peersStand_loseRound ..
    · exact hlate

theorem peersStand_takeRelease (p n : Nat) (refs : List Ref) (s : State) : PeersStand s (takeRelease p n refs s) :=
  peersStand_foldl (fun _ _ => peersStand_releaseRef ..) refs s

theorem peersStand_holdPeer (ref : Ref) (s : State) : PeersStand s (holdPeer ref s) := by
  unfold holdPeer
  split
  · exact .refl s
  · split
    · exact peersStand_updateResv fun v hv => (admits_of_mem (mem_allReservations_of_resvAt hv)).of_holder rfl
    · exact .refl s

end Sys2Proof.Machine
end

section
/-! PROOFS. The reservations of peers through the map, the task, the trucks, the configuration and the rows of a millisecond. -/

namespace Sys2Proof.Machine

theorem peersStand_pickSlot {p : Nat} {s : State} (hforeign : senderForeign s p = false) {row column : Nat} {r : SlotRecord}
    (hr : slotAt s row column = some r) (n : Nat) (coil : CoilId) : PeersStand s (pickSlot p n row column coil r s) := by
  have hreserved {c : SlotContent} {source : ChangeSource} {v w : Reservation} (hc : slotResv c = some v) (hw : Admits s w)
      (hv : v.holder = w.holder) : PeersStand s (setSlot row column { content := c, source := source } s) :=
    peersStand_setSlot fun x hx => by obtain rfl := Option.some.inj (hc.symm.trans hx); exact hw.of_holder hv
  unfold pickSlot
  split
  next v hc =>
    split
    · exact hreserved rfl (admits_of_slot (v := v) hr (by rw [hc]; rfl)) rfl
    · exact peersStand_makeDisputed ..
  next v hc =>
    split
    · exact hreserved rfl (admits_of_slot (v := v) hr (by rw [hc]; rfl)) rfl
    · exact peersStand_makeDisputed ..
  next =>
    split
    next h => exact hreserved rfl (admits_of_known rfl (peerKnown_of_mayReserve h.2 hforeign)) rfl
    · exact peersStand_setSlot_free rfl
  · exact peersStand_setSlot_free rfl
  all_goals exact .refl s

theorem peersStand_takePicked {p : Nat} {s : State} (hforeign : senderForeign s p = false) (n : Nat) (ref : Ref) (coil : CoilId) :
    PeersStand s (takePicked p n ref coil s) := by
  unfold takePicked
  split
  · exact .refl s
  next row column =>
    refine .trans (t := applyPicked p n row column coil s) ?_ (peersStand_checkUndermined ..)
    unfold applyPicked
    split
    · exact peersStand_searchCoil ..
    next hr =>
      split
      · split
        · exact peersStand_raise ..
        · exact peersStand_makeDisputed ..
      · refine .trans ?_ (peersStand_searchCoil ..)
        split
        · exact peersStand_makeDisputed ..
        · exact peersStand_pickSlot hforeign hr ..

theorem peersStand_takePlaced (p n : Nat) (ref : Ref) (c : CoilInfo) (s : State) : PeersStand s (takePlaced p n ref c s) := by
  have hslot (row column : Nat) (u : State) : PeersStand u (applyPlacedSlot p row column c u) := by
    unfold applyPlacedSlot
    split
    · exact peersStand_searchCoil ..
    · split
      · exact peersStand_makeDisputed ..
      · exact (peersStand_setSlot_free rfl).trans (peersStand_searchCoil ..)
  have hplaced (u : State) : PeersStand u (applyPlaced p ref c u) := by
    cases ref with
    | slot row column => exact hslot row column u
    | cradle bay index => exact (peersStand_searchCoil ..).trans (peersStand_peerPlacement ..)
  exact ((peersStand_releaseWhere _ _ s).trans (hplaced _)).trans (peersStand_checkUndermined ..)

theorem peersStand_recordArrival (sender bay truckRef : Nat) (o : Orientation) (x : Trailer) (offsets : List Nat) (s : State) :
    PeersStand s (recordArrival sender bay truckRef o x offsets s) := by
  refine (peersStand_setBay ?_).trans (peersStand_raise ..)
  rintro b ⟨⟩ k hk v hv
  obtain ⟨_, -, rfl⟩ := List.mem_map.1 hk
  cases hv

theorem peersStand_takeArrive (sender bay truckRef : Nat) (o : Orientation) (x : Trailer) (offsets : List Nat) (s : State) :
    PeersStand s (takeArrive sender bay truckRef o x offsets s) := by
  unfold takeArrive
  split
  · exact peersStand_raise ..
  · split
    · exact peersStand_recordArrival ..
    · split
      · exact .refl s
      · split
        · exact (peersStand_removeBayReservations ..).trans (peersStand_recordArrival ..)
        · exact peersStand_raise ..

/-- A bay's record goes, or closes with the cradles that it has. -/
theorem peersStand_setBay_of_cradles {s : State} {bay : Nat} {b : Option Truck}
    (h : ∀ x ∈ b, ∃ y, bayRecord s bay = some y ∧ x.cradles = y.cradles) : PeersStand s (setBay bay b s) := by
  refine peersStand_setBay fun x hx k hk v hv => ?_
  obtain ⟨y, hy, hcradles⟩ := h x hx
  exact admits_of_mem_cradles hy (hcradles ▸ hk) hv

theorem peersStand_takeClose (bay truckRef : Nat) (s : State) : PeersStand s (takeClose bay truckRef s) := by
  unfold takeClose
  split
  next hb =>
    split
    · exact peersStand_setBay_of_cradles (by rintro _ ⟨⟩; exact ⟨_, hb, rfl⟩)
    · exact peersStand_raise ..
  · exact peersStand_raise ..

theorem peersStand_takeDepart (bay truckRef : Nat) (s : State) : PeersStand s (takeDepart bay truckRef s) := by
  unfold takeDepart
  split
  · exact .refl s
  · split
    · exact .refl s
    · split
      · exact ((peersStand_removeBayReservations bay s).trans (peersStand_setBay_of_cradles (by simp))).trans (peersStand_raise ..)
      · exact peersStand_raise ..

/-! ### Requests of the map, the tasks and the trucks (R112, R152 to R168, R178 to R184) -/

theorem peersStand_mapWrite (ref : Ref) (state : Nat) (coil : Option CoilId) (weight width : Option Nat) (s : State) :
    PeersStand s (mapWrite ref state coil weight width s).1 := by
  have hwritten {c : SlotContent} (hc : slotResv c = none) (row column : Nat) : PeersStand s (writeSlot row column c s) :=
    (peersStand_setSlot_free hc).trans (peersStand_foldl (fun _ _ => peersStand_checkUpper ..) _ _)
  unfold mapWrite
  split
  · exact .refl s
  next row column =>
    split
    next c _ hc =>
      have hfree : slotResv c = none := by
        unfold writtenContent at hc
        split at hc <;> cases hc <;> rfl
      split
      · exact .refl s
      · unfold mapWriteSlot
        split_ifs
        · exact .refl s
        · exact .refl s
        · exact .refl s
        · exact hwritten hfree ..
    · exact .refl s

theorem peersStand_taskStart (id kind : Nat) (source target : Ref) (coil : CoilId) (priority : Nat) (s : State) :
    PeersStand s (taskStart id kind source target coil priority s).1 := by
  unfold taskStart
  split
  · exact .refl s
  · split_ifs
    · exact .refl s
    · exact .refl s
    · exact .refl s
    · exact .refl s
    · exact .refl s
    · split
      · exact .refl s
      · exact .refl s
      · dsimp only
        split
        · exact .refl s
        · exact (peersStand_startRound ..).trans (peersStand_withTracker ..)

theorem peersStand_acceptWeight (k : Task) (s : State) : PeersStand s (acceptWeight k s) := by
  refine .trans (t := updateTask (fun t => { t with weight := some k.measuredWeight }) s) (peersStand_updateTask ..) ?_
  unfold acceptWeight
  dsimp only
  generalize updateTask (fun t => { t with weight := some k.measuredWeight }) s = u
  split
  · exact peersStand_updateTask ..
  · split
    · exact peersStand_updateTask ..
    · exact ((peersStand_releaseTarget u).trans (peersStand_updateTask ..)).trans (peersStand_raise ..)

theorem peersStand_taskConfirm (s : State) : PeersStand s (taskConfirm s).1 := by
  unfold taskConfirm
  split
  · exact .refl s
  · split
    · exact .refl s
    · split
      · exact peersStand_bookTakeOut ..
      · exact peersStand_acceptWeight ..
      · exact peersStand_bookPutIn ..
      · exact .refl s

theorem peersStand_taskCancel (s : State) : PeersStand s (taskCancel s).1 := by
  have hcancelled (u : State) : PeersStand u (cancelBeforeLift u) :=
    (peersStand_updateTask _ u).trans (peersStand_enterTerminal ..)
  unfold taskCancel
  split
  · exact .refl s
  next k _ =>
    split
    · exact .refl s
    · cases k.state with
      | claiming => exact (peersStand_abandonRound s).trans (hcancelled _)
      | toSource => exact hcancelled s
      | liftPending =>
        dsimp only
        split
        · exact .refl s
        · exact peersStand_cancelTakeOut ..
      | verifyHold | toTarget | targetLost => exact (peersStand_releaseTarget s).trans (peersStand_updateTask ..)
      | retargeting => exact (peersStand_abandonRound s).trans (peersStand_updateTask ..)
      | returning | placePending | done | cancelled | claimLost | aborted => exact .refl s

theorem peersStand_taskRetarget (target : Ref) (s : State) : PeersStand s (taskRetarget target s).1 := by
  unfold taskRetarget
  split
  · exact .refl s
  · split_ifs
    · exact .refl s
    · exact .refl s
    · exact .refl s
    · exact .refl s
    · exact .refl s
    · split
      · exact .refl s
      · exact (peersStand_startRound ..).trans (peersStand_updateTask ..)

theorem peersStand_queueTruck (f : TruckFrame) (s : State) : PeersStand s (queueTruck f s) := peersStand_of_keeps (keeps_setBoxes _ s)

theorem peersStand_truckArrive (bay truckRef orientation : Nat) (x : Trailer) (offsets : List Nat) (s : State) :
    PeersStand s (truckArrive bay truckRef orientation x offsets s).1 := by
  unfold truckArrive
  split
  · exact .refl s
  · split
    · exact .refl s
    · split
      · exact .refl s
      · split
        · exact .refl s
        · exact (peersStand_queueTruck _ s).trans (peersStand_recordArrival ..)

theorem peersStand_truckClose (bay : Nat) (s : State) : PeersStand s (truckClose bay s).1 := by
  unfold truckClose
  split
  · exact .refl s
  · split
    · exact .refl s
    next hb =>
      split
      · exact .refl s
      · split
        · exact .refl s
        · exact (peersStand_queueTruck _ s).trans (peersStand_setBay_of_cradles (by rintro _ ⟨⟩; exact ⟨_, hb, rfl⟩))

theorem peersStand_truckDepart (bay : Nat) (s : State) : PeersStand s (truckDepart bay s).1 := by
  unfold truckDepart
  split
  · exact .refl s
  · split
    · exact .refl s
    · split
      · exact .refl s
      · split
        · exact .refl s
        · exact ((peersStand_queueTruck _ s).trans (peersStand_setBay_of_cradles (by simp))).trans (peersStand_raise ..)

/-! ### The link's requests, positions, configuration and the clock -/

theorem peersStand_joinBody (s : State) : PeersStand s (joinBody s).1 := by
  unfold joinBody
  split
  · split
    · exact (peersStand_updateLink _ s).trans (peersStand_startListen _)
    · exact .refl s
  · exact peersStand_startListen s
  · exact .refl s

theorem peersStand_leaveBody (s : State) : PeersStand s (leaveBody s).1 := by
  unfold leaveBody
  split
  · split
    · exact .refl s
    · exact peersStand_enterConfig s
  · split
    · exact .refl s
    · exact peersStand_updateLink (fun l => { l with leaving := true }) s
  · exact .refl s

theorem knownBy_evalEntry (s : State) (e : Entry) : (evalEntry s e).knownBy = e.knownBy := by
  unfold evalEntry
  split <;> rfl

theorem peersStand_evalEntries (s : State) : PeersStand s (evalEntries s) :=
  peersStand_of_map (f := evalEntry s) rfl rfl rfl (knownBy_evalEntry s)

theorem peersStand_evalEntryOf (id : Nat) (s : State) : PeersStand s (evalEntryOf id s) :=
  peersStand_of_map (f := fun e => if e.id = id then evalEntry s e else e) rfl rfl rfl fun e => by
    split
    · exact knownBy_evalEntry s e
    · rfl

theorem peersStand_withPos (p : PositionUnit) (s : State) : PeersStand s (s.withPos p) := peersStand_of_keeps (keeps_withPos p s)

theorem peersStand_withPerm (p : PermissionUnit) (s : State) : PeersStand s (s.withPerm p) := peersStand_of_keeps (keeps_withPerm p s)

theorem peersStand_encoderStep (axis : Axis) (a b : Bool) (s : State) : PeersStand s (encoderStep axis a b s) := by
  have hlines : PeersStand s (setLines axis a b s) := peersStand_withPos ..
  unfold encoderStep
  dsimp only
  split_ifs
  · exact hlines
  · exact (hlines.trans (peersStand_withPos ..)).trans (peersStand_of_keeps (keeps_raiseSuspect ..))
  · exact hlines.trans (peersStand_withPos ..)

theorem peersStand_positionSample (s : State) : PeersStand s (positionSample s) :=
  ((peersStand_of_keeps (keeps_takeSamples s)).trans (peersStand_withPerm ..)).trans (peersStand_evalEntries _)

theorem peersStand_markEdge (m : MarkedAxis) (s : State) : PeersStand s (markEdge m s) := by
  unfold markEdge
  dsimp only
  split
  · exact .refl s
  · unfold applyMark
    dsimp only
    split
    · exact (peersStand_withPos _ s).trans (peersStand_evalEntries _)
    · exact (peersStand_withPos _ s).trans (peersStand_raise ..)

theorem peersStand_posReference (axis position : Nat) (s : State) : PeersStand s (posReference axis position s).1 := by
  unfold posReference
  split
  · exact .refl s
  next a _ =>
    split_ifs
    · exact .refl s
    · exact .refl s
    · refine .trans ?_ (peersStand_evalEntries _)
      cases a with
      | bridge | trolley => exact peersStand_withPos ..
      | hoist => exact (peersStand_withPos _ s).trans (peersStand_withPerm ..)

theorem peersStand_zeroSet (s : State) : PeersStand s (zeroSet s).1 := by
  unfold zeroSet
  split
  · exact peersStand_of_map (f := id) rfl rfl (List.map_id _).symm fun _ => rfl
  · exact .refl s

theorem peersStand_zoneWrite (index : Nat) (z : ZoneArgs) (s : State) : PeersStand s (zoneWrite index z s).1 := by
  unfold zoneWrite
  split_ifs
  · exact .refl s
  · exact .refl s
  · exact .refl s
  · split
    · exact .refl s
    · exact peersStand_withPerm ..

theorem peersStand_tick (s : State) : PeersStand s (tick s) :=
  peersStand_of_map (f := fun e => { e with age := ageTick e.age }) rfl rfl rfl fun _ => rfl

theorem peersStand_post (rows : List Instr) (s : State) : PeersStand s (post rows s) :=
  peersStand_of_map (f := id) rfl rfl (List.map_id _).symm fun _ => rfl

theorem peersStand_idle (s : State) : PeersStand s (idle s) := by
  unfold idle
  split_ifs
  · exact .refl s
  · exact (peersStand_tick s).trans (peersStand_post ..)
  · exact peersStand_post ..

end Sys2Proof.Machine
end

section
/-! PROOFS. The entries of the neighbour table made, changed and removed, and the claim that at every step each peer that holds a
reservation has an entry that is FRESH or STALE and not geometry-foreign. -/

namespace Sys2Proof.Machine

theorem peersStand_writeItem (item : Nat) (values : List Nat) (s : State) (h : item ≠ 1) :
    PeersStand s (writeItem item values s) := by
  have hcfg (d : Cfg) : PeersStand s (s.withCfg d) := peersStand_of_map (f := id) rfl rfl (List.map_id _).symm fun _ => rfl
  unfold writeItem
  split
  · rw [writeScalar_eq _ _ h]
    have hwritten (d : Cfg) : PeersStand s (itemWritten item d s) := by
      refine (hcfg d).trans (peersStand_of_map (f := if (4 ≤ item ∧ item ≤ 20) ∨ item = 36 ∨ item = 37
        then evalEntry (s.withCfg d) else id) rfl rfl ?_ fun e => ?_)
      · show (tableAfterWrite item (s.withCfg d)).entries = _
        unfold tableAfterWrite
        split <;> simp
      · split
        · exact knownBy_evalEntry ..
        · rfl
    exact hwritten _
  · split
    · exact hcfg _
    · exact hcfg _
    · split
      · exact .refl s
      · unfold writeGeometry
        split
        · exact .refl s
        · refine peersStand_of_records rfl (fun r hr v hv => ?_) (fun bay b hb k hk v hv => admits_of_mem_cradles (s := s) hb hk hv)
          obtain rfl := List.eq_of_mem_replicate hr
          cases hv
    · exact hcfg _
    · exact hcfg _
    · exact .refl s

/-! ### Entries made, changed and removed (R61 to R67, R203) -/

/-- The entry of one station changed by a function. -/
def changeEntry (id : Nat) (g : Entry → Entry) (s : State) : State :=
  mapEntries (List.map fun e => if e.id = id then g e else e) s

theorem id_of_entryOf {s : State} {id : Nat} {e : Entry} (h : entryOf s id = some e) : e.id = id := by
  simpa using List.find?_some h

theorem entryOf_changeEntry {g : Entry → Entry} (hg : ∀ e, (g e).id = e.id) (id id' : Nat) (s : State) :
    entryOf (changeEntry id g s) id' = (entryOf s id').map fun e => if e.id = id then g e else e := by
  have hid : ((fun e : Entry => e.id == id') ∘ fun e => if e.id = id then g e else e) = fun e => e.id == id' := by
    funext e
    simp only [Function.comp_apply]
    split <;> simp [hg]
  simp only [entryOf, changeEntry, mapEntries, State.withTable_table, List.find?_map, hid]

theorem peerKnown_changeEntry_ne {g : Entry → Entry} (hg : ∀ e, (g e).id = e.id) {id id' : Nat} {s : State} (hne : id' ≠ id)
    (h : PeerKnown s id') : PeerKnown (changeEntry id g s) id' := by
  obtain ⟨e, he, hstate⟩ := h
  exact ⟨e, by rw [entryOf_changeEntry hg, he, Option.map_some, if_neg (id_of_entryOf he ▸ hne)], hstate⟩

/-- An entry that is FRESH or STALE and not geometry-foreign after its change is known. -/
theorem peerKnown_changeEntry_same {g : Entry → Entry} (hg : ∀ e, (g e).id = e.id) {id : Nat} {s : State} {e : Entry}
    (he : entryOf s id = some e) (hstate : (g e).state ≠ .lost) (hforeign : (g e).foreign = false) :
    PeerKnown (changeEntry id g s) id :=
  ⟨g e, by rw [entryOf_changeEntry hg, he, Option.map_some, if_pos (id_of_entryOf he)], hstate, hforeign⟩

theorem peerKnown_removeEntry_ne {id id' : Nat} {s : State} (hne : id' ≠ id) (h : PeerKnown s id') :
    PeerKnown (removeEntry id s) id' := by
  obtain ⟨e, he, hstate⟩ := h
  refine ⟨e, ?_, hstate⟩
  rw [← he]
  simp only [entryOf, removeEntry, mapEntries, State.withTable_table, List.find?_filter]
  congr 1
  funext x
  by_cases hx : x.id = id' <;> simp [hx, hne]

theorem find?_insertEntry {e : Entry} {id : Nat} (hne : e.id ≠ id) (xs : List Entry) :
    (insertEntry e xs).find? (fun x => x.id == id) = xs.find? fun x => x.id == id := by
  induction xs with
  | nil => simp [insertEntry, hne]
  | cons x xs ih =>
    unfold insertEntry
    split
    · simp [List.find?_cons, hne]
    · simp only [List.find?_cons, ih]

theorem mem_releaseWhere {p : Reservation → Bool} {source : ChangeSource} {s : State} {v : Reservation}
    (h : v ∈ allReservations (releaseWhere p source s)) : p v = false := by
  have hkept {o : Option Reservation} (h : (o.filter fun v => !p v) = some v) : p v = false := by
    simpa using (Option.filter_eq_some_iff.1 h).2
  obtain ⟨r, hr, hrv⟩ | ⟨bay, b, hb, k, hk, hkv⟩ := mem_allReservations.1 h
  · obtain ⟨r', -, rfl⟩ := List.mem_map.1 hr
    exact hkept (by rwa [slotResv_releaseIf] at hrv)
  · rw [bayRecord_mapCradles (s := s) (f := CradleContent.releaseIf p) rfl] at hb
    obtain ⟨b', -, rfl⟩ := Option.map_eq_some_iff.1 hb
    obtain ⟨k', -, rfl⟩ := List.mem_map.1 hk
    exact hkept (by rwa [cradleResv_releaseIf] at hkv)

theorem holder_of_mem_releasePeer {id : Nat} {s : State} {v : Reservation} (h : v ∈ allReservations (releasePeer id s)) :
    v.holder ≠ .peer id := by
  simpa using mem_releaseWhere h

/-- The entry of one station changes: it is known after it, or was not before, or holds nothing any more. -/
theorem peersKnown_of_entryChanged {id : Nat} {s u t : State} (hs : PeersKnown s)
    (hrecords : allReservations u = allReservations s) (hothers : ∀ id', id' ≠ id → PeerKnown s id' → PeerKnown u id')
    (h : PeersStand u t)
    (hid : PeerKnown u id ∨ ¬ PeerKnown s id ∨ ∀ v ∈ allReservations t, v.holder ≠ .peer id) : PeersKnown t := by
  intro v hv id' hholder
  refine (h.known id').2 ?_
  obtain ⟨w, hw, hwid⟩ | hknown := h.admitted v hv id' hholder
  · have hbefore : PeerKnown s id' := hs w (hrecords ▸ hw) id' hwid
    by_cases hne : id' = id
    · subst hne
      obtain hafter | hnot | hnone := hid
      · exact hafter
      · exact absurd hbefore hnot
      · exact absurd hholder (hnone v hv)
    · exact hothers id' hne hbefore
  · exact hknown

theorem peersKnown_refreshEntry {id : Nat} {s : State} {before : Entry} (hs : PeersKnown s) (he : entryOf s id = some before)
    (r : StatusReport) : PeersKnown (refreshEntry id r before s) := by
  let g : Entry → Entry := Entry.refresh r.report (isForeign s r.signature)
  have hg (e : Entry) : (g e).id = e.id := rfl
  have hothers := fun id' (hne : id' ≠ id) => peerKnown_changeEntry_ne hg (s := s) hne
  unfold refreshEntry
  refine (peersStand_evalEntryOf id _).peersKnown ?_
  change PeersKnown (if (isForeign s r.signature && !before.foreign) = true then becomeForeign id (changeEntry id g s)
    else changeEntry id g s)
  split
  · exact peersKnown_of_entryChanged hs (u := changeEntry id g s) rfl hothers
      ((peersStand_raise ..).trans (peersStand_releaseWhere ..)) (.inr (.inr fun v hv => holder_of_mem_releasePeer hv))
  next hnew =>
    refine peersKnown_of_entryChanged hs (u := changeEntry id g s) rfl hothers (.refl _) ?_
    cases hforeign : isForeign s r.signature with
    | false => exact .inl (peerKnown_changeEntry_same hg he nofun hforeign)
    | true =>
      refine .inr (.inl fun ⟨e, he', _, hclean⟩ => ?_)
      obtain rfl := Option.some.inj (he.symm.trans he')
      exact hnew (by simp [hforeign, hclean])

theorem peersKnown_createEntry {id : Nat} {s : State} (hs : PeersKnown s) (he : entryOf s id = none) (r : StatusReport) :
    PeersKnown (createEntry id r s) := by
  let u := mapEntries (insertEntry (newEntry id r.report (isForeign s r.signature))) s
  have hothers (id' : Nat) (hne : id' ≠ id) (h : PeerKnown s id') : PeerKnown u id' := by
    obtain ⟨e, he', hstate⟩ := h
    exact ⟨e, (find?_insertEntry (e := newEntry id r.report (isForeign s r.signature)) (Ne.symm hne) _).trans he', hstate⟩
  have hmade : PeersStand u (if isForeign s r.signature then raise .geometryMismatch u else u) := by
    split
    · exact peersStand_raise ..
    · exact .refl u
  exact (peersStand_evalEntryOf id _).peersKnown (peersKnown_of_entryChanged hs (u := u) rfl hothers hmade
    (.inr (.inl fun ⟨e, he', _⟩ => by simp [he] at he')))

theorem peersStand_untrackedReport (s : State) : PeersStand s (untrackedReport s) := by
  have htable (x : NeighbourTable) (hx : x.entries = s.table.entries) : PeersStand s (s.withTable x) :=
    peersStand_of_map (f := id) rfl rfl (by rw [List.map_id]; exact hx) fun _ => rfl
  unfold untrackedReport
  dsimp only
  split
  · exact htable _ rfl
  · exact (htable { s.table with untracked := true, untrackedAge := 0 } rfl).trans (peersStand_raise ..)

theorem peersKnown_takeStatus {s : State} (hs : PeersKnown s) (id : Nat) (r : StatusReport) : PeersKnown (takeStatus id r s) := by
  unfold takeStatus
  split
  next he => exact peersKnown_refreshEntry hs he r
  next he =>
    split
    · exact peersKnown_createEntry hs he r
    · exact (peersStand_untrackedReport s).peersKnown hs

theorem peersKnown_takeFarewell {s : State} (hs : PeersKnown s) (id : Nat) : PeersKnown (takeFarewell id s) := by
  unfold takeFarewell
  split
  · exact hs
  · exact peersKnown_of_entryChanged hs (u := removeEntry id s) (t := releasePeer id (removeEntry id s)) rfl
      (fun id' hne => peerKnown_removeEntry_ne hne) (peersStand_releaseWhere ..)
      (.inr (.inr fun v hv => holder_of_mem_releasePeer hv))

theorem peersKnown_neighbourDrop {s : State} (hs : PeersKnown s) (id : Nat) : PeersKnown (neighbourDrop id s).1 := by
  unfold neighbourDrop
  split
  · exact hs
  · split
    · exact hs
    next e he =>
      split
      next hlost =>
        refine peersKnown_of_entryChanged hs (u := removeEntry id s) rfl (fun id' hne => peerKnown_removeEntry_ne hne) (.refl _)
          (.inr (.inl fun ⟨e', he', hstate, _⟩ => ?_))
        obtain rfl := Option.some.inj (he.symm.trans he')
        exact hstate hlost
      · exact hs

theorem peersKnown_becomeStale {s : State} (hs : PeersKnown s) (id : Nat) : PeersKnown (becomeStale id s) := by
  unfold becomeStale
  split
  · exact hs
  next e he =>
    split
    · refine (peersStand_evalEntryOf id _).peersKnown ?_
      let g : Entry → Entry := fun e => { e with state := .stale }
      have hg (e : Entry) : (g e).id = e.id := rfl
      refine peersKnown_of_entryChanged hs (u := changeEntry id g s) rfl (fun id' hne => peerKnown_changeEntry_ne hg hne) (.refl _) ?_
      cases hforeign : e.foreign with
      | false => exact .inl (peerKnown_changeEntry_same hg he nofun hforeign)
      | true =>
        refine .inr (.inl fun ⟨e', he', _, hclean⟩ => ?_)
        obtain rfl := Option.some.inj (he.symm.trans he')
        simp [hforeign] at hclean
    · exact hs

theorem peersKnown_becomeLost {s : State} (hs : PeersKnown s) (id : Nat) : PeersKnown (becomeLost id s) := by
  unfold becomeLost
  split
  · exact hs
  · split
    · let g : Entry → Entry := fun e => { e with state := .lost }
      have hg (e : Entry) : (g e).id = e.id := rfl
      exact (peersStand_evalEntryOf id _).peersKnown (peersKnown_of_entryChanged hs (u := changeEntry id g s) rfl
        (fun id' hne => peerKnown_changeEntry_ne hg hne) ((peersStand_raise ..).trans (peersStand_releaseWhere ..))
        (.inr (.inr fun v hv => holder_of_mem_releasePeer hv)))
    · exact hs

theorem peersKnown_writeItem {s : State} (hs : PeersKnown s) (item : Nat) (values : List Nat) :
    PeersKnown (writeItem item values s) := by
  by_cases h : item = 1
  · subst h
    have hstored (v : Nat) : PeersStand s (stationIdStored v s) := peersStand_of_keeps (stationIdStored_spec v s).1
    exact peersKnown_takeFarewell ((hstored _).peersKnown hs) _
  · exact (peersStand_writeItem item values s h).peersKnown hs

theorem peersKnown_cfgWriteBody {s : State} (hs : PeersKnown s) (item : Nat) (values : List Nat) :
    PeersKnown (cfgWriteBody item values s).1 := by
  unfold cfgWriteBody
  split_ifs
  · exact hs
  · exact hs
  · exact hs
  · exact peersKnown_writeItem hs item values

theorem peersKnown_of_noReservations {s : State} (h : ∀ v, v ∉ allReservations s) : PeersKnown s :=
  fun v hv => absurd hv (h v)

theorem peersKnown_restartBody {s : State} (hs : PeersKnown s) : PeersKnown (restartBody s).1 := by
  unfold restartBody
  split_ifs
  · exact hs
  · exact hs
  · refine peersKnown_of_noReservations fun v hv => ?_
    have hreleased : v ∈ allReservations (releaseWhere (fun _ => true) .own
      ((((restartLink s).withClaims (restartLink s).claims.restart).withWeigh (restartLink s).weigh.restart).withTable .reset)) := hv
    simpa using mem_releaseWhere hreleased

/-! ### Every command, and every step -/

theorem peersKnown_event {body : State → State} {s : State} (hs : PeersKnown s) (h : PeersKnown (body s)) :
    PeersKnown (event body s) := by
  unfold event
  split
  · exact hs
  · exact (peersStand_settle _).peersKnown h

theorem peersKnown_respond {r : Reply} {s : State} (h : PeersKnown s) : PeersKnown (respond r s) :=
  (peersStand_of_keeps (keeps_withPort _ s)).peersKnown h

theorem peersKnown_request {body : State → State × Reply} {s : State} (hs : PeersKnown s) (h : PeersKnown (body s).1) :
    PeersKnown (request body s) := by
  unfold request
  split
  · exact hs
  · refine peersKnown_respond ?_
    split
    · exact (peersStand_settle _).peersKnown h
    · exact h

theorem peersKnown_readRequest {f : State → Reply} {s : State} (hs : PeersKnown s) : PeersKnown (readRequest f s) := by
  unfold readRequest
  split
  · exact hs
  · exact peersKnown_respond hs

theorem keeps_withNotices (n : NoticeUnit) (s : State) : Keeps [] s (s.withNotices n) :=
  ⟨rfl, fun b _ => by cases b <;> simp [SameBlock]⟩

theorem peersKnown_noticeRequest {body : NoticeUnit → NoticeUnit × Reply} {s : State} (hs : PeersKnown s) :
    PeersKnown (noticeRequest body s) := by
  unfold noticeRequest
  split
  · exact hs
  · have hstand (n : NoticeUnit) : PeersStand s (driveAttn (s.withNotices n)) :=
      (peersStand_of_keeps (keeps_withNotices n s)).trans (peersStand_of_keeps (keeps_driveAttn _))
    exact peersKnown_respond ((hstand _).peersKnown hs)

theorem peersKnown_chipSelectRise {s : State} (hs : PeersKnown s) (bytes : List Byte) (partialByte : Bool) :
    PeersKnown (chipSelectRise bytes partialByte s) := by
  have hport (p : Port) : PeersStand s (s.withPort p) := peersStand_of_keeps (keeps_withPort p s)
  unfold chipSelectRise
  split
  · exact hs
  · split
    · exact (hport _).peersKnown hs
    · unfold requestRises
      dsimp only
      split
      · exact (hport _).peersKnown hs
      · exact (((hport _).trans (peersStand_raise ..)).trans (peersStand_of_keeps (keeps_driveAttn _))).peersKnown hs

/-- R42, R52, R53: a frame received, which its owner takes from a sender that is not geometry-foreign where it is shared. -/
theorem peersKnown_receiveFrame {sender : Nat} {wellFormed shared : Bool} {owner : State → State} {s : State}
    (hs : PeersKnown s)
    (h : ∀ u, PeersKnown u → (shared = true → senderForeign u sender = false) → PeersKnown (owner u)) :
    PeersKnown (receiveFrame sender wellFormed shared owner s) := by
  have hended : PeersKnown (endReception s) := (peersStand_updateLink _ s).peersKnown hs
  unfold receiveFrame
  dsimp only
  generalize endReception s = u at *
  split_ifs with hconfig hgood hown hkept
  · exact hs
  · exact (peersStand_ownIdentifierSeen u).peersKnown hended
  · exact hended
  · exact h u hended fun hshared => by simpa [hshared] using hkept
  · exact (peersStand_of_keeps (keeps_countReceiveError u)).peersKnown hended

theorem peersKnown_exec (c : Instr) {s : State} (hs : PeersKnown s) : ∃ t, exec c s = .next t ∧ PeersKnown t := by
  have hevent {body : State → State} (h : ∀ u, PeersStand u (body u)) : PeersKnown (event body s) :=
    peersKnown_event hs ((h s).peersKnown hs)
  have hrequest {body : State → State × Reply} (h : ∀ u, PeersStand u (body u).1) : PeersKnown (request body s) :=
    peersKnown_request hs ((h s).peersKnown hs)
  have hframe {sender : Nat} {wellFormed shared : Bool} {owner : State → State} (h : ∀ u, PeersStand u (owner u)) :
      PeersKnown (event (receiveFrame sender wellFormed shared owner) s) :=
    peersKnown_event hs (peersKnown_receiveFrame hs fun u hu _ => (h u).peersKnown hu)
  cases c with
  | pinResetAssert =>
    refine ⟨_, rfl, ?_⟩
    have hheld : PeersStand s ((s.withClock { s.clock with resetHeld := true }).withPort
        { s.port with ready := false, request := none, dataOut := [] }) :=
      peersStand_of_map (f := id) rfl rfl (List.map_id _).symm fun _ => rfl
    exact ((hheld.trans (peersStand_of_keeps (keeps_driveOutputs _))).trans (peersStand_of_keeps (keeps_driveAttn _))).peersKnown hs
  | pinResetRelease =>
    refine ⟨_, rfl, peersKnown_of_noReservations fun v hv => ?_⟩
    simp [allReservations, releaseReset, State.reset, TruckUnit.reset] at hv
  | encoderTransition axis a b =>
    refine ⟨_, rfl, ?_⟩
    split
    · exact (peersStand_withPos ..).peersKnown hs
    · exact ((peersStand_encoderStep axis a b s).trans (peersStand_settle _)).peersKnown hs
  | markEdge axis => exact ⟨_, rfl, hevent (peersStand_markEdge axis)⟩
  | positionSample => exact ⟨_, rfl, hevent peersStand_positionSample⟩
  | weighingCycle coarseA fineA coarseB fineB => exact ⟨_, rfl, hevent (peersStand_weighingCycle coarseA fineA coarseB fineB)⟩
  | lineFault reported receiving =>
    refine ⟨_, rfl, ?_⟩
    have hset : PeersStand s (updateLink (fun l => { l with lineFault := reported }) s) := peersStand_updateLink ..
    split
    · exact hset.peersKnown hs
    · refine (peersStand_settle _).peersKnown ?_
      split
      · exact (hset.trans (peersStand_lineFaultBegins ..)).peersKnown hs
      · exact hset.peersKnown hs
  | frameStart => exact ⟨_, rfl, hevent peersStand_frameStart⟩
  | arbitrationLost => exact ⟨_, rfl, hevent peersStand_arbitrationLost⟩
  | frameSent => exact ⟨_, rfl, hevent peersStand_frameSent⟩
  | transmitError =>
    refine ⟨_, rfl, hevent fun u => ?_⟩
    split
    · exact (peersStand_updateLink _ u).trans (peersStand_transmitError _)
    · exact .refl u
  | receiveError =>
    exact ⟨_, rfl, hevent fun u => (peersStand_updateLink _ u).trans (peersStand_of_keeps (keeps_countReceiveError _))⟩
  | ownIdentifierFrame => exact ⟨_, rfl, hevent fun u => (peersStand_updateLink _ u).trans (peersStand_ownIdentifierSeen _)⟩
  | statusReceived sender r =>
    exact ⟨_, rfl, peersKnown_event hs (peersKnown_receiveFrame hs fun u hu _ => peersKnown_takeStatus hu sender r)⟩
  | farewellReceived sender r =>
    exact ⟨_, rfl, peersKnown_event hs (peersKnown_receiveFrame hs fun u hu _ => peersKnown_takeFarewell hu sender)⟩
  | claimReceived sender round priority entries =>
    exact ⟨_, rfl, peersKnown_event hs (peersKnown_receiveFrame hs fun u hu hclean =>
      (peersStand_takeClaim (hclean rfl) round priority entries).peersKnown hu)⟩
  | objectReceived sender claimant round ref =>
    refine ⟨_, rfl, hframe fun u => ?_⟩
    split
    · exact peersStand_takeObject ..
    · exact .refl u
  | releaseReceived sender round refs => exact ⟨_, rfl, hframe (peersStand_takeRelease sender round refs)⟩
  | pickedReceived sender round ref coil =>
    exact ⟨_, rfl, peersKnown_event hs (peersKnown_receiveFrame hs fun u hu hclean =>
      (peersStand_takePicked (hclean rfl) round ref coil).peersKnown hu)⟩
  | placedReceived sender round ref coil weight width => exact ⟨_, rfl, hframe (peersStand_takePlaced sender round ref _)⟩
  | truckArriveReceived sender bay truckRef o x offsets =>
    exact ⟨_, rfl, hframe (peersStand_takeArrive sender bay truckRef o _ _)⟩
  | truckCloseReceived sender bay truckRef => exact ⟨_, rfl, hframe (peersStand_takeClose bay truckRef)⟩
  | truckDepartReceived sender bay truckRef => exact ⟨_, rfl, hframe (peersStand_takeDepart bay truckRef)⟩
  | beatExpiry => exact ⟨_, rfl, hevent peersStand_beatExpiry⟩
  | deferredStatusCompose => exact ⟨_, rfl, hevent peersStand_composeDeferred⟩
  | farewellCompose =>
    refine ⟨_, rfl, hevent fun u => ?_⟩
    split
    · exact peersStand_composeStatus ..
    · exact .refl u
  | releaseRequestRetry =>
    refine ⟨_, rfl, hevent fun u => ?_⟩
    split
    · exact peersStand_putHeld ..
    · exact .refl u
  | bookingResumed => exact ⟨_, rfl, hevent peersStand_resumeBooking⟩
  | claimWindowExpiry => exact ⟨_, rfl, hevent peersStand_expireWindow⟩
  | peerReservationHeld ref => exact ⟨_, rfl, hevent (peersStand_holdPeer ref)⟩
  | entryStale id => exact ⟨_, rfl, peersKnown_event hs (peersKnown_becomeStale hs id)⟩
  | neighbourLost id => exact ⟨_, rfl, peersKnown_event hs (peersKnown_becomeLost hs id)⟩
  | untrackedClear =>
    refine ⟨_, rfl, hevent fun u => ?_⟩
    split
    · exact peersStand_of_map (f := id) rfl rfl (List.map_id _).symm fun _ => rfl
    · exact .refl u
  | chipSelectRise bytes partialByte =>
    refine ⟨_, rfl, ?_⟩
    split
    · exact hs
    · exact peersKnown_chipSelectRise hs bytes partialByte
  | readReply clocks =>
    refine ⟨_, rfl, ?_⟩
    split
    · exact hs
    · exact (peersStand_of_keeps (keeps_withPort _ s)).peersKnown hs
  | cfgWrite item values => exact ⟨_, rfl, peersKnown_request hs (peersKnown_cfgWriteBody hs _ _)⟩
  | cfgWriteStationId value => exact ⟨_, rfl, peersKnown_request hs (peersKnown_cfgWriteBody hs _ _)⟩
  | cfgWriteBeat value => exact ⟨_, rfl, peersKnown_request hs (peersKnown_cfgWriteBody hs _ _)⟩
  | cfgWriteGeometry geometry => exact ⟨_, rfl, peersKnown_request hs (peersKnown_cfgWriteBody hs _ _)⟩
  | cfgWriteWeighing item value => exact ⟨_, rfl, peersKnown_request hs (peersKnown_cfgWriteBody hs _ _)⟩
  | cfgWriteBay bay kingpin line orientation => exact ⟨_, rfl, peersKnown_request hs (peersKnown_cfgWriteBody hs _ _)⟩
  | zoneWrite index zone => exact ⟨_, rfl, hrequest (peersStand_zoneWrite index zone)⟩
  | zoneEnable change on => exact ⟨_, rfl, hrequest fun u => peersStand_withPerm _ u⟩
  | join => exact ⟨_, rfl, hrequest peersStand_joinBody⟩
  | leave => exact ⟨_, rfl, hrequest peersStand_leaveBody⟩
  | restart => exact ⟨_, rfl, peersKnown_request hs (peersKnown_restartBody hs)⟩
  | posReference axis position => exact ⟨_, rfl, hrequest (peersStand_posReference axis position)⟩
  | zeroSet => exact ⟨_, rfl, hrequest peersStand_zeroSet⟩
  | mapWrite ref state coil weight width => exact ⟨_, rfl, hrequest (peersStand_mapWrite ref state coil weight width)⟩
  | taskStart id kind source target coil priority =>
    exact ⟨_, rfl, hrequest (peersStand_taskStart id kind source target coil priority)⟩
  | taskConfirm => exact ⟨_, rfl, hrequest peersStand_taskConfirm⟩
  | taskCancel => exact ⟨_, rfl, hrequest peersStand_taskCancel⟩
  | taskRetarget target => exact ⟨_, rfl, hrequest (peersStand_taskRetarget target)⟩
  | truckArrive bay truckRef orientation x offsets =>
    exact ⟨_, rfl, hrequest (peersStand_truckArrive bay truckRef orientation x offsets)⟩
  | truckClose bay => exact ⟨_, rfl, hrequest (peersStand_truckClose bay)⟩
  | truckDepart bay => exact ⟨_, rfl, hrequest (peersStand_truckDepart bay)⟩
  | neighbourDrop id => exact ⟨_, rfl, peersKnown_request hs (peersKnown_neighbourDrop hs id)⟩
  | noticeRead | noticeClear _ | noticeEnable _ _ _ => exact ⟨_, rfl, peersKnown_noticeRequest hs⟩
  | unknownRequest | cfgRead _ | stateRead | mapRead _ | mapFind _ | taskRead | truckRead _ | neighbourRead _ =>
    exact ⟨_, rfl, peersKnown_readRequest hs⟩

/-- Settles O11: a step is the idle step, in which the peers stand, or a command. -/
theorem stepKeepsPeersKnown : Obligations.StepKeepsPeersKnown := by
  intro s t hs hstep
  unfold step at hstep
  split at hstep
  · obtain rfl := Host.Outcome.next.inj hstep
    exact (peersStand_idle s).peersKnown hs
  next c rest _ =>
    obtain ⟨t', ht', hknown⟩ := peersKnown_exec c (s := s.withPending rest) hs
    obtain rfl := Host.Outcome.next.inj (ht'.symm.trans hstep)
    exact hknown

end Sys2Proof.Machine
end

section
/-! PROOFS. What a loss withdraws and releases, beside what it may touch, and the entry to a link state other than ACTIVE: the
loss of a QUEUED round (R135, R136, R147). -/

namespace Sys2Proof.Machine

/-! ### What a loss takes away -/

/-- A loss makes no own reservation and no round. A CLAIM that is being sent stays in its mailbox and stays withdrawn where it
was; one that waits can only leave its mailbox (R45). -/
structure Sheds (s t : State) : Prop where
  own : ∀ ref v, ownResvAt t ref = some v → ownResvAt s ref = some v
  round : s.claims.round = none → t.claims.round = none
  sending : t.link.sending = s.link.sending
  sent : s.link.sending = some .claim →
    t.link.boxes.claim = s.link.boxes.claim ∧ (s.link.withdrawal.isSome = true → t.link.withdrawal.isSome = true)
  waiting : s.link.sending ≠ some .claim →
    t.link.withdrawal = s.link.withdrawal ∧ (s.link.boxes.claim = none → t.link.boxes.claim = none)

section
variable {s t u : State}

theorem Sheds.refl (s : State) : Sheds s s := ⟨fun _ _ h => h, id, rfl, fun _ => ⟨rfl, id⟩, fun _ => ⟨rfl, id⟩⟩

theorem Sheds.trans (h : Sheds s t) (k : Sheds t u) : Sheds s u where
  own ref v hv := h.own ref v (k.own ref v hv)
  round hr := k.round (h.round hr)
  sending := k.sending.trans h.sending
  sent hs := by
    obtain ⟨hclaim, hwithdrawn⟩ := h.sent hs
    obtain ⟨hclaim', hwithdrawn'⟩ := k.sent (h.sending.trans hs)
    exact ⟨hclaim'.trans hclaim, hwithdrawn' ∘ hwithdrawn⟩
  waiting hs := by
    obtain ⟨hwithdrawal, hclaim⟩ := h.waiting hs
    obtain ⟨hwithdrawal', hclaim'⟩ := k.waiting (h.sending ▸ hs)
    exact ⟨hwithdrawal'.trans hwithdrawal, hclaim' ∘ hclaim⟩

/-- States with the same configuration, map and truck records hold the same own reservations. -/
theorem ownResvAt_of_records (hcfg : t.cfg = s.cfg) (hmap : t.map = s.map) (hbay0 : t.trucks.bay0 = s.trucks.bay0)
    (hbay1 : t.trucks.bay1 = s.trucks.bay1) : ownResvAt t = ownResvAt s := by
  funext ref
  exact ownResvAt_congr (by rw [resvAt_congr (slotAt_congr hcfg hmap) (cradleAt_congr (bayRecord_congr hbay0 hbay1))])

/-- A step that changes no record holds the own reservations it held. -/
theorem ownResvAt_of_keeps {bs : List Block} (h : Keeps bs s t)
    (hbs : ∀ b ∈ [Block.cfg, .map, .trucks], b ∉ bs := by simp) : ownResvAt t = ownResvAt s := by
  obtain ⟨hbay0, hbay1⟩ := h.2 .trucks (hbs _ (by simp))
  exact ownResvAt_of_records (h.2 .cfg (hbs _ (by simp))) (h.2 .map (hbs _ (by simp))) hbay0 hbay1

/-- A change of the task and its notices takes nothing away. -/
theorem sheds_of_keeps (h : Keeps [.tracker] s t) : Sheds s t := by
  have hlink : t.link = s.link := h.2 .link (by simp)
  have hclaims : t.claims = s.claims := h.2 .claims (by simp)
  exact ⟨fun ref v hv => by rwa [ownResvAt_of_keeps h] at hv, by rw [hclaims]; exact id, by rw [hlink],
    fun _ => by rw [hlink]; exact ⟨rfl, id⟩, fun _ => by rw [hlink]; exact ⟨rfl, id⟩⟩

end

theorem sheds_withRound (r : Option Round) (s : State) (h : s.claims.round = none → r = none) :
    Sheds s (s.withClaims { s.claims with round := r }) :=
  { Sheds.refl s with round := h }

theorem withdrawClaim_link (f : ReleaseFrame) (s : State) : (withdrawClaim f s).link =
    if s.link.sending = some .claim then { s.link with withdrawal := some f }
    else { s.link with boxes := { s.link.boxes with claim := none } } := by
  unfold withdrawClaim
  split <;> rfl

theorem sheds_withdrawClaim (f : ReleaseFrame) (s : State) : Sheds s (withdrawClaim f s) := by
  have hlink := withdrawClaim_link f s
  refine ⟨fun ref v hv => by rwa [ownResvAt_of_keeps (keeps_withdrawClaim f s)] at hv, by simp, ?_, fun h => ?_, fun h => ?_⟩
  · rw [hlink]
    split <;> rfl
  · rw [hlink, if_pos h]
    exact ⟨rfl, fun _ => rfl⟩
  · rw [hlink, if_neg h]
    exact ⟨rfl, fun _ => rfl⟩

theorem sheds_askReleases (fs : List ReleaseFrame) (s : State) : Sheds s (askReleases fs s) := by
  obtain ⟨hlink, hclaims, -⟩ := askReleases_spec fs s
  have hown : ownResvAt (askReleases fs s) = ownResvAt s := ownResvAt_of_keeps (keeps_askReleases fs s)
  generalize askReleases fs s = t at *
  exact ⟨fun ref v hv => by rwa [hown] at hv, by rw [hclaims]; exact id, by rw [hlink],
    fun _ => by rw [hlink]; exact ⟨rfl, id⟩, fun _ => by rw [hlink]; exact ⟨rfl, id⟩⟩

theorem sheds_askRelease (f : ReleaseFrame) (s : State) : Sheds s (askRelease f s) := sheds_askReleases [f] s

theorem sheds_endReassert (r : Round) (s : State) : Sheds s (endReassert r s) := by
  have hended := sheds_withRound none s fun _ => rfl
  unfold endReassert
  dsimp only
  split
  · exact hended.trans (sheds_withdrawClaim ..)
  · exact hended

theorem sheds_dropReassert (s : State) : Sheds s (dropReassert s) := by
  unfold dropReassert
  split
  · exact .refl s
  · split
    · exact sheds_endReassert ..
    · exact .refl s

theorem sheds_dropFromRound (ref : Ref) (s : State) : Sheds s (dropFromRound ref s) := by
  unfold dropFromRound
  split
  · exact .refl s
  next r hr =>
    split
    · dsimp only
      split
      · exact sheds_endReassert ..
      · exact sheds_withRound _ s fun h => absurd (hr.symm.trans h) nofun
    · exact .refl s

theorem sheds_releaseRef (p : Reservation → Bool) (source : ChangeSource) (ref : Ref) (s : State) :
    Sheds s (releaseRef p source ref s) := by
  have hlink : (releaseRef p source ref s).link = s.link := (keeps_releaseRef p source ref s).2 .link (by simp)
  refine ⟨fun x v hv => ?_, by simp, by rw [hlink], fun _ => by rw [hlink]; exact ⟨rfl, id⟩,
    fun _ => by rw [hlink]; exact ⟨rfl, id⟩⟩
  by_cases hx : x = ref
  · subst hx
    obtain ⟨hresv, hown⟩ := ownResvAt_eq_some_iff.1 hv
    rw [resvAt_releaseRef_same] at hresv
    exact ownResvAt_eq_some_iff.2 ⟨(Option.filter_eq_some_iff.1 hresv).1, hown⟩
  · rwa [ownResvAt_releaseRef_ne p source s hx] at hv

theorem sheds_releaseAllOwn (extra : List ReleaseFrame) (s : State) : Sheds s (releaseAllOwn extra s) := by
  have hfreed : Sheds s (releaseWhere Reservation.isOwn .own s) := by
    have hnone := ownResvAt_of_allReleased (s := s) (t := releaseWhere Reservation.isOwn .own s) rfl
      (allReleased_of_freedAlike (freedAlike_of_eq rfl rfl))
    exact ⟨fun ref v hv => by simp [hnone] at hv, id, rfl, fun _ => ⟨rfl, id⟩, fun _ => ⟨rfl, id⟩⟩
  exact (hfreed.trans (sheds_dropReassert _)).trans (sheds_askReleases ..)

theorem sheds_releaseOwn (ref : Ref) (s : State) : Sheds s (releaseOwn ref s) := by
  unfold releaseOwn
  split
  · exact .refl s
  · exact ((sheds_releaseRef ..).trans (sheds_dropFromRound ..)).trans (sheds_askRelease ..)

theorem sheds_updateTask (f : Task → Task) (s : State) : Sheds s (updateTask f s) := sheds_of_keeps (keeps_withTracker _ s)

theorem sheds_raise (n : Notice) (s : State) : Sheds s (raise n s) := sheds_of_keeps (keeps_mono (by simp) (keeps_raise n s))

theorem sheds_endClaimLost (reason : Reason) (k : Task) (s : State) : Sheds s (endClaimLost reason k s) := by
  have hterminal (u : State) : Sheds u (enterTerminal .claimLost (some reason) .claimLost u) :=
    ((sheds_updateTask _ u).trans (sheds_raise ..)).trans (sheds_releaseAllOwn ..)
  unfold endClaimLost
  dsimp only
  split
  · exact (sheds_of_keeps ((keeps_withTracker _ s).andThen (keeps_raise ..) (by simp) (by simp))).trans (hterminal _)
  · exact hterminal s

theorem sheds_tellClaimLost (reason : Reason) (s : State) : Sheds s (tellClaimLost reason s) := by
  unfold tellClaimLost
  split
  · exact .refl s
  · split
    · exact sheds_endClaimLost ..
    · exact sheds_endClaimLost ..
    · exact .refl s

theorem sheds_tellTargetLost (s : State) : Sheds s (tellTargetLost s) := by
  have htold (f : Task → Task) : Sheds s (raise .targetLost (updateTask f s)) := (sheds_updateTask f s).trans (sheds_raise ..)
  unfold tellTargetLost
  split
  · exact .refl s
  · split
    · exact (sheds_updateTask ..).trans (sheds_endClaimLost ..)
    · exact htold _
    · exact htold _
    · exact htold _
    · exact htold _
    · exact .refl s

theorem sheds_lateObjection (cause : Reason) (ref : Ref) (s : State) : Sheds s (lateObjection cause ref s) := by
  unfold lateObjection
  split
  · exact .refl s
  · split
    · split
      · exact (sheds_releaseAllOwn ..).trans (sheds_tellClaimLost ..)
      · exact .refl s
    · split
      · split
        · exact (sheds_releaseOwn ..).trans (sheds_tellTargetLost _)
        · exact .refl s
      · exact .refl s

/-! ### A round closed, and the task told (R136, R165, R166) -/

theorem sheds_releaseEntries (n : Nat) (entries : List ClaimEntry) (s : State) : Sheds s (releaseEntries n entries s) := by
  induction entries generalizing s with
  | nil => exact .refl s
  | cons e entries ih => exact (sheds_releaseRef ..).trans (ih _)

theorem sheds_recallClaim (r : Round) (s : State) : Sheds s (recallClaim r s) := by
  unfold recallClaim
  split
  · exact sheds_withdrawClaim ..
  · exact sheds_askRelease ..

theorem sheds_closeRound (r : Round) (s : State) : Sheds s (closeRound r s) := by
  rw [closeRound_eq]
  exact ((sheds_withRound none s fun _ => rfl).trans (sheds_releaseEntries ..)).trans (sheds_recallClaim ..)

/-- Once the references of a round are released the station holds none of them under its number. -/
theorem round_ne_of_releaseEntries {n : Nat} {entries : List ClaimEntry} {s : State} {x : ClaimEntry} (hx : x ∈ entries)
    {w : Reservation} (h : ownResvAt (releaseEntries n entries s) x.ref = some w) : w.round ≠ n := by
  induction entries generalizing s with
  | nil => cases hx
  | cons e entries ih =>
    obtain rfl | hx := List.mem_cons.1 hx
    · intro hround
      obtain ⟨hresv, hown⟩ := ownResvAt_eq_some_iff.1 ((sheds_releaseEntries n entries _).own _ _ h)
      rw [resvAt_releaseRef_same] at hresv
      have hkept := (Option.filter_eq_some_iff.1 hresv).2
      simp [Reservation.isOwnUnder, hown, hround] at hkept
    · exact ih hx h

theorem round_ne_of_closeRound {r : Round} {s : State} {x : ClaimEntry} (hx : x ∈ r.entries) {w : Reservation}
    (h : ownResvAt (closeRound r s) x.ref = some w) : w.round ≠ r.number := by
  rw [closeRound_eq] at h
  exact round_ne_of_releaseEntries hx ((sheds_recallClaim r _).own _ _ h)

theorem closeRound_tracker (r : Round) (s : State) : (closeRound r s).tracker = s.tracker := by
  obtain ⟨hkeeps, -⟩ := releaseEntries_spec r.number r.entries (s.withClaims { s.claims with round := none })
  have htracker := hkeeps.2 .tracker (by simp)
  rw [closeRound_eq, recallClaim]
  split
  · rw [withdrawClaim_tracker, htracker]; rfl
  · rw [askRelease_tracker, htracker]; rfl

/-- R165: a claim loss told in CLAIMING ends the task. -/
theorem tellClaimLost_of_claiming {cause : Reason} {s : State} {k : Task} (hk : s.tracker.task = some k)
    (hstate : k.state = .claiming) : let t := tellClaimLost cause s
    t.tracker.task = some { k with state := .claimLost, reason := some cause, waiting := none } ∧
      Raised .claimLost s t ∧ NoOwn t := by
  let u := if k.waiting = some .takeOut then hookUnknown s else s
  have htask : u.tracker.task = some k := by
    unfold u
    split
    · exact hk
    · exact hk
  have hraises : RaisesOnly [.hookUnknown] s u := by
    unfold u
    split
    · exact raise_raisesOnly ..
    · exact raisesOnly_refl ..
  obtain ⟨hreleased, hraised, htracker⟩ := enterTerminal_spec .claimLost (some cause) .claimLost u
  have htell : tellClaimLost cause s = enterTerminal .claimLost (some cause) .claimLost u := by
    simp [tellClaimLost, endClaimLost, hk, hstate, u]
  rw [htell]
  exact ⟨by rw [htracker, htask]; rfl, raised_before hraises hraised, noOwn_of_allReleased hreleased⟩

/-- R136: what the task tracker is told of a round lost. -/
def tellRoundLost (p : Purpose) (cause : Reason) (s : State) : State :=
  match p with
  | .start => tellClaimLost cause s
  | .retarget => tellTargetLost s
  | .reassert => s

theorem loseRound_of_round {cause : Reason} {r : Round} {s : State} (hr : s.claims.round = some r)
    (hpurpose : r.purpose ≠ .reassert) : loseRound cause s = tellRoundLost r.purpose cause (closeRound r s) := by
  simp only [loseRound, hr]
  cases hp : r.purpose with
  | start => rfl
  | retarget => rfl
  | reassert => exact absurd hp hpurpose

theorem sheds_tellRoundLost (p : Purpose) (cause : Reason) (s : State) : Sheds s (tellRoundLost p cause s) := by
  cases p with
  | start => exact sheds_tellClaimLost cause s
  | retarget => exact sheds_tellTargetLost s
  | reassert => exact .refl s

/-- R136: a START or RETARGET round lost. -/
theorem roundLost_loseRound {cause : Reason} {r : Round} {s : State} (hr : s.claims.round = some r)
    (hpurpose : r.purpose ≠ .reassert) : RoundLost r cause s (loseRound cause s) := by
  obtain ⟨hround, -⟩ := closeRound_spec r s
  have htracker := closeRound_tracker r s
  have hraises : RaisesOnly [] s (closeRound r s) := (loses_closeRound hr hpurpose).notices
  rw [loseRound_of_round hr hpurpose]
  have htold := sheds_tellRoundLost r.purpose cause (closeRound r s)
  refine ⟨htold.round hround, fun x hx w hw => round_ne_of_closeRound hx (htold.own _ _ hw), fun k hk => ⟨?_, ?_⟩⟩
  · intro hp hstate
    rw [hp]
    obtain ⟨htask, hlost, hno⟩ := tellClaimLost_of_claiming (cause := cause) (htracker ▸ hk) hstate
    exact ⟨htask, raised_before hraises hlost, hno⟩
  · intro hp hstate
    have htell : tellTargetLost (closeRound r s) = raise .targetLost
        (updateTask (fun t => { t with target := none, state := .targetLost }) (closeRound r s)) := by
      simp [tellTargetLost, htracker, hk, hstate]
    rw [hp, tellRoundLost, htell]
    refine ⟨?_, raised_before hraises (raise_raised .targetLost (updateTask _ (closeRound r s)))⟩
    simp [updateTask, htracker, hk]

/-! ### An entry to a link state other than ACTIVE (R135, R147) -/

theorem resvAt_mapReservations (f : Reservation → Reservation) (s : State) (ref : Ref) :
    resvAt (mapReservations f s) ref = (resvAt s ref).map f := by
  cases ref with
  | slot row column =>
    have hslot : slotAt (mapReservations f s) row column =
        (slotAt s row column).map fun r => { r with content := r.content.mapResv f } := by
      simp only [slotAt, mapReservations_cfg]
      split
      · rfl
      · split
        · rfl
        · exact List.getElem?_map
    simp only [resvAt_slot, contentAt, hslot]
    cases slotAt s row column with
    | none => rfl
    | some r => exact slotResv_mapResv f r.content
  | cradle bay index =>
    simp only [resvAt_cradle, cradleAt, bayRecord_mapCradles (s := s) (t := mapReservations f s) rfl]
    cases bayRecord s bay with
    | none => rfl
    | some b => cases hk : b.cradles[index]? <;> simp [hk, cradleResv_mapResv]

/-- R134: what the station holds under a round number is HELD once the round is held. -/
theorem held_of_holdRound {n : Nat} {s : State} {ref : Ref} {v : Reservation} (h : ownResvAt (holdRound n s) ref = some v)
    (hround : v.round = n) : v.phase = .held := by
  obtain ⟨hresv, hown⟩ := ownResvAt_eq_some_iff.1 h
  rw [holdRound, resvAt_mapReservations] at hresv
  obtain ⟨w, -, rfl⟩ := Option.map_eq_some_iff.1 hresv
  by_cases hw : w.isOwnUnder n = true
  · simp [hw]
  · simp only [if_neg hw] at hown hround
    simp [Reservation.isOwnUnder, hown, hround] at hw

/-- R142, R147: the references of a REASSERT round dealt with one by one. -/
def objectEntries (r : Round) (s : State) : State :=
  r.entries.foldl (fun s e =>
    match ownResvAt s e.ref with
    | none => s
    | some v => if v.round = r.number then lateObjection .notActive e.ref s else s) s

theorem objectEntries_spec (r : Round) (s : State) :
    Loses lossNotices s (objectEntries r s) ∧ Sheds s (objectEntries r s) := by
  unfold objectEntries
  generalize r.entries = entries
  induction entries generalizing s with
  | nil => exact ⟨.refl s, .refl s⟩
  | cons e entries ih =>
    obtain ⟨hloses, hsheds⟩ := ih (match ownResvAt s e.ref with
      | none => s
      | some v => if v.round = r.number then lateObjection .notActive e.ref s else s)
    refine ⟨Loses.trans ?_ hloses, Sheds.trans ?_ hsheds⟩
    · split
      · exact .refl s
      · split
        · exact loses_lateObjection ..
        · exact .refl s
    · split
      · exact .refl s
      · split
        · exact sheds_lateObjection ..
        · exact .refl s

theorem failReassert_of_queued {r : Round} {s : State} (hstage : r.stage = .queued) : failReassert r s =
    (let t := objectEntries r (withdrawClaim { round := r.number, refs := [] } s)
     holdRound r.number (t.withClaims { t.claims with round := none })) := by
  simp only [failReassert, hstage]
  rfl

theorem within_failReassert {r : Round} {s : State} (hstage : r.stage = .queued) :
    Within lossNotices s (failReassert r s) := by
  rw [failReassert_of_queued hstage]
  have hdealt := ((loses_withdrawClaim (ns := lossNotices) _ s).trans
    (objectEntries_spec r (withdrawClaim { round := r.number, refs := [] } s)).1).within
  refine hdealt.trans ⟨⟨rfl, fun b hb => ?_⟩, raisesOnly_of_eq rfl⟩
  cases b <;> simp_all [SameBlock, lossBlocks, holdRound]

/-- R135: a QUEUED round alone is lost. -/
theorem linkDown_of_queued {r : Round} {s : State} (hr : s.claims.round = some r) (hstage : r.stage = .queued) :
    linkDown s = if r.purpose = .reassert then failReassert r s else loseRound .notActive s := by
  simp only [linkDown, hr, hstage]

theorem linkDown_of_stands {s : State} (h : ∀ r, s.claims.round = some r → r.stage = .opened) : linkDown s = s := by
  cases hr : s.claims.round with
  | none => simp only [linkDown, hr]
  | some r => simp only [linkDown, hr, h r hr]

theorem within_linkDown (s : State) : Within lossNotices s (linkDown s) := by
  cases hr : s.claims.round with
  | none =>
    rw [linkDown_of_stands fun r h => absurd (hr.symm.trans h) nofun]
    exact .refl s
  | some r =>
    cases hstage : r.stage with
    | opened =>
      rw [linkDown_of_stands fun r' h => Option.some.inj (hr.symm.trans h) ▸ hstage]
      exact .refl s
    | queued =>
      rw [linkDown_of_queued hr hstage]
      split
      · exact within_failReassert hstage
      · exact (loses_loseRound lossNotices_subset _ s).within

/-- R45: a queued CLAIM that is recalled leaves its mailbox, or is withdrawn while it is being sent. -/
theorem link_of_recalled {s t : State} (hkeeps : LinkKeeps s.link.boxes.book s t) (hshed : Sheds s t)
    (hleft : s.link.sending ≠ some .claim → t.link.boxes.claim = none) :
    t.link = { s.link with
      withdrawal := if s.link.sending = some .claim then t.link.withdrawal else s.link.withdrawal
      boxes := { s.link.boxes with
        claim := if s.link.sending ≠ some .claim then none else s.link.boxes.claim
        release := t.link.boxes.release } } := by
  rw [LinkKeeps] at hkeeps
  by_cases h : s.link.sending = some .claim
  · rw [if_pos h, if_neg (not_not.2 h), ← (hshed.sent h).1]
    exact hkeeps
  · rw [if_neg h, if_pos h, ← hleft h, ← (hshed.waiting h).1]
    exact hkeeps

/-- R45: what a withdrawal leaves of a queued CLAIM after it stays so. -/
theorem recalled_of_withdrawn {f : ReleaseFrame} {s t : State} (h : Sheds (withdrawClaim f s) t) :
    (s.link.sending = some .claim → t.link.withdrawal.isSome = true) ∧
      (s.link.sending ≠ some .claim → t.link.boxes.claim = none) := by
  have hlink := withdrawClaim_link f s
  have hsending : (withdrawClaim f s).link.sending = s.link.sending := (sheds_withdrawClaim f s).sending
  refine ⟨fun hs => (h.sent (hsending.trans hs)).2 ?_, fun hs => (h.waiting (hsending ▸ hs)).2 ?_⟩
  · rw [hlink, if_pos hs]; rfl
  · rw [hlink, if_neg hs]

theorem sheds_loseRound (cause : Reason) {r : Round} {s : State} (hr : s.claims.round = some r)
    (hpurpose : r.purpose ≠ .reassert) : Sheds s (loseRound cause s) :=
  loseRound_of_round hr hpurpose ▸ (sheds_closeRound r s).trans (sheds_tellRoundLost ..)

/-- R45, R136: the CLAIM of a QUEUED round that is lost is recalled. -/
theorem recalled_of_lost {cause : Reason} {r : Round} {s : State} (hr : s.claims.round = some r) (hstage : r.stage = .queued)
    (hpurpose : r.purpose ≠ .reassert) : (s.link.sending = some .claim → (loseRound cause s).link.withdrawal.isSome = true) ∧
      (s.link.sending ≠ some .claim → (loseRound cause s).link.boxes.claim = none) := by
  have hfreed := releaseEntries_spec r.number r.entries (s.withClaims { s.claims with round := none })
  have hlink : (releaseEntries r.number r.entries (s.withClaims { s.claims with round := none })).link = s.link :=
    hfreed.1.2 .link (by simp)
  have htold := sheds_tellRoundLost r.purpose cause (closeRound r s)
  rw [loseRound_of_round hr hpurpose]
  rw [closeRound_eq, recallClaim, hstage] at htold ⊢
  rw [← hlink]
  exact recalled_of_withdrawn htold

/-- A round lost after changes of the link and of notices alone. -/
theorem RoundLost.before {r : Round} {cause : Reason} {ns : List Notice} {s u t : State} (h : RoundLost r cause u t)
    (htracker : u.tracker = s.tracker) (hraises : RaisesOnly ns s u) : RoundLost r cause s t := by
  obtain ⟨hround, hown, htask⟩ := h
  refine ⟨hround, hown, fun k hk => ?_⟩
  obtain ⟨hstart, hretarget⟩ := htask k (htracker ▸ hk)
  refine ⟨fun hp hstate => ?_, fun hp hstate => ?_⟩
  · obtain ⟨htask, hraised, hno⟩ := hstart hp hstate
    exact ⟨htask, raised_before hraises hraised, hno⟩
  · obtain ⟨htask, hraised⟩ := hretarget hp hstate
    exact ⟨htask, raised_before hraises hraised⟩

/-- R135: what an entry to a link state other than ACTIVE makes of the link record and of a QUEUED round. -/
theorem linkEnters_linkDown {ns : List Notice} {s u : State} (hkeeps : Keeps [.link] s u) (hraises : RaisesOnly ns s u) :
    LinkEnters u.link s (linkDown u) := by
  have hclaims : u.claims = s.claims := hkeeps.2 .claims (by simp)
  have htracker : u.tracker = s.tracker := hkeeps.2 .tracker (by simp)
  cases hr : s.claims.round with
  | none =>
    rw [linkDown_of_stands fun r h => absurd ((hclaims ▸ hr).symm.trans h) nofun]
    simp only [LinkEnters, hr]
    exact ⟨rfl, fun b _ hb => hkeeps.2 b (by simpa using hb)⟩
  | some r =>
    cases hstage : r.stage with
    | opened =>
      rw [linkDown_of_stands fun r' h => Option.some.inj ((hclaims ▸ hr).symm.trans h) ▸ hstage]
      simp only [LinkEnters, hr, hstage]
      exact ⟨by simp [hstage], fun b _ hb => hkeeps.2 b (by simpa using hb)⟩
    | queued =>
      rw [linkDown_of_queued (hclaims ▸ hr) hstage]
      simp only [LinkEnters, hr, hstage, Option.any_some, decide_true, true_and, if_true]
      split
      next hpurpose =>
        rw [failReassert_of_queued hstage]
        obtain ⟨hloses, hsheds⟩ := objectEntries_spec r (withdrawClaim { round := r.number, refs := [] } u)
        obtain ⟨hwithdrawn, hleft⟩ := recalled_of_withdrawn hsheds
        have hlink := link_of_recalled ((loses_withdrawClaim _ u).trans hloses).link ((sheds_withdrawClaim _ u).trans hsheds) hleft
        exact ⟨hlink, hwithdrawn, rfl, fun ref v hv => held_of_holdRound hv⟩
      next hpurpose =>
        obtain ⟨hwithdrawn, hleft⟩ := recalled_of_lost (cause := .notActive) (hclaims ▸ hr) hstage hpurpose
        have hsheds := sheds_loseRound .notActive (hclaims ▸ hr) hpurpose
        exact ⟨link_of_recalled (loses_loseRound lossNotices_subset ..).link hsheds hleft, hwithdrawn,
          (roundLost_loseRound (hclaims ▸ hr) hpurpose).before htracker hraises⟩

end Sys2Proof.Machine
end

section
/-! PROOFS. The link controller: attempts, errors, link states, JOIN and LEAVE, and the frames that reach no owner (R37 to R58). -/

namespace Sys2Proof.Machine

/-! ### Changes of the link record -/

/-- Nothing has changed but the link record, now as given, and the notices raised. -/
structure LinkStep (l : Link) (must : List Notice) (s u : State) : Prop where
  link : u.link = l
  keeps : Keeps [.link] s u
  notices : Notices must [] s u

section
variable {l l' : Link} {must must' : List Notice} {s t u : State}

theorem linkStep_self (s : State) : LinkStep s.link [] s s := ⟨rfl, keeps_refl .., notices_refl ..⟩

theorem LinkStep.trans (h : LinkStep l must s t) (k : LinkStep l' must' t u) : LinkStep l' (must ++ must') s u :=
  ⟨k.link, keeps_trans h.keeps k.keeps, by simpa using notices_trans h.notices k.notices⟩

theorem LinkStep.updateLink {f : Link → Link} (h : LinkStep l must s t) (hf : f l = l' := by rfl) :
    LinkStep l' must s (updateLink f t) where
  link := hf ▸ congrArg f h.link
  keeps := keeps_trans h.keeps (keeps_updateLink f t)
  notices := notices_trans_of_eq h.notices rfl

theorem LinkStep.raise (h : LinkStep l must s t) (n : Notice) : LinkStep l (must ++ [n]) s (raise n t) :=
  h.trans ⟨h.link, keeps_mono (by simp) (keeps_raise n t), notices_raise n t⟩

/-- A change of the link record that the settled state shows. -/
theorem LinkStep.acts (h : LinkStep l must s u) : (settle u).link = l ∧ Acts [.link] must [] s (settle u) :=
  ⟨by rw [(alike_settle u).link, h.link], acts_settle h.keeps h.notices⟩

theorem LinkEnters.alike {f : State} (h : LinkEnters l s t) (hr : Alike t f) (htracker : f.tracker = t.tracker) :
    LinkEnters l s f := by
  obtain ⟨hlink, hrest⟩ := h
  have hstands : (∀ b ∈ lossBlocks, b ≠ .link → SameBlock s t b) → ∀ b ∈ lossBlocks, b ≠ .link → SameBlock s f b := by
    intro hb b hmem hne
    have hsame := hb b hmem hne
    simp only [lossBlocks, List.mem_cons, List.not_mem_nil, or_false] at hmem
    obtain rfl | rfl | rfl | rfl | rfl := hmem
    · exact absurd rfl hne
    · exact hr.claims.trans hsame
    · exact hr.map.trans hsame
    · exact ⟨hr.bay0.trans hsame.1, hr.bay1.trans hsame.2⟩
    · exact htracker.trans hsame
  refine ⟨by rw [hr.link]; exact hlink, ?_⟩
  cases hround : s.claims.round with
  | none =>
    simp only [hround] at hrest ⊢
    exact hstands hrest
  | some r =>
    simp only [hround] at hrest ⊢
    cases hstage : r.stage with
    | opened =>
      simp only [hstage] at hrest ⊢
      exact hstands hrest
    | queued =>
      simp only [hstage] at hrest ⊢
      rw [hr.link]
      refine ⟨hrest.1, ?_⟩
      have hlost := hrest.2
      split
      next hp =>
        rw [if_pos hp] at hlost
        rwa [hr.claims, hr.ownResvAt]
      next hp =>
        rw [if_neg hp] at hlost
        obtain ⟨hnone, hown, htask⟩ := hlost
        have hreservations : allReservations f = allReservations t := by simp [allReservations, hr.map, hr.bay0, hr.bay1]
        refine ⟨by rw [hr.claims, hnone], by rwa [hr.ownResvAt], fun k hk => ?_⟩
        obtain ⟨hstart, hretarget⟩ := htask k hk
        rw [htracker]
        refine ⟨fun h1 h2 => ?_, fun h1 h2 => ?_⟩
        · obtain ⟨htask, hraised, hno⟩ := hstart h1 h2
          exact ⟨htask, hr.raised hraised, by rwa [NoOwn, hreservations]⟩
        · obtain ⟨htask, hraised⟩ := hretarget h1 h2
          exact ⟨htask, hr.raised hraised⟩

/-- R135: an entry to a link state other than ACTIVE: what it touches, and the notices. -/
theorem LinkStep.entered (h : LinkStep l must s u) :
    Keeps lossBlocks s (linkDown u) ∧ Notices must lossNotices s (linkDown u) := by
  obtain ⟨hkeeps, hraises⟩ := within_linkDown u
  exact ⟨h.keeps.andThen hkeeps (by simp [lossBlocks]) (by simp),
    by simpa using notices_trans h.notices (notices_of_raisesOnly hraises)⟩

theorem LinkStep.enters (h : LinkStep l must s u) : LinkEnters l s (linkDown u) := by
  rw [← h.link]
  exact linkEnters_linkDown h.keeps h.notices.2

/-- R135: an entry to a link state other than ACTIVE, by an event. -/
theorem LinkStep.enters_settle (h : LinkStep l must s u) :
    LinkEnters l s (settle (linkDown u)) ∧ Acts lossBlocks must lossNotices s (settle (linkDown u)) := by
  obtain ⟨hkeeps, hnotices⟩ := h.entered
  exact ⟨h.enters.alike (alike_settle _) ((keeps_settle _).2 .tracker (by simp)), acts_settle hkeeps hnotices⟩

end

/-! ### Errors and link states (R45, R50, R51, R53, R57) -/

/-- R57: the entry to MUTED. -/
theorem linkLeft_enterMuted {l : Link} {s u : State} (h : LinkStep l [] s u) :
    LinkLeft .muted l s (settle (enterMuted u)) ∧ Acts lossBlocks [.muted] lossNotices s (settle (enterMuted u)) := by
  have hentered := (h.raise .muted).updateLink (f := fun l => { l with state := .muted, beats := 0, afterMuted := false })
  exact (LinkStep.updateLink hentered).enters_settle

/-- R53: the entry to IDCLASH. -/
theorem linkLeft_enterIdclash {l : Link} {s u : State} (h : LinkStep l [] s u) :
    LinkLeft .idclash l s (settle (enterIdclash u)) ∧ Acts lossBlocks [.idclash] lossNotices s (settle (enterIdclash u)) := by
  have hentered := (h.raise .idclash).updateLink (f := fun l => { l with state := .idclash, beats := 0, afterMuted := false })
  exact (LinkStep.updateLink hentered).enters_settle

/-- R45: the end of an attempt that did not end cleanly. -/
theorem linkStep_endAttempt (s : State) : LinkStep (if s.link.sending = some .claim ∧ s.link.withdrawal.isSome = true then
    { s.link with sending := none, withdrawal := none, boxes := { s.link.boxes with claim := none } }
    else { s.link with sending := none }) [] s (endAttempt s) := by
  refine ⟨?_, keeps_endAttempt s, notices_of_eq (by simp)⟩
  unfold endAttempt
  split <;> rfl

/-- R50: the link record after an attempt abandoned. -/
theorem linkStep_abandon (s : State) : LinkStep (abandoned s.link) [] s
    (endAttempt (updateLink (fun l => { l with txErr := min 96 (l.txErr + 8) }) s)) := by
  have hended := (linkStep_self s).updateLink (f := fun l => { l with txErr := min 96 (l.txErr + 8) })
    |>.trans (linkStep_endAttempt _)
  refine { hended with link := hended.link.trans ?_ }
  unfold abandoned
  by_cases hsending : s.link.sending = some .claim
  · by_cases hwithdrawal : s.link.withdrawal.isSome = true
    · simp [hsending, hwithdrawal, updateLink]
    · simp [hsending, updateLink, Option.not_isSome_iff_eq_none.1 hwithdrawal]
  · simp [hsending, updateLink]

/-- R50, R57: a transmit error, by the count and the link state. -/
theorem transmitError_spec {l : Link} {s u : State} (h : LinkStep l [] s u) :
    let t := settle (transmitError u)
    if l.state = .active ∧ 96 ≤ l.txErr + 8 then LinkLeft .muted (abandoned l) s t ∧ Acts lossBlocks [.muted] lossNotices s t
    else t.link = abandoned l ∧ Acts [.link] [] [] s t := by
  obtain rfl := h.link
  have habandoned := h.trans (linkStep_abandon u)
  have hiff : (abandoned u.link).state = .active ∧ (abandoned u.link).txErr = 96 ↔
      u.link.state = .active ∧ 96 ≤ u.link.txErr + 8 := by
    refine and_congr Iff.rfl ?_
    show min 96 (u.link.txErr + 8) = 96 ↔ _
    omega
  simp only [transmitError, habandoned.link, hiff]
  split
  · exact linkLeft_enterMuted habandoned
  · exact habandoned.acts

/-- R51, R52: a receive error, counted outside CONFIG. -/
theorem linkStep_countReceiveError {l : Link} {s u : State} (h : LinkStep l [] s u) :
    LinkStep { l with rxErr := if l.state = .config then l.rxErr else min 255 (l.rxErr + 1) }
      (if l.state ≠ .config ∧ l.rxErr = 8 then [.linkNoisy] else []) s (countReceiveError u) := by
  obtain rfl := h.link
  unfold countReceiveError
  split
  next hconfig =>
    rw [if_neg fun h => h.1 hconfig]
    exact h
  next hcounts =>
    have hcounted := h.updateLink (f := fun l => { l with rxErr := min 255 (l.rxErr + 1) })
    by_cases hnoisy : u.link.rxErr = 8
    · simpa [hcounts, hnoisy] using hcounted.raise .linkNoisy
    · simpa [hnoisy] using hcounted

/-- R53: a frame with the own identifier, by the link state. -/
theorem ownIdentifierSeen_spec {l : Link} {s u : State} (h : LinkStep l [] s u) :
    let t := settle (ownIdentifierSeen u)
    if l.state = .listen ∨ l.state = .active then LinkLeft .idclash l s t ∧ Acts lossBlocks [.idclash] lossNotices s t
    else t.link = l ∧ Acts [.link] [] [] s t := by
  have hstate : u.link.state = l.state := by rw [h.link]
  cases hl : l.state with
  | listen | active =>
    rw [if_pos (by simp), ownIdentifierSeen, hstate, hl]
    exact linkLeft_enterIdclash h
  | config | muted | halted | idclash =>
    rw [if_neg (by simp), ownIdentifierSeen, hstate, hl]
    exact h.acts

theorem linkStep_endReception (s : State) : LinkStep (received s) [] s (endReception s) := (linkStep_self s).updateLink

/-! ### TRANSMIT_ERROR, RECEIVE_ERROR, OWN_IDENTIFIER_FRAME and LINE_FAULT -/

/-- Settles O23: a transmit error abandons the attempt, and an entry to MUTED is one of R135. -/
theorem transmitErrorCountsAndMutes : Obligations.TransmitErrorCountsAndMutes := by
  intro s hrun link
  refine ⟨_, by rw [exec, execTransmitError, event_of_running _ hrun], ?_⟩
  by_cases hsending : s.link.sending = none
  · rw [if_pos hsending, if_neg (by simp [hsending])]
    exact ⟨(alike_settle s).link, acts_settle_self ..⟩
  · rw [if_neg hsending, if_pos (Option.isSome_iff_ne_none.2 hsending)]
    exact transmitError_spec ((linkStep_self s).updateLink (f := fun l => { l with receiving := true }))

/-- Settles O24: both rows end the reception first. -/
theorem receiveErrorsAndClashes : Obligations.ReceiveErrorsAndClashes := by
  intro s hrun
  refine ⟨⟨_, by rw [exec, execReceiveError, event_of_running _ hrun], ?_⟩,
    ⟨_, by rw [exec, execOwnIdentifierFrame, event_of_running _ hrun], ?_⟩⟩
  · exact (linkStep_countReceiveError (linkStep_endReception s)).acts
  · exact ownIdentifierSeen_spec (linkStep_endReception s)

/-- R37: what a line fault does at its begin. -/
theorem lineFaultBegins_spec {l : Link} {s u : State} (h : LinkStep l [] s u) (receiving : Bool) :
    let t := settle (lineFaultBegins receiving u)
    if l.sending.isSome = true then
      if l.state = .active ∧ 96 ≤ l.txErr + 8 then LinkLeft .muted (abandoned l) s t ∧ Acts lossBlocks [.muted] lossNotices s t
      else t.link = abandoned l ∧ Acts [.link] [] [] s t
    else if receiving = true ∨ l.receiving = true then
      t.link = { l with
        receiving := false, rxErr := if l.state = .config then l.rxErr else min 255 (l.rxErr + 1) } ∧
      Acts [.link] (if l.state ≠ .config ∧ l.rxErr = 8 then [.linkNoisy] else []) [] s t
    else t.link = l ∧ Acts [.link] [] [] s t := by
  obtain rfl := h.link
  unfold lineFaultBegins
  by_cases hsending : u.link.sending.isSome = true
  · rw [if_pos hsending, if_pos hsending]
    exact transmitError_spec h
  · rw [if_neg hsending, if_neg hsending]
    by_cases hreceiving : receiving = true ∨ u.link.receiving = true
    · rw [if_pos hreceiving, if_pos (Bool.or_eq_true_iff.2 hreceiving)]
      exact (linkStep_countReceiveError (h.updateLink (f := fun l => { l with receiving := false }))).acts
    · rw [if_neg hreceiving, if_neg (mt Bool.or_eq_true_iff.1 hreceiving)]
      exact h.acts

theorem exec_lineFault (reported receiving : Bool) {s : State} (hrun : Running s) : exec (.lineFault reported receiving) s =
    .next (settle (if reported = false ∨ s.link.lineFault = true then updateLink (fun l => { l with lineFault := reported }) s
      else lineFaultBegins receiving (updateLink (fun l => { l with lineFault := reported }) s))) := by
  have hheld : s.clock.resetHeld = false := hrun
  simp only [exec, execLineFault, hheld, Bool.false_eq_true, if_false]
  cases reported <;> cases s.link.lineFault <;> rfl

/-- Settles O25: a fault that begins is a transmit error, a receive error, or the input alone. -/
theorem lineFaultEndsTraffic : Obligations.LineFaultEndsTraffic := by
  intro reported receiving s hrun link
  have hset : LinkStep link [] s (updateLink (fun l => { l with lineFault := reported }) s) := (linkStep_self s).updateLink
  refine ⟨_, exec_lineFault reported receiving hrun, ?_⟩
  by_cases hquiet : reported = false ∨ s.link.lineFault = true
  · rw [if_pos hquiet, if_pos hquiet]
    exact hset.acts
  · rw [if_neg hquiet, if_neg hquiet]
    exact lineFaultBegins_spec hset receiving

end Sys2Proof.Machine
end

section
/-! PROOFS. The link controller: attempts started, lost and sent, a STATUS composed, JOIN and LEAVE, and the frames that reach no
owner (R37 to R58). -/

namespace Sys2Proof.Machine

/-! ### Attempts (R39 to R41) -/

/-- R39: whether a mailbox is full. -/
def boxFull (b : Mailboxes) : Mailbox → Bool
  | .object => !b.objects.isEmpty
  | .status => b.status.isSome
  | .release => b.release.isSome
  | .claim => b.claim.isSome
  | .book => b.book.isSome
  | .truck => b.truck.isSome

/-- R39: the full mailbox with the lowest class is the first full one in the order of the classes. -/
theorem lowestBox_eq_find? (b : Mailboxes) :
    lowestBox b = [Mailbox.object, .status, .release, .claim, .book, .truck].find? (boxFull b) := by
  simp only [lowestBox, List.find?_cons, boxFull, List.find?_nil]
  cases b.objects with
  | nil => split_ifs <;> simp_all
  | cons f fs => rfl

theorem mayStart_iff (l : Link) : mayStart l = true ↔ l.state = .active ∧ l.sending = none ∧ l.lineFault = false := by
  simp [mayStart, and_assoc]

/-- R37, R39: what FRAME_START makes of the link record. -/
theorem linkStep_frameStart (s : State) : LinkStep
    (if s.link.state = .active ∧ s.link.sending = none ∧ s.link.lineFault = false then
      match lowestBox s.link.boxes with
      | none => s.link
      | some m => { s.link with sending := some m, receiving := false }
    else s.link) [] s (frameStart s) := by
  unfold frameStart
  simp only [mayStart_iff]
  split
  · cases lowestBox s.link.boxes with
    | none => exact linkStep_self s
    | some m => exact (linkStep_self s).updateLink
  · exact linkStep_self s

/-- R40: what ARBITRATION_LOST makes of the link record. -/
theorem linkStep_arbitrationLost (s : State) : LinkStep
    (if s.link.sending = none then s.link
    else if s.link.sending = some .claim ∧ s.link.withdrawal.isSome = true then
      { s.link with receiving := true, sending := none, withdrawal := none, boxes := { s.link.boxes with claim := none } }
    else { s.link with receiving := true, sending := none }) [] s (arbitrationLost s) := by
  unfold arbitrationLost
  by_cases hsending : s.link.sending = none
  · rw [if_pos hsending, if_neg (by simp [hsending])]
    exact linkStep_self s
  · rw [if_neg hsending, if_pos (Option.isSome_iff_ne_none.2 hsending)]
    refine (linkStep_endAttempt s).updateLink ?_
    split <;> rfl

/-- Settles O22: the mailbox that FRAME_START offers is the first full one in the order of the classes. -/
theorem attemptsStartAndLose : Obligations.AttemptsStartAndLose := by
  intro s hrun full
  have hfull : full = boxFull s.link.boxes := by
    funext m
    cases m <;> rfl
  refine ⟨⟨_, by rw [exec, execFrameStart, event_of_running _ hrun], ?_⟩,
    ⟨_, by rw [exec, execArbitrationLost, event_of_running _ hrun], ?_⟩⟩
  · rw [hfull, ← lowestBox_eq_find?]
    exact (linkStep_frameStart s).acts.symm
  · exact (linkStep_arbitrationLost s).acts.symm

/-- R41: the frame being sent has left its mailbox. -/
def sentFrame (m : Mailbox) (s : State) : State :=
  updateLink (fun l => { l with sending := none, txErr := l.txErr - 1, boxes := emptyBox m l.boxes }) s

theorem frameSent_of_sending {m : Mailbox} {s : State} (h : s.link.sending = some m) :
    frameSent s = afterSent m (farewellWaits s.link.boxes) (sentFrame m s) := by
  simp only [frameSent, h]
  rfl

theorem linkStep_sentFrame (m : Mailbox) (s : State) : LinkStep
    { s.link with sending := none, txErr := s.link.txErr - 1, boxes := emptyBox m s.link.boxes } [] s (sentFrame m s) :=
  (linkStep_self s).updateLink

theorem keeps_openRound (s : State) : Keeps [.claims] s (openRound s) :=
  ⟨rfl, fun b hb => by cases b <;> simp_all [SameBlock, openRound]⟩

/-- Settles O26, by the mailbox of the frame sent. -/
theorem frameSentEmptiesItsMailbox : Obligations.FrameSentEmptiesItsMailbox := by
  intro s hrun
  refine ⟨_, by rw [exec, execFrameSent, event_of_running _ hrun], ?_⟩
  cases hsending : s.link.sending with
  | none =>
    simp only [frameSent, hsending]
    exact ⟨(alike_settle s).link, acts_settle_self ..⟩
  | some m =>
    rw [frameSent_of_sending hsending]
    have hsent := linkStep_sentFrame m s
    cases m with
    | object =>
      obtain ⟨hlink, hacts⟩ := hsent.acts
      exact ⟨hlink, rfl, hacts⟩
    | release | book | truck => exact hsent.acts
    | claim =>
      simp only [afterSent, claimSent, hsent.link]
      cases hwithdrawal : s.link.withdrawal with
      | none =>
        have hopened : Keeps [.link, .claims] s (openRound (sentFrame .claim s)) := hsent.keeps.andThen (keeps_openRound _)
        have halike := alike_settle (openRound (sentFrame .claim s))
        simp only [halike.link, halike.claims]
        exact ⟨hsent.link.trans (by simp [hwithdrawal]), rfl, rfl, rfl, acts_settle hopened (notices_of_eq rfl)⟩
      | some f =>
        have hlink := hsent.updateLink (f := fun l => { l with withdrawal := none })
        have halike := alike_settle (askRelease f (updateLink (fun l => { l with withdrawal := none }) (sentFrame .claim s)))
        simp only [halike.link, halike.claims]
        exact ⟨rfl, rfl, acts_settle (hlink.keeps.andThen (keeps_askRelease ..)) (notices_of_eq (by rw [askRelease_notices]; rfl))⟩
    | status =>
      dsimp only [afterSent]
      split
      · have hhalted := hsent.updateLink (f := fun l => { l with state := .halted, beats := 0, afterMuted := false })
        exact (LinkStep.updateLink hhalted).enters_settle
      · exact hsent.acts

/-! ### STATUS (R44, R56) -/

/-- R44: what DEFERRED_STATUS_COMPOSE makes of the link record. -/
theorem linkStep_composeDeferred (s : State) : LinkStep
    (if s.link.statusDeferred = true ∧ s.link.sending ≠ some .status then
      if s.link.state = .active ∧ s.link.leaving = false then
        { s.link with
          statusDeferred := false
          boxes := { s.link.boxes with status := some { status := composedStatus s, farewell := false } } }
      else { s.link with statusDeferred := false }
    else s.link) [] s (composeDeferred s) := by
  unfold composeDeferred
  split
  · dsimp only
    split
    · exact ((linkStep_self s).updateLink (f := fun l => { l with statusDeferred := false })).updateLink
        (f := fun l => { l with boxes := { s.link.boxes with status := some { status := composedStatus s, farewell := false } } })
    · exact (linkStep_self s).updateLink
  · exact linkStep_self s

/-- R56: what FAREWELL_COMPOSE makes of the link record. -/
theorem linkStep_composeStatus (farewell : Bool) (s : State) : LinkStep
    { s.link with boxes := { s.link.boxes with status := some { status := composedStatus s, farewell := farewell } } } [] s
    (composeStatus farewell s) :=
  ⟨rfl, keeps_setBoxes _ s, notices_of_eq rfl⟩

/-- Settles O28: each row's body, read as a change of the link record. -/
theorem statusComposedWhenDue : Obligations.StatusComposedWhenDue := by
  intro s hrun
  refine ⟨⟨_, by rw [exec, execDeferredStatusCompose, event_of_running _ hrun], (linkStep_composeDeferred s).acts.symm⟩,
    ⟨_, by rw [exec, execFarewellCompose, event_of_running _ hrun], ?_⟩⟩
  rw [← and_comm]
  simp only [farewellDue_iff]
  split
  · exact (linkStep_composeStatus true s).acts
  · exact (linkStep_self s).acts

/-! ### JOIN and LEAVE (R55, R56) -/

section
variable {l : Link} {s u : State}

/-- R135: an entry to a link state other than ACTIVE, by an accepted request. -/
theorem LinkStep.enters_accepted (h : LinkStep l [] s u) :
    LinkEnters l s (respond (.okWith []) (settle (linkDown u))) ∧
      Accepts lossBlocks [] lossNotices [] s (respond (.okWith []) (settle (linkDown u))) := by
  obtain ⟨hkeeps, hnotices⟩ := h.entered
  exact ⟨h.enters.alike (alike_respond_settle _ _) ((keeps_settle _).2 .tracker (by simp)), accepts_of_body hkeeps hnotices⟩

theorem LinkStep.accepted (h : LinkStep l [] s u) :
    (respond (.okWith []) (settle u)).link = l ∧ Accepts [.link] [] [] [] s (respond (.okWith []) (settle u)) :=
  ⟨by rw [(alike_respond_settle _ _).link, h.link], accepts_settle h.keeps h.notices (h.keeps.2 .port (by simp))⟩

/-- R55: the entry to LISTEN. -/
theorem startListen_spec (h : LinkStep l [] s u) (hcfg : u.cfg = s.cfg) :
    let t := respond (.okWith []) (settle (startListen u))
    LinkEnters { l with state := .listen, beats := 0, afterMuted := false, beatElapsed := 0, beatPeriod := s.cfg.beat } s t ∧
      Accepts lossBlocks [] lossNotices [] s t := by
  have hlisten := h.updateLink (f := fun l => { l with state := .listen, beats := 0, afterMuted := false })
  have htimed := hlisten.updateLink (f := fun l => { l with beatElapsed := 0, beatPeriod := s.cfg.beat })
  rw [startListen, hcfg]
  exact htimed.enters_accepted

end

theorem answers_of_body {i : Instr} {body : State → State × Reply} {r : Reply} {s : State} (hrun : Running s)
    (hexec : exec i s = .next (request body s)) (h : body s = (s, r)) (hr : r.status ≠ .ok) : Answers i r s := by
  rw [Answers, hexec, request_of_answer hrun h hr]

theorem exec_join_of_accepted {s u : State} (hrun : Running s) (h : joinBody s = (u, .okWith [])) :
    exec .join s = .next (respond (.okWith []) (settle u)) := by
  rw [exec, execJoin, request_of_acceptance hrun h]

/-- R55: JOIN by the link state. -/
theorem join_spec (s : State) (hrun : Running s) :
    let listens (signature : Nat) : Prop :=
      ∃ t, exec .join s = .next t ∧
        LinkEnters { s.link with
          state := .listen, signature := signature, beats := 0, afterMuted := false, beatElapsed := 0
          beatPeriod := s.cfg.beat } s t ∧
        Accepts lossBlocks [] lossNotices [] s t
    match s.link.state, s.cfg.stationId, s.cfg.geometry with
    | .config, some _, some g => listens (signatureOf g)
    | .halted, _, _ => listens s.link.signature
    | _, _, _ => Answers .join (.err .badState) s := by
  have hrefused (h : joinBody s = (s, .err .badState)) : Answers .join (.err .badState) s :=
    answers_of_body hrun rfl h (by decide)
  intro listens
  cases hstate : s.link.state with
  | config =>
    cases hid : s.cfg.stationId with
    | none => exact hrefused (by simp [joinBody, hstate, hid])
    | some id =>
      cases hg : s.cfg.geometry with
      | none => exact hrefused (by simp [joinBody, hstate, hid, hg])
      | some g =>
        have hsigned := (linkStep_self s).updateLink (f := fun l => { l with signature := signatureOf g })
        exact ⟨_, exec_join_of_accepted hrun (by simp only [joinBody, hstate, hid, hg]), startListen_spec hsigned rfl⟩
  | halted => exact ⟨_, exec_join_of_accepted hrun (by simp only [joinBody, hstate]), startListen_spec (linkStep_self s) rfl⟩
  | listen | active | muted | idclash => exact hrefused (by simp [joinBody, hstate])

/-- R56, R58: the entry to CONFIG by LEAVE. -/
theorem enterConfig_spec (s : State) : let t := respond (.okWith []) (settle (enterConfig s))
    LinkEnters { s.link with
      state := .config, leaving := false, beats := 0, afterMuted := false, statusDeferred := false
      receiving := false, sending := none, withdrawal := none
      boxes := { s.link.boxes with status := none, claim := none, objects := [] } } s t ∧
    Accepts lossBlocks [] lossNotices [] s t := by
  have hconfig := (linkStep_self s).updateLink (f := fun l => { l with state := .config, beats := 0, afterMuted := false })
  exact (LinkStep.updateLink hconfig).enters_accepted

/-- Settles O29: JOIN and LEAVE by the link state; each entry is one of R135. -/
theorem joinAndLeaveByLinkState : Obligations.JoinAndLeaveByLinkState := by
  refine ⟨join_spec, fun s hrun => ?_⟩
  have hrefused {r : Reply} (h : leaveBody s = (s, r)) (hr : r.status ≠ .ok) : Answers .leave r s :=
    answers_of_body hrun rfl h hr
  have hleaves {u : State} (h : leaveBody s = (u, .okWith [])) : exec .leave s = .next (respond (.okWith []) (settle u)) := by
    rw [exec, execLeave, request_of_acceptance hrun h]
  cases hstate : s.link.state with
  | listen =>
    rw [if_pos (.inl rfl)]
    by_cases hbusy : taskRunning s = true
    · rw [if_pos hbusy]
      exact hrefused (by simp [leaveBody, hstate, hbusy]) (by decide)
    · rw [if_neg hbusy, if_neg (by simp)]
      exact ⟨_, hleaves (by simp [leaveBody, hstate, hbusy]), enterConfig_spec s⟩
  | active =>
    rw [if_pos (.inr rfl)]
    by_cases hbusy : taskRunning s = true
    · rw [if_pos hbusy]
      exact hrefused (by simp [leaveBody, hstate, hbusy]) (by decide)
    · rw [if_neg hbusy, if_pos rfl]
      exact ⟨_, hleaves (by simp [leaveBody, hstate, hbusy]; rfl), ((linkStep_self s).updateLink).accepted⟩
  | config | muted | halted | idclash =>
    rw [if_neg (by simp)]
    exact hrefused (by simp [leaveBody, hstate]) (by decide)

/-! ### Frames that reach no owner (R42, R52, R53) -/

theorem exec_of_frameParts {c : Instr} {sender : Nat} {wellFormed shared : Bool}
    (h : frameParts c = some (sender, wellFormed, shared)) :
    ∃ owner, ∀ s, exec c s = .next (event (receiveFrame sender wellFormed shared owner) s) := by
  cases c with
  | statusReceived | farewellReceived | claimReceived | objectReceived | releaseReceived | pickedReceived | placedReceived
  | truckArriveReceived | truckCloseReceived | truckDepartReceived =>
    cases h
    exact ⟨_, fun _ => rfl⟩
  | _ => cases h

/-- Settles O30: the checks that a frame passes before its owner, in their order. -/
theorem framesKeptFromTheirOwners : Obligations.FramesKeptFromTheirOwners := by
  intro c sender wellFormed shared s hrun hparts
  obtain ⟨owner, hexec⟩ := exec_of_frameParts hparts
  refine ⟨_, by rw [hexec, event_of_running _ hrun], ?_⟩
  have hended := linkStep_endReception s
  have hid : ownId (endReception s) = ownId s := rfl
  have hforeign : senderForeign (endReception s) sender = senderForeign s sender := rfl
  unfold receiveFrame
  by_cases hconfig : s.link.state = .config
  · rw [if_pos hconfig, if_pos hconfig]
    exact ⟨(alike_settle s).link, acts_settle_self ..⟩
  rw [if_neg hconfig, if_neg hconfig]
  simp only [hid, hforeign]
  by_cases hformed : (senderOk sender && wellFormed) = true
  · rw [if_pos hformed, if_neg (by simp [hformed])]
    by_cases hown : sender = ownId s
    · rw [if_pos hown, if_pos hown]
      exact ownIdentifierSeen_spec hended
    · rw [if_neg hown, if_neg hown]
      intro hkept
      rw [if_pos hkept]
      exact hended.acts
  · rw [if_neg hformed, if_pos (by simpa using hformed)]
    simpa [received, hconfig] using (linkStep_countReceiveError hended).acts

end Sys2Proof.Machine
end

section
/-! PROOFS. Beat expiries (R44, R51, R55, R57, R59, R146): the entries of a REASSERT round are the references the station holds,
and what each expiry makes of the link. -/

namespace Sys2Proof.Machine

/-! ### The references the station holds (R145, R146) -/

theorem mem_ownCradles {bay : Nat} {b : Option Truck} {f : ReleaseFrame} : f ∈ ownCradles bay b ↔
    ∃ t i k v, b = some t ∧ t.cradles[i]? = some k ∧ cradleResv k.content = some v ∧ v.holder = .own ∧
      f = { round := v.round, refs := [.cradle bay i] } := by
  cases b with
  | none => simp [ownCradles]
  | some t =>
    simp only [ownCradles, List.mem_filterMap, Prod.exists, List.mem_zipIdx_iff_getElem?, Option.some.injEq]
    constructor
    · rintro ⟨k, i, hk, h⟩
      split at h
      next v hv =>
        obtain ⟨hown, h⟩ := Option.ite_none_right_eq_some.1 h
        obtain rfl := Option.some.inj h
        exact ⟨t, i, k, v, rfl, hk, hv, hown, rfl⟩
      · cases h
    · rintro ⟨_, i, k, v, rfl, hk, hv, hown, rfl⟩
      exact ⟨k, i, hk, by simp [hv, hown]⟩

theorem mem_ownReservations {s : State} {f : ReleaseFrame} : f ∈ ownReservations s ↔
    (∃ i r v, s.map[i]? = some r ∧ slotResv r.content = some v ∧ v.holder = .own ∧
      f = { round := v.round, refs := [.slot (refOfIndex s i).1 (refOfIndex s i).2] }) ∨
    ∃ bay t i k v, bayRecord s bay = some t ∧ t.cradles[i]? = some k ∧ cradleResv k.content = some v ∧ v.holder = .own ∧
      f = { round := v.round, refs := [.cradle bay i] } := by
  have hslots : f ∈ (s.map.zipIdx.filterMap fun (r, i) =>
      match slotResv r.content with
      | some v =>
        if v.holder = .own then
          some { round := v.round, refs := [.slot (refOfIndex s i).1 (refOfIndex s i).2] }
        else none
      | none => none) ↔ ∃ i r v, s.map[i]? = some r ∧ slotResv r.content = some v ∧ v.holder = .own ∧
      f = { round := v.round, refs := [.slot (refOfIndex s i).1 (refOfIndex s i).2] } := by
    simp only [List.mem_filterMap, Prod.exists, List.mem_zipIdx_iff_getElem?]
    constructor
    · rintro ⟨r, i, hr, h⟩
      split at h
      next v hv =>
        obtain ⟨hown, h⟩ := Option.ite_none_right_eq_some.1 h
        obtain rfl := Option.some.inj h
        exact ⟨i, r, v, hr, hv, hown, rfl⟩
      · cases h
    · rintro ⟨i, r, v, hr, hv, hown, rfl⟩
      exact ⟨r, i, hr, by simp [hv, hown]⟩
  rw [ownReservations, List.mem_append, List.mem_append, mem_ownCradles, mem_ownCradles, or_assoc]
  refine or_congr hslots ⟨?_, ?_⟩
  · rintro (⟨t, i, k, v, ht, h⟩ | ⟨t, i, k, v, ht, h⟩)
    · exact ⟨0, t, i, k, v, ht, h⟩
    · exact ⟨1, t, i, k, v, ht, h⟩
  · rintro ⟨bay, t, i, k, v, ht, h⟩
    match bay with
    | 0 => exact .inl ⟨t, i, k, v, ht, h⟩
    | 1 => exact .inr ⟨t, i, k, v, ht, h⟩
    | _ + 2 => cases ht

/-- R102: the index of a slot of the geometry is that of its row and column. -/
theorem slotIndex_div_mod {g : Geometry} {i : Nat} (h : i < g.rows * columns g) :
    slotIndex g (i / columns g) (i % columns g) = some i := by
  have hcolumns : 0 < columns g := Nat.pos_of_mul_pos_left (Nat.zero_lt_of_lt h)
  have hrow : i / columns g < g.rows := (Nat.div_lt_iff_lt_mul hcolumns).2 h
  rw [slotIndex, if_pos ⟨hrow, Nat.mod_lt i hcolumns⟩, Nat.mul_comm, Nat.div_add_mod]

theorem slotAt_refOfIndex {s : State} (hshape : MapShape s) {i : Nat} {r : SlotRecord} (hr : s.map[i]? = some r) :
    slotAt s (refOfIndex s i).1 (refOfIndex s i).2 = some r := by
  obtain ⟨hi, -⟩ := List.getElem?_eq_some_iff.1 hr
  cases hg : s.cfg.geometry with
  | none =>
    simp only [MapShape, hg] at hshape
    simp [hshape] at hi
  | some g =>
    simp only [MapShape, hg] at hshape
    have hindex := slotIndex_div_mod (g := g) (hshape ▸ hi)
    exact slotAt_eq_some_iff.2 ⟨g, i, hg, by simpa [refOfIndex, hg] using hindex, hr⟩

/-- The references that the releases of own reservations name are those the station holds. -/
theorem ownResvAt_isSome_iff {s : State} (hshape : MapShape s) (ref : Ref) :
    (ownResvAt s ref).isSome = true ↔ ∃ f ∈ ownReservations s, ref ∈ f.refs := by
  constructor
  · intro h
    obtain ⟨v, hv⟩ := Option.isSome_iff_exists.1 h
    obtain ⟨f, hf, -, href⟩ := named_ownReservations hv
    exact ⟨f, hf, href⟩
  · rintro ⟨f, hf, href⟩
    have hheld {v : Reservation} (hresv : resvAt s ref = some v) (hown : v.holder = .own) : (ownResvAt s ref).isSome = true := by
      rw [ownResvAt_eq_some_iff.2 ⟨hresv, by simp [Reservation.isOwn, hown]⟩]
      rfl
    obtain ⟨i, r, v, hr, hv, hown, rfl⟩ | ⟨bay, t, i, k, v, ht, hk, hv, hown, rfl⟩ := mem_ownReservations.1 hf
    · obtain rfl := List.mem_singleton.1 href
      refine hheld (v := v) ?_ hown
      rw [resvAt_slot, contentAt_of_slotAt (slotAt_refOfIndex hshape hr), hv]
    · obtain rfl := List.mem_singleton.1 href
      refine hheld (v := v) ?_ hown
      rw [resvAt_cradle, cradleAt_eq_some_iff.2 ⟨t, ht, hk⟩, Option.bind_some, hv]

/-- R146: the direction in which a REASSERT round claims a reference. -/
def entryDir (s : State) : Ref → ClaimDir
  | .slot row column =>
    match contentAt s row column with
    | .reservedOut c _ => .outward c.coil
    | _ => .inward
  | .cradle _ _ => .inward

theorem ownEntries_eq (s : State) : ownEntries s =
    (ownReservations s).flatMap fun f => f.refs.map fun ref => { ref := ref, dir := entryDir s ref } := rfl

theorem mem_ownEntries {s : State} (hshape : MapShape s) (e : ClaimEntry) :
    e ∈ ownEntries s ↔ (ownResvAt s e.ref).isSome = true ∧ e.dir = entryDir s e.ref := by
  simp only [ownEntries_eq, List.mem_flatMap, List.mem_map, ownResvAt_isSome_iff hshape]
  constructor
  · rintro ⟨f, hf, ref, href, rfl⟩
    exact ⟨⟨f, hf, href⟩, rfl⟩
  · rintro ⟨⟨f, hf, href⟩, hdir⟩
    exact ⟨f, hf, e.ref, href, by rw [← hdir]⟩

theorem ownEntries_eq_nil_iff (s : State) : ownEntries s = [] ↔ ownReservations s = [] := by
  have hrefs {f : ReleaseFrame} (hf : f ∈ ownReservations s) : f.refs ≠ [] := by
    obtain ⟨i, r, v, -, -, -, rfl⟩ | ⟨bay, t, i, k, v, -, -, -, -, rfl⟩ := mem_ownReservations.1 hf
    · exact List.cons_ne_nil _ _
    · exact List.cons_ne_nil _ _
  simp only [ownEntries_eq, List.flatMap_eq_nil_iff, List.map_eq_nil_iff]
  exact ⟨fun h => List.eq_nil_iff_forall_not_mem.2 fun f hf => hrefs hf (h f hf), fun h f hf => by simp [h] at hf⟩

/-! ### The beat (R44, R51, R55, R57, R59) -/

/-- R51, R59, R204: the link record at the start of the next beat. -/
def nextBeat (s : State) : Link := { s.link with rxErr := 0, beatElapsed := 0, beatPeriod := s.cfg.beat }

theorem linkStep_beatStarted (s : State) : LinkStep (nextBeat s) [] s (beatStarted s) := (linkStep_self s).updateLink

theorem linkStep_beatCounted (s : State) : LinkStep { nextBeat s with beats := s.link.beats + 1 } [] s (beatCounted s) :=
  (linkStep_beatStarted s).updateLink

/-- R44: what a beat expiry in ACTIVE makes of the link record. -/
theorem linkStep_beatStatus (s : State) : LinkStep
    (if s.link.leaving = true then nextBeat s
      else if s.link.sending = some .status then { nextBeat s with statusDeferred := true }
      else { nextBeat s with
        boxes := { s.link.boxes with status := some { status := composedStatus s, farewell := false } } }) [] s
    (beatStatus (beatStarted s)) := by
  have hstarted := linkStep_beatStarted s
  have hleaving : (beatStarted s).link.leaving = s.link.leaving := rfl
  have hsending : (beatStarted s).link.sending = s.link.sending := rfl
  unfold beatStatus
  rw [hleaving, hsending]
  split
  · exact hstarted
  · split
    · exact hstarted.updateLink
    · exact hstarted.trans (linkStep_composeStatus false (beatStarted s))

/-- R55: the entry to ACTIVE, before what R146 adds. -/
def joinedActive (s : State) : State := composeStatus false (raise .joined (enterLinkState .active false (beatStarted s)))

/-- R55: the link record at the entry to ACTIVE. -/
def joinedLink (s : State) : Link :=
  { nextBeat s with
    state := .active, beats := 0, afterMuted := false
    boxes := { s.link.boxes with status := some { status := composedStatus s, farewell := false } } }

theorem linkStep_joinedActive (s : State) : LinkStep (joinedLink s) [.joined] s (joinedActive s) := by
  have hactive := (linkStep_beatStarted s).updateLink (f := fun l => { l with state := .active, beats := 0, afterMuted := false })
  exact (hactive.raise .joined).trans (linkStep_composeStatus false (raise .joined (enterLinkState .active false (beatStarted s))))

theorem enterActive_eq (s : State) :
    enterActive (beatStarted s) = if s.link.afterMuted = true then reassert (joinedActive s) else joinedActive s := rfl

/-- R146: what a reservation becomes in a REASSERT round. -/
def renewedResv (s : State) (v : Reservation) : Reservation :=
  if v.holder = .own then { v with round := nextRound s, phase := .pending, since := s.clock.now } else v

/-- R146: a REASSERT round claims all own reservations anew. -/
def reasserted (s u : State) : State :=
  updateTask (fun t => { t with round := nextRound s })
    (queueRound .reassert ((s.tracker.task.map Task.priority).getD 0) (ownEntries s) (mapReservations (renewedResv s) u))

theorem reassert_joinedActive (s : State) :
    reassert (joinedActive s) = if ownReservations s = [] then joinedActive s else reasserted s (joinedActive s) := by
  have hentries : ownEntries (joinedActive s) = ownEntries s := rfl
  have hrenewed : (fun v : Reservation => if v.isOwn = true then
      { v with round := nextRound (joinedActive s), phase := .pending, since := (joinedActive s).clock.now } else v) =
      renewedResv s := by
    funext v
    simp only [Reservation.isOwn, decide_eq_true_eq]
    rfl
  simp only [reassert, hentries, List.isEmpty_iff, ownEntries_eq_nil_iff, hrenewed]
  rfl

theorem keeps_reasserted (s u : State) : Keeps lossBlocks u (reasserted s u) :=
  ⟨rfl, fun b hb => by cases b <;> simp_all [SameBlock, lossBlocks, reasserted, queueRound, setBoxes, updateTask]⟩

theorem reservationsMapped_settle {f : Reservation → Reservation} {s t : State} (h : ReservationsMapped f s t) :
    ReservationsMapped f s (settle t) := by
  obtain ⟨hmap, hbay0, hbay1⟩ := h
  have halike := alike_settle t
  exact ⟨halike.map.trans hmap, halike.bay0.trans hbay0, halike.bay1.trans hbay1⟩

/-- R146: what the settled state shows of a REASSERT round. -/
theorem reasserted_spec (s : State) :
    let t := settle (reasserted s (joinedActive s))
    let n := nextRound s
    let priority := (s.tracker.task.map Task.priority).getD 0
    t.link = { joinedLink s with boxes := { (joinedLink s).boxes with
      claim := some { round := n, priority := priority, entries := ownEntries s } } } ∧
    t.claims = { s.claims with
      counter := n
      round := some { number := n, purpose := .reassert, priority := priority, entries := ownEntries s,
                      stage := .queued, windowTime := 0 } } ∧
    t.tracker = { s.tracker with task := s.tracker.task.map fun k => { k with round := n } } ∧
    ReservationsMapped (renewedResv s) s t ∧ Acts lossBlocks [.joined] [] s t := by
  have halike := alike_settle (reasserted s (joinedActive s))
  have hjoined := linkStep_joinedActive s
  exact ⟨halike.link, halike.claims, (keeps_settle _).2 .tracker (by simp), reservationsMapped_settle ⟨rfl, rfl, rfl⟩,
    acts_settle (hjoined.keeps.andThen (keeps_reasserted s _) (by simp [lossBlocks]) (by simp))
      (notices_trans_of_eq hjoined.notices rfl)⟩

/-- Settles O27, by the link state; the entries of the REASSERT round are the references the station holds. -/
theorem beatExpiryByLinkState : Obligations.BeatExpiryByLinkState := by
  intro s hrun next status
  obtain ⟨hnext, hstatus⟩ : next = nextBeat s ∧ status = { status := composedStatus s, farewell := false } := ⟨rfl, rfl⟩
  clear_value next status
  subst hnext hstatus
  refine ⟨_, by rw [exec, execBeatExpiry, event_of_running _ hrun], ?_⟩
  have hstarted := linkStep_beatStarted s
  cases hstate : s.link.state with
  | config =>
    rw [beatExpiry_of_quiet (.inl hstate)]
    exact hstarted.acts
  | halted =>
    rw [beatExpiry_of_quiet (.inr (.inl hstate))]
    exact hstarted.acts
  | idclash =>
    rw [beatExpiry_of_quiet (.inr (.inr hstate))]
    exact hstarted.acts
  | active =>
    rw [beatExpiry_of_active hstate]
    exact (linkStep_beatStatus s).acts
  | muted =>
    rw [beatExpiry_of_muted hstate]
    by_cases hbeats : s.link.beats + 1 < 20
    · simp only [if_pos hbeats]
      exact (linkStep_beatCounted s).acts
    · simp only [if_neg hbeats]
      have hlisten := hstarted.updateLink (f := fun l => { l with state := .listen, beats := 0, afterMuted := true })
      exact (LinkStep.updateLink hlisten).enters_settle
  | listen =>
    rw [beatExpiry_of_listen hstate]
    by_cases hbeats : s.link.beats + 1 < 10
    · simp only [if_pos hbeats]
      exact (linkStep_beatCounted s).acts
    · simp only [if_neg hbeats]
      have hjoined := linkStep_joinedActive s
      rw [enterActive_eq, reassert_joinedActive]
      by_cases hmuted : s.link.afterMuted = true
      · rw [if_pos hmuted]
        by_cases hnone : ownReservations s = []
        · rw [if_pos hnone, if_neg fun h => h.2 hnone]
          exact hjoined.acts
        · rw [if_neg hnone, if_pos ⟨hmuted, hnone⟩]
          obtain ⟨hlink, hclaims, htracker, hmapped, hacts⟩ := reasserted_spec s
          have hentries : ((settle (reasserted s (joinedActive s))).claims.round.map Round.entries).getD [] = ownEntries s := by
            rw [hclaims]
            rfl
          simp only [hentries]
          refine ⟨fun hshape e => (mem_ownEntries hshape e).trans ?_, hlink, hclaims, htracker, hmapped, hacts⟩
          cases e.ref <;> rfl
      · rw [if_neg hmuted, if_neg fun h => hmuted h.1]
        exact hjoined.acts

end Sys2Proof.Machine
end

section
/-! PROOFS. The three TRUCK requests (R49, R178, R179, R182, R184). -/

namespace Sys2Proof.Machine

/-- A TRUCK frame queued and a bay's record set, as the reply of an accepted request shows them. -/
theorem truckRequest_spec {bay : Nat} {r : Option Truck} {f : TruckFrame} {must : List Notice} {s u : State} (hbay : bay ≤ 1)
    (hkeeps : Keeps [] (setBay bay r (queueTruck f s)) u) (hnotices : Notices must [] (setBay bay r (queueTruck f s)) u) :
    let t := respond (.okWith []) (settle u)
    t.link = { s.link with boxes := { s.link.boxes with truck := some f } } ∧ bayRecord t bay = r ∧
      (∀ b, b ≠ bay → bayRecord t b = bayRecord s b) ∧ Accepts [.link, .trucks] must [] [] s t := by
  have halike := alike_respond_settle (.okWith []) u
  obtain ⟨hbay0, hbay1⟩ := hkeeps.2 .trucks (by simp)
  have hrecord : bayRecord u = bayRecord (setBay bay r (queueTruck f s)) := bayRecord_congr hbay0 hbay1
  have hset := keeps_setBay bay r (queueTruck f s)
  have hlink : u.link = (queueTruck f s).link := (keeps_trans hset (keeps_mono (by simp) hkeeps)).2 .link (by simp)
  have hall : Keeps [.link, .trucks] s u := (keeps_setBoxes _ s).andThen (keeps_trans hset (keeps_mono (by simp) hkeeps))
  have hqueued : (setBay bay r (queueTruck f s)).notices = s.notices := by simp [queueTruck, setBoxes]
  refine ⟨halike.link.trans hlink, ?_, fun b hb => ?_, accepts_settle hall (notices_of_eq_trans hqueued hnotices)
    (hall.2 .port (by simp))⟩
  · rw [halike.bayRecord, hrecord, bayRecord_setBay_same _ _ hbay]
  · rw [halike.bayRecord, hrecord, bayRecord_setBay_ne _ _ hb]
    rfl

theorem truckRequest_raise {bay : Nat} {r : Option Truck} {f : TruckFrame} (n : Notice) {s : State} (hbay : bay ≤ 1) :
    let t := respond (.okWith []) (settle (raise n (setBay bay r (queueTruck f s))))
    t.link = { s.link with boxes := { s.link.boxes with truck := some f } } ∧ bayRecord t bay = r ∧
      (∀ b, b ≠ bay → bayRecord t b = bayRecord s b) ∧ Accepts [.link, .trucks] [n] [] [] s t :=
  truckRequest_spec hbay (keeps_raise n _) (notices_raise n _)

theorem clampOffset_eq_min (x : Nat) : clampOffset x = min x 16000 := by
  unfold clampOffset clampNat
  omega

/-- R178: orientation code 0 is +, code 1 is −, and code 2 is the bay's own. -/
theorem orientationFor_eq (b : BayItem) (code : Nat) :
    orientationFor b code = if code = 0 then .plus else if code = 1 then .minus else b.orientation := by
  match code with
  | 0 | 1 | _ + 2 => rfl

theorem arriveOk_eq_false_iff (bay : Nat) (offsets : List Nat) :
    arriveOk bay offsets = false ↔ 1 < bay ∨ offsets.length < 1 ∨ 6 < offsets.length := by
  simp only [arriveOk, bayOk, cradleCountOk, Bool.and_eq_false_iff, decide_eq_false_iff_not]
  omega

theorem bayOk_eq_false_iff (bay : Nat) : bayOk bay = false ↔ 1 < bay := by simp [bayOk]

/-- R184: a cradle is RESERVED where it holds a reservation. -/
theorem anyReserved_eq (t : Truck) : t.anyReserved = t.cradles.any fun k => decide (k.content.code = 1) := by
  unfold Truck.anyReserved
  congr 1
  funext k
  cases k.content <;> rfl

theorem truckRefusal_ne_ok {s : State} {st : Status} (h : truckRefusal s = some st) : (Reply.err st).status ≠ .ok := by
  unfold truckRefusal at h
  split_ifs at h <;> obtain rfl := Option.some.inj h <;> exact nofun

section
variable {bay : Nat} {s : State} (hrun : Running s)
include hrun

/-- R178, R179: TRUCK_ARRIVE, its checks in order and its effect. -/
theorem truckArrive_spec (truckRef orientation : Nat) (trailer : Trailer) (offsets : List Nat) :
    let c := Instr.truckArrive bay truckRef orientation trailer offsets
    if 1 < bay ∨ offsets.length < 1 ∨ 6 < offsets.length ∨ 2 < orientation then Answers c (.err .badArg) s
    else
      match bayItem s.cfg bay, bayRecord s bay, truckRefusal s with
      | none, _, _ => Answers c (.err .badState) s
      | some _, some _, _ => Answers c (.err .bayBusy) s
      | some _, none, some st => Answers c (.err st) s
      | some b, none, none =>
        let o : Orientation := if orientation = 0 then .plus else if orientation = 1 then .minus else b.orientation
        let clamped := clampTrailer trailer
        let places := offsets.map fun x => min x 16000
        ∃ t, exec c s = .next t ∧
          t.link = { s.link with boxes := { s.link.boxes with truck := some (.arrive bay truckRef o clamped places) } } ∧
          bayRecord t bay = some
            { closed := false, truckRef := truckRef, announcer := ownId s, orientation := o, trailer := clamped
              cradles := places.map fun x => { offset := x, content := .free }
              K := clamped.K0, A := clamped.A0, overLimit := false } ∧
          (∀ b, b ≠ bay → bayRecord t b = bayRecord s b) ∧ Accepts [.link, .trucks] [.truckArrived] [] [] s t := by
  intro c
  have hrefused {r : Reply} (h : truckArrive bay truckRef orientation trailer offsets s = (s, r)) (hr : r.status ≠ .ok) :
      Answers c r s := answers_of_body hrun rfl h hr
  have hbad : arriveOk bay offsets = false ∨ 2 < orientation ↔
      1 < bay ∨ offsets.length < 1 ∨ 6 < offsets.length ∨ 2 < orientation := by
    rw [arriveOk_eq_false_iff, or_assoc, or_assoc]
  have hplaces : offsets.map clampOffset = offsets.map fun x => min x 16000 :=
    List.map_congr_left fun x _ => clampOffset_eq_min x
  by_cases hargs : 1 < bay ∨ offsets.length < 1 ∨ 6 < offsets.length ∨ 2 < orientation
  · rw [if_pos hargs]
    exact hrefused (by rw [truckArrive, if_pos (hbad.2 hargs)]) nofun
  rw [if_neg hargs]
  have hgood := mt hbad.1 hargs
  cases hitem : bayItem s.cfg bay with
  | none => exact hrefused (by simp only [truckArrive, if_neg hgood, hitem]) nofun
  | some b =>
    cases hrecord : bayRecord s bay with
    | some x => exact hrefused (by simp [truckArrive, if_neg hgood, hitem, hrecord]) nofun
    | none =>
      cases hrefusal : truckRefusal s with
      | some st => exact hrefused (by simp [truckArrive, if_neg hgood, hitem, hrecord, hrefusal]) (truckRefusal_ne_ok hrefusal)
      | none =>
        have haccepted : truckArrive bay truckRef orientation trailer offsets s =
            (arrive bay truckRef (orientationFor b orientation) trailer offsets s, .okWith []) := by
          simp [truckArrive, if_neg hgood, hitem, hrecord, hrefusal]
        rw [arrive, hplaces, orientationFor_eq] at haccepted
        have hexec := request_of_acceptance hrun haccepted
        exact ⟨_, congrArg Host.Outcome.next hexec, truckRequest_raise .truckArrived (by omega)⟩

/-- R182: TRUCK_CLOSE, its checks in order and its effect. -/
theorem truckClose_spec : if 1 < bay then Answers (.truckClose bay) (.err .badArg) s
    else
      match bayRecord s bay, truckRefusal s with
      | none, _ => Answers (.truckClose bay) (.err .badState) s
      | some b, r =>
        if b.closed then Answers (.truckClose bay) (.err .badState) s
        else
          match r with
          | some st => Answers (.truckClose bay) (.err st) s
          | none =>
            ∃ t, exec (.truckClose bay) s = .next t ∧
              t.link = { s.link with boxes := { s.link.boxes with truck := some (.close bay b.truckRef) } } ∧
              bayRecord t bay = some { b with closed := true } ∧ (∀ b, b ≠ bay → bayRecord t b = bayRecord s b) ∧
              Accepts [.link, .trucks] [] [] [] s t := by
  have hrefused {r : Reply} (h : truckClose bay s = (s, r)) (hr : r.status ≠ .ok) : Answers (.truckClose bay) r s :=
    answers_of_body hrun rfl h hr
  by_cases hbay : 1 < bay
  · rw [if_pos hbay]
    exact hrefused (by rw [truckClose, if_pos ((bayOk_eq_false_iff bay).2 hbay)]) nofun
  rw [if_neg hbay]
  have hgood := mt (bayOk_eq_false_iff bay).1 hbay
  cases hrecord : bayRecord s bay with
  | none => exact hrefused (by simp only [truckClose, if_neg hgood, hrecord]) nofun
  | some b =>
    dsimp only
    by_cases hclosed : b.closed = true
    · rw [if_pos hclosed]
      exact hrefused (by simp only [truckClose, if_neg hgood, hrecord, hclosed, if_true]) nofun
    rw [if_neg hclosed]
    cases hrefusal : truckRefusal s with
    | some st => exact hrefused (by simp only [truckClose, if_neg hgood, hrecord, if_neg hclosed, hrefusal]) (truckRefusal_ne_ok hrefusal)
    | none =>
      have haccepted : truckClose bay s =
          (setBay bay (some { b with closed := true }) (queueTruck (.close bay b.truckRef) s), .okWith []) := by
        simp only [truckClose, if_neg hgood, hrecord, if_neg hclosed, hrefusal]
      exact ⟨_, by rw [exec, execTruckClose, request_of_acceptance hrun haccepted],
        truckRequest_spec (by omega) (keeps_refl ..) (notices_refl ..)⟩

/-- R184: TRUCK_DEPART, its checks in order and its effect. -/
theorem truckDepart_spec : if 1 < bay then Answers (.truckDepart bay) (.err .badArg) s
    else
      match bayRecord s bay, truckRefusal s with
      | none, _ => Answers (.truckDepart bay) (.err .badState) s
      | some b, r =>
        if b.cradles.any (fun k => decide (k.content.code = 1)) then Answers (.truckDepart bay) (.err .cradleReserved) s
        else
          match r with
          | some st => Answers (.truckDepart bay) (.err st) s
          | none =>
            ∃ t, exec (.truckDepart bay) s = .next t ∧
              t.link = { s.link with boxes := { s.link.boxes with truck := some (.depart bay b.truckRef) } } ∧
              bayRecord t bay = none ∧ (∀ b, b ≠ bay → bayRecord t b = bayRecord s b) ∧
              Accepts [.link, .trucks] [.truckDeparted] [] [] s t := by
  have hrefused {r : Reply} (h : truckDepart bay s = (s, r)) (hr : r.status ≠ .ok) : Answers (.truckDepart bay) r s :=
    answers_of_body hrun rfl h hr
  by_cases hbay : 1 < bay
  · rw [if_pos hbay]
    exact hrefused (by rw [truckDepart, if_pos ((bayOk_eq_false_iff bay).2 hbay)]) nofun
  rw [if_neg hbay]
  have hgood := mt (bayOk_eq_false_iff bay).1 hbay
  cases hrecord : bayRecord s bay with
  | none => exact hrefused (by simp only [truckDepart, if_neg hgood, hrecord]) nofun
  | some b =>
    dsimp only
    rw [← anyReserved_eq]
    by_cases hreserved : b.anyReserved = true
    · rw [if_pos hreserved]
      exact hrefused (by simp only [truckDepart, if_neg hgood, hrecord, hreserved, if_true]) nofun
    rw [if_neg hreserved]
    cases hrefusal : truckRefusal s with
    | some st =>
      exact hrefused (by simp only [truckDepart, if_neg hgood, hrecord, if_neg hreserved, hrefusal]) (truckRefusal_ne_ok hrefusal)
    | none =>
      have haccepted : truckDepart bay s =
          (raise .truckDeparted (setBay bay none (queueTruck (.depart bay b.truckRef) s)), .okWith []) := by
        simp only [truckDepart, if_neg hgood, hrecord, if_neg hreserved, hrefusal]
      exact ⟨_, by rw [exec, execTruckDepart, request_of_acceptance hrun haccepted], truckRequest_raise .truckDeparted (by omega)⟩

end

/-- Settles O50, by the three requests. -/
theorem truckRequestsChangeTheRecord : Obligations.TruckRequestsChangeTheRecord := fun _ truckRef orientation trailer offsets _ hrun =>
  ⟨truckArrive_spec hrun truckRef orientation trailer offsets, truckClose_spec hrun, truckDepart_spec hrun⟩

end Sys2Proof.Machine
end

section
/-! PROOFS. The RELEASE and OBJECT mailboxes (R46, R48) and the held release requests put again (R145). -/

namespace Sys2Proof.Machine

/-! ### One RELEASE request, one OBJECT (R46, R48, R145) -/

section
variable {f w : ReleaseFrame} {s : State}

/-- R46: an empty RELEASE mailbox takes any request. -/
theorem putRelease_of_empty (f : ReleaseFrame) (h : s.link.boxes.release = none) :
    putRelease f s = some (setBoxes { s.link.boxes with release := some f } s) := by
  simp only [putRelease, h]

/-- R46: a waiting RELEASE takes a request of its round while it is not being sent and both name at most four references. -/
theorem putRelease_of_waiting (h : s.link.boxes.release = some w) : putRelease f s =
    if s.link.sending ≠ some .release ∧ w.round = f.round ∧ (mergedRefs w.refs f.refs).length ≤ 4 then
      some (setBoxes { s.link.boxes with release := some { w with refs := mergedRefs w.refs f.refs } } s)
    else none := by
  simp only [putRelease, h]

theorem askRelease_of_put {t : State} (hf : f.refs ≠ []) (h : putRelease f s = some t) : askRelease f s = t := by
  simp [askRelease, hf, h]

theorem askRelease_of_not_put (hf : f.refs ≠ []) (h : putRelease f s = none) :
    askRelease f s = s.withClaims { s.claims with heldRequests := s.claims.heldRequests ++ [f] } := by
  simp [askRelease, hf, h]

/-- R46, R145: a RELEASE asked for is queued, merged or held. -/
theorem askRelease_cases (hf : f.refs ≠ []) :
    match s.link.boxes.release with
    | none => (askRelease f s).link.boxes.release = some f ∧ (askRelease f s).claims = s.claims
    | some w =>
      if s.link.sending ≠ some .release ∧ w.round = f.round ∧ (mergedRefs w.refs f.refs).length ≤ 4 then
        (askRelease f s).link.boxes.release = some { round := w.round, refs := mergedRefs w.refs f.refs } ∧
        (askRelease f s).claims = s.claims
      else
        (askRelease f s).link = s.link ∧ (askRelease f s).claims.heldRequests = s.claims.heldRequests ++ [f] := by
  cases hrelease : s.link.boxes.release with
  | none =>
    dsimp only
    rw [askRelease_of_put hf (putRelease_of_empty f hrelease)]
    exact ⟨rfl, rfl⟩
  | some w =>
    have hput := putRelease_of_waiting (f := f) hrelease
    dsimp only
    split
    next h =>
      rw [if_pos h] at hput
      rw [askRelease_of_put hf hput]
      exact ⟨rfl, rfl⟩
    next h =>
      rw [if_neg h] at hput
      rw [askRelease_of_not_put hf hput]
      exact ⟨rfl, rfl⟩

end

/-- R48: an OBJECT is added to the mailboxes unless it waits there, or dropped where both are full. -/
theorem askObject_cases (f : ObjectFrame) (s : State) :
    if f ∈ s.link.boxes.objects then askObject f s = s
    else if s.link.boxes.objects.length < 2 then
      (askObject f s).link = { s.link with boxes := { s.link.boxes with objects := s.link.boxes.objects ++ [f] } } ∧
      (askObject f s).notices = s.notices
    else (askObject f s).link = s.link ∧ Raised .objectionDropped s (askObject f s) := by
  simp only [askObject, List.contains_iff_mem]
  split
  · rfl
  · split
    · exact ⟨rfl, rfl⟩
    · exact ⟨rfl, raise_raised ..⟩

/-! ### The held requests put again (R145) -/

/-- The references of a RELEASE frame after the requests merged into it. -/
def mergedAll (refs : List Ref) (fs : List ReleaseFrame) : List Ref := fs.foldl (fun refs g => mergedRefs refs g.refs) refs

/-- The state with a RELEASE waiting and requests held. -/
def withRelease (f : ReleaseFrame) (held : List ReleaseFrame) (s : State) : State :=
  (setBoxes { s.link.boxes with release := some f } s).withClaims { s.claims with heldRequests := held }

/-- R145: of the requests put again the first are merged into the waiting RELEASE, up to the first that is not taken. -/
theorem putHeld_of_waiting (fs : List ReleaseFrame) (w : ReleaseFrame) (s : State) (hw : s.link.boxes.release = some w) :
    ∃ n, let refs := mergedAll w.refs (fs.take n)
      putHeld fs s = withRelease { round := w.round, refs := refs } (fs.drop n) s ∧
      (w.refs.length ≤ 4 → refs.length ≤ 4) ∧
      (∀ g ∈ fs.take n, g.round = w.round ∧ s.link.sending ≠ some .release ∧ refs.length ≤ 4) ∧
      ∀ g ∈ (fs.drop n).head?, s.link.sending = some .release ∨ g.round ≠ w.round ∨ 4 < (mergedRefs refs g.refs).length := by
  have hself (held : List ReleaseFrame) :
      s.withClaims { s.claims with heldRequests := held } = withRelease { round := w.round, refs := w.refs } held s := by
    rw [withRelease, setBoxes, ← hw]
    rfl
  induction fs generalizing w s with
  | nil => exact ⟨0, hself [], id, nofun, nofun⟩
  | cons g gs ih =>
    have hput := putRelease_of_waiting (f := g) hw
    by_cases htaken : s.link.sending ≠ some .release ∧ w.round = g.round ∧ (mergedRefs w.refs g.refs).length ≤ 4
    · rw [if_pos htaken] at hput
      obtain ⟨hsending, hround, hlength⟩ := htaken
      obtain ⟨n, hstate, hshort, htook, hleft⟩ := ih { w with refs := mergedRefs w.refs g.refs }
        (setBoxes { s.link.boxes with release := some { w with refs := mergedRefs w.refs g.refs } } s) rfl fun _ => rfl
      refine ⟨n + 1, ?_, fun _ => hshort hlength, fun x hx => ?_, hleft⟩
      · simp only [putHeld, hput, hstate]
        rfl
      · obtain rfl | hx := List.mem_cons.1 hx
        · exact ⟨hround.symm, hsending, hshort hlength⟩
        · exact htook x hx
    · rw [if_neg htaken] at hput
      refine ⟨0, ?_, id, nofun, fun x hx => ?_⟩
      · simp only [putHeld, hput]
        exact hself (g :: gs)
      · obtain rfl : g = x := Option.some.inj hx
        by_contra hnot
        simp only [not_or, not_not] at hnot
        obtain ⟨hsending, hround, hlength⟩ := hnot
        exact htaken ⟨hsending, hround.symm, Nat.le_of_not_lt hlength⟩

/-- R145: the held requests put into an empty mailbox: the oldest fills it. -/
theorem putHeld_of_empty (f : ReleaseFrame) (fs : List ReleaseFrame) {s : State} (h : s.link.boxes.release = none) :
    ∃ n, let refs := mergedAll f.refs (fs.take n)
      putHeld (f :: fs) s = withRelease { round := f.round, refs := refs } (fs.drop n) s ∧
      (∀ g ∈ fs.take n, g.round = f.round ∧ s.link.sending ≠ some .release ∧ refs.length ≤ 4) ∧
      ∀ g ∈ (fs.drop n).head?, s.link.sending = some .release ∨ g.round ≠ f.round ∨ 4 < (mergedRefs refs g.refs).length := by
  obtain ⟨n, hstate, -, htook, hleft⟩ := putHeld_of_waiting fs f (setBoxes { s.link.boxes with release := some f } s) rfl
  refine ⟨n, ?_, htook, hleft⟩
  simp only [putHeld, putRelease_of_empty f h, hstate]
  rfl

theorem keeps_withRelease (f : ReleaseFrame) (held : List ReleaseFrame) (s : State) :
    Keeps [.link, .claims] s (withRelease f held s) := keeps_withLink_withClaims s

/-- Settles O31: the requests put again are merged, by induction on the list of those held, up to the first not taken. -/
theorem mailboxesTakeReleasesAndObjects : Obligations.MailboxesTakeReleasesAndObjects := by
  refine ⟨fun s => ⟨fun f hf => askRelease_cases hf, fun f => askObject_cases f s⟩, fun s hrun => ?_⟩
  refine ⟨_, by rw [exec, execReleaseRequestRetry, event_of_running _ hrun], ?_⟩
  simp only [retryDue_iff]
  have hidle := alike_settle s
  cases hrelease : s.link.boxes.release with
  | some w =>
    rw [if_neg (by simp)]
    exact ⟨hidle.link, hidle.claims, acts_settle_self ..⟩
  | none =>
    cases hheld : s.claims.heldRequests with
    | nil =>
      rw [if_neg (by simp)]
      exact ⟨hidle.link, hidle.claims, acts_settle_self ..⟩
    | cons f fs =>
      obtain ⟨n, hstate, htook, hleft⟩ := putHeld_of_empty f fs hrelease
      simp only [ne_eq, reduceCtorEq, not_false_eq_true, and_self, if_true, hstate]
      have halike := alike_settle (withRelease { round := f.round, refs := mergedAll f.refs (fs.take n) } (fs.drop n) s)
      exact ⟨n, halike.link, halike.claims, htook, hleft, acts_settle (keeps_withRelease ..) (notices_of_eq rfl)⟩

end Sys2Proof.Machine
end

section
/-! PROOFS. A peer's CLAIM: what it records on slots and cradles (R139), and how the station defends what it holds (R48, R138). -/

namespace Sys2Proof.Machine

/-! ### The recording of a peer's claim (R139) -/

/-- R105, R139: a slot record that a peer's claim entry names; a slot newly reserved has the peer as its source. -/
def SlotRecord.claimed (v : Reservation) (source : ChangeSource) (dir : ClaimDir) (r : SlotRecord) : SlotRecord :=
  { content := r.content.claimed v dir
    source := if slotResv r.content = none ∧ r.content.claimed v dir ≠ r.content then source else r.source }

/-- R139: a cradle that a peer's claim entry names. -/
def Cradle.claimed (v : Reservation) (loading : Bool) (k : Cradle) : Cradle := { k with content := k.content.claimed v loading }

/-- R139: the bay takes claims: its record is LOADING. -/
def bayLoading (s : State) (bay : Nat) : Bool := (bayRecord s bay).any fun b => !b.closed

/-- R139: the claim entries of a peer have been recorded, on the slots and cradles they name and nowhere else. -/
structure ClaimsRecorded (v : Reservation) (source : ChangeSource) (entries : List ClaimEntry) (s t : State) : Prop where
  slot : ∀ e ∈ entries, ∀ row column, e.ref = .slot row column →
    slotAt t row column = (slotAt s row column).map (SlotRecord.claimed v source e.dir)
  cradle : ∀ e ∈ entries, ∀ bay index, e.ref = .cradle bay index →
    cradleAt t bay index = (cradleAt s bay index).map (Cradle.claimed v (bayLoading s bay))
  otherSlot : ∀ row column, .slot row column ∉ entries.map ClaimEntry.ref → slotAt t row column = slotAt s row column
  otherCradle : ∀ bay index, .cradle bay index ∉ entries.map ClaimEntry.ref → cradleAt t bay index = cradleAt s bay index
  facts : SameTruckFacts s t

/-- R139: the claim entries of a peer have been recorded, and nothing else has changed. -/
structure Recorded (v : Reservation) (source : ChangeSource) (entries : List ClaimEntry) (s t : State) : Prop
    extends ClaimsRecorded v source entries s t where
  keeps : Keeps [.map, .trucks] s t
  notices : t.notices = s.notices

theorem SameTruckFacts.trans {s t u : State} (h : SameTruckFacts s t) (k : SameTruckFacts t u) : SameTruckFacts s u :=
  fun bay => (k bay).trans (h bay)

theorem SameTruckFacts.bayLoading {s t : State} (h : SameTruckFacts s t) (bay : Nat) : bayLoading t bay = bayLoading s bay := by
  have hbare := h bay
  unfold Machine.bayLoading
  have hclosed (r : Option Truck) : (r.any fun b => !b.closed) = ((r.map Truck.bare).any fun b => !b.closed) := by cases r <;> rfl
  rw [hclosed, hclosed (bayRecord s bay), hbare]

/-- A step that keeps the truck records. -/
theorem bayRecord_of_keeps {bs : List Block} {s t : State} (h : Keeps bs s t) (hbs : .trucks ∉ bs := by simp) :
    bayRecord t = bayRecord s := bayRecord_congr (h.2 .trucks hbs).1 (h.2 .trucks hbs).2

theorem sameTruckFacts_of_keeps {bs : List Block} {s t : State} (h : Keeps bs s t) (hbs : .trucks ∉ bs := by simp) :
    SameTruckFacts s t := fun bay => by rw [bayRecord_of_keeps h hbs]

theorem sameTruckFacts_setCradle (bay index : Nat) (c : CradleContent) (s : State) : SameTruckFacts s (setCradle bay index c s) := by
  intro bay'
  unfold setCradle
  split
  · rfl
  next b hb =>
    by_cases hbay : bay' = bay
    · subst hbay
      rw [bayRecord_setBay_same _ _ (bay_le_of_bayRecord hb), hb, Option.map_some, Option.map_some]
      congr 1
      simp only [Truck.bare, Truck.setCradle]
      congr 1
      refine List.ext_getElem? fun i => ?_
      simp only [List.getElem?_map, List.getElem?_modify]
      cases b.cradles[i]? with
      | none => rfl
      | some k => by_cases hi : index = i <;> simp [hi]
    · rw [bayRecord_setBay_ne _ _ hbay]

section
variable {v : Reservation} {source : ChangeSource} {s t u : State}

theorem Recorded.nil (s : State) : Recorded v source [] s s where
  slot := nofun
  cradle := nofun
  otherSlot _ _ _ := rfl
  otherCradle _ _ _ := rfl
  facts _ := rfl
  keeps := keeps_refl ..
  notices := rfl

theorem Recorded.cons {e : ClaimEntry} {es : List ClaimEntry} (h : Recorded v source [e] s t) (k : Recorded v source es t u)
    (hdistinct : e.ref ∉ es.map ClaimEntry.ref) : Recorded v source (e :: es) s u where
  slot x hx row column href := by
    obtain rfl | hx := List.mem_cons.1 hx
    · rw [k.otherSlot row column (href ▸ hdistinct), h.slot x (List.mem_singleton_self x) row column href]
    · rw [k.slot x hx row column href, h.otherSlot row column]
      rw [List.map_singleton, List.mem_singleton, ← href]
      exact fun hsame => hdistinct (hsame ▸ List.mem_map_of_mem hx)
  cradle x hx bay index href := by
    obtain rfl | hx := List.mem_cons.1 hx
    · rw [k.otherCradle bay index (href ▸ hdistinct), h.cradle x (List.mem_singleton_self x) bay index href]
    · rw [k.cradle x hx bay index href, h.facts.bayLoading, h.otherCradle bay index]
      rw [List.map_singleton, List.mem_singleton, ← href]
      exact fun hsame => hdistinct (hsame ▸ List.mem_map_of_mem hx)
  otherSlot row column hne := by
    obtain ⟨hhead, htail⟩ := not_or.1 (mt List.mem_cons.2 hne)
    rw [k.otherSlot row column htail, h.otherSlot row column (by simpa using hhead)]
  otherCradle bay index hne := by
    obtain ⟨hhead, htail⟩ := not_or.1 (mt List.mem_cons.2 hne)
    rw [k.otherCradle bay index htail, h.otherCradle bay index (by simpa using hhead)]
  facts := h.facts.trans k.facts
  keeps := keeps_trans h.keeps k.keeps
  notices := k.notices.trans h.notices

end

/-! ### One reference recorded (R139) -/

theorem setSlot_self {s : State} {row column : Nat} {r : SlotRecord} (h : slotAt s row column = some r) :
    setSlot row column r s = s := by
  obtain ⟨g, i, hg, hi, hget⟩ := slotAt_eq_some_iff.1 h
  obtain ⟨hlt, hr⟩ := List.getElem?_eq_some_iff.1 hget
  simp only [setSlot, hg, hi, ← hr, List.set_getElem_self]
  rfl

theorem setBay_self {s : State} {bay : Nat} {b : Truck} (h : bayRecord s bay = some b) : setBay bay (some b) s = s := by
  rw [← h]
  match bay with
  | 0 | 1 | _ + 2 => rfl

theorem setCradle_self {s : State} {bay index : Nat} {k : Cradle} (h : cradleAt s bay index = some k) :
    setCradle bay index k.content s = s := by
  obtain ⟨b, hb, hk⟩ := cradleAt_eq_some_iff.1 h
  have hsame : b.setCradle index k.content = b := by
    unfold Truck.setCradle
    congr 1
    refine List.ext_getElem? fun i => ?_
    rw [List.getElem?_modify]
    by_cases hi : index = i
    · subst hi
      simp [hk]
    · simp [hi]
  simp only [setCradle, hb, hsame, setBay_self hb]

/-- R139: a peer's claim entry on a slot. -/
def claimSlot (v : Reservation) (source : ChangeSource) (dir : ClaimDir) (row column : Nat) (s : State) : State :=
  match slotAt s row column with
  | none => s
  | some r => setSlot row column (r.claimed v source dir) s

/-- R139: a peer's claim entry on a cradle. -/
def claimCradle (v : Reservation) (bay index : Nat) (s : State) : State :=
  match cradleAt s bay index with
  | none => s
  | some k => setCradle bay index (k.content.claimed v (bayLoading s bay)) s

section
variable {v : Reservation} {source : ChangeSource} {s : State} {e : ClaimEntry}

theorem recorded_claimSlot {row column : Nat} (href : e.ref = .slot row column) :
    Recorded v source [e] s (claimSlot v source e.dir row column s) := by
  have hform : claimSlot v source e.dir row column s = s ∨ ∃ r, claimSlot v source e.dir row column s = setSlot row column r s := by
    unfold claimSlot
    split
    · exact .inl rfl
    · exact .inr ⟨_, rfl⟩
  have hkeeps : Keeps [.map] s (claimSlot v source e.dir row column s) := by
    unfold claimSlot
    split
    · exact keeps_refl ..
    · exact keeps_setSlot ..
  refine {
    slot := fun x hx row' column' hx' => ?_
    cradle := fun x hx bay index hx' => absurd (href.symm.trans ((congrArg _ (List.mem_singleton.1 hx)).symm.trans hx')) Ref.noConfusion
    otherSlot := fun row' column' hne => ?_
    otherCradle := fun bay index _ => by rw [cradleAt_congr (bayRecord_of_keeps hkeeps)]
    facts := sameTruckFacts_of_keeps hkeeps
    keeps := keeps_mono (by simp) hkeeps
    notices := ?_ }
  · obtain rfl := List.mem_singleton.1 hx
    obtain ⟨rfl, rfl⟩ := Ref.slot.inj (href.symm.trans hx')
    cases hr : slotAt s row column with
    | none => simp only [claimSlot, hr, Option.map_none]
    | some r => simp only [claimSlot, hr, Option.map_some, slotAt_setSlot_same _ (show isSlot s row column by rw [isSlot, hr]; rfl)]
  · obtain h | ⟨r, h⟩ := hform
    · rw [h]
    · rw [h]
      exact slotAt_setSlot_ne r s fun hsame => hne (by simpa [href] using hsame)
  · obtain h | ⟨r, h⟩ := hform
    · rw [h]
    · rw [h, setSlot_notices]

theorem recorded_claimCradle {bay index : Nat} (href : e.ref = .cradle bay index) :
    Recorded v source [e] s (claimCradle v bay index s) := by
  have hform : claimCradle v bay index s = s ∨ ∃ c, claimCradle v bay index s = setCradle bay index c s := by
    unfold claimCradle
    split
    · exact .inl rfl
    · exact .inr ⟨_, rfl⟩
  have hkeeps : Keeps [.trucks] s (claimCradle v bay index s) := by
    unfold claimCradle
    split
    · exact keeps_refl ..
    · exact ⟨by simp, fun x hx => by cases x <;> simp_all [SameBlock]⟩
  refine {
    slot := fun x hx row column hx' => absurd (href.symm.trans ((congrArg _ (List.mem_singleton.1 hx)).symm.trans hx')) Ref.noConfusion
    cradle := fun x hx bay' index' hx' => ?_
    otherSlot := fun row column _ => by rw [slotAt_congr (hkeeps.2 .cfg (by simp)) (hkeeps.2 .map (by simp))]
    otherCradle := fun bay' index' hne => ?_
    facts := ?_
    keeps := keeps_mono (by simp) hkeeps
    notices := ?_ }
  · obtain rfl := List.mem_singleton.1 hx
    obtain ⟨rfl, rfl⟩ := Ref.cradle.inj (href.symm.trans hx')
    cases hk : cradleAt s bay index with
    | none => simp only [claimCradle, hk, Option.map_none]
    | some k => simp only [claimCradle, hk, Option.map_some, cradleAt_setCradle_same _ hk, Cradle.claimed]
  · obtain h | ⟨c, h⟩ := hform
    · rw [h]
    · rw [h]
      exact cradleAt_setCradle_ne c s fun hsame => hne (by simpa [href] using hsame)
  · unfold claimCradle
    split
    · exact sameTruckFacts_of_keeps (keeps_refl [] s)
    · exact fun bay' => sameTruckFacts_setCradle bay index _ s bay'
  · obtain h | ⟨c, h⟩ := hform
    · rw [h]
    · rw [h, setCradle_notices]

end

/-- R139: what a peer's claim entry does to the slot it names. -/
theorem recordClaim_slot (sender round priority : Nat) {e : ClaimEntry} {row column : Nat} (href : e.ref = .slot row column)
    (s : State) : recordClaim sender round priority e s =
      claimSlot (peerReservation sender round priority s) (.peer sender) e.dir row column s := by
  unfold recordClaim claimSlot
  cases hr : slotAt s row column with
  | none =>
    have hcontent : contentAt s row column = .empty := by simp [contentAt, hr]
    simp only [href, resvAt_slot, hcontent, slotResv, takesClaims, if_true, reserveRef]
    cases e.dir with
    | inward => exact setSlot_of_not_isSlot _ hr
    | outward => rfl
  | some r =>
    have hcontent : contentAt s row column = r.content := contentAt_of_slotAt hr
    have hself : setSlot row column r s = s := setSlot_self hr
    obtain ⟨content, src⟩ := r
    dsimp only at hcontent
    simp only [href, resvAt_slot, hcontent, takesClaims, if_true, reserveRef, updateResv, hr]
    cases content with
    | reservedIn w | reservedOut _ w =>
      by_cases hw : w.holder = .peer sender
      · simp [slotResv, SlotRecord.claimed, SlotContent.claimed, SlotContent.mapResv, peerReservation, hw]
      · simp [slotResv, SlotRecord.claimed, SlotContent.claimed, peerReservation, hw, hself]
    | empty | occupied _ =>
      cases e.dir <;> simp [slotResv, SlotRecord.claimed, SlotContent.claimed, hself]
    | _ => simp [slotResv, SlotRecord.claimed, SlotContent.claimed, hself]

/-- R139: what a peer's claim entry, inward, does to the cradle it names. -/
theorem recordClaim_cradle (sender round priority : Nat) {e : ClaimEntry} {bay index : Nat} (href : e.ref = .cradle bay index)
    (hdir : e.dir = .inward) (s : State) : recordClaim sender round priority e s =
      claimCradle (peerReservation sender round priority s) bay index s := by
  unfold recordClaim claimCradle
  cases hk : cradleAt s bay index with
  | none => simp [href, resvAt_cradle, hk, reserveRef]
  | some k =>
    have hself : setCradle bay index k.content s = s := setCradle_self hk
    obtain ⟨b, hb, -⟩ := cradleAt_eq_some_iff.1 hk
    obtain ⟨offset, content⟩ := k
    simp only [href, hdir, resvAt_cradle, hk, Option.bind_some, takesClaims, hb, reserveRef, updateResv, bayLoading, Option.any_some]
    cases content with
    | reserved w =>
      by_cases hw : w.holder = .peer sender
      · simp [cradleResv, CradleContent.claimed, CradleContent.mapResv, peerReservation, hw]
      · simp [cradleResv, CradleContent.claimed, peerReservation, hw, hself]
    | free => cases hclosed : b.closed <;> simp [cradleResv, CradleContent.claimed, hself]
    | occupied _ _ _ => simp [cradleResv, CradleContent.claimed, hself]

/-- R42: the entries of a well-formed CLAIM: none named twice, and outward on slots alone. -/
def EntriesOk (entries : List ClaimEntry) : Prop :=
  (∀ e ∈ entries, refIsCradle e.ref = true → e.dir = .inward) ∧ (entries.map ClaimEntry.ref).Nodup

theorem nodup_of_refsDistinct {refs : List Ref} (h : refsDistinct refs = true) : refs.Nodup := by
  induction refs with
  | nil => exact .nil
  | cons r rs ih =>
    simp only [refsDistinct, Bool.and_eq_true, Bool.not_eq_true', List.contains_eq_mem, decide_eq_false_iff_not] at h
    exact List.nodup_cons.2 ⟨h.1, ih h.2⟩

theorem entriesOk_of_claimOk {priority : Nat} {entries : List ClaimEntry} (h : claimOk priority entries = true) :
    EntriesOk entries := by
  simp only [claimOk, Bool.and_eq_true, List.all_eq_true] at h
  obtain ⟨⟨-, hentries⟩, hdistinct⟩ := h
  refine ⟨fun e he hcradle => ?_, nodup_of_refsDistinct hdistinct⟩
  have hok := hentries e he
  unfold claimEntryOk at hok
  cases hdir : e.dir with
  | inward => rfl
  | outward c => simp [hdir, hcradle] at hok

theorem recorded_recordClaim (sender round priority : Nat) {e : ClaimEntry} (hdir : refIsCradle e.ref = true → e.dir = .inward)
    (s : State) :
    Recorded (peerReservation sender round priority s) (.peer sender) [e] s (recordClaim sender round priority e s) := by
  cases href : e.ref with
  | slot row column =>
    rw [recordClaim_slot sender round priority href]
    exact recorded_claimSlot href
  | cradle bay index =>
    rw [recordClaim_cradle sender round priority href (hdir (by rw [href]; rfl))]
    exact recorded_claimCradle href

/-- R139: a peer's claim entries, recorded one after the other. -/
theorem recorded_recordClaims (sender round priority : Nat) {entries : List ClaimEntry} (hok : EntriesOk entries) (s : State) :
    Recorded (peerReservation sender round priority s) (.peer sender) entries s
      (entries.foldl (fun s e => recordClaim sender round priority e s) s) := by
  induction entries generalizing s with
  | nil => exact .nil s
  | cons e es ih =>
    obtain ⟨hdir, hdistinct⟩ := hok
    obtain ⟨hhead, htail⟩ := List.nodup_cons.1 hdistinct
    have hfirst := recorded_recordClaim sender round priority (hdir e (List.mem_cons_self ..)) s
    have hsame : peerReservation sender round priority (recordClaim sender round priority e s) =
        peerReservation sender round priority s := by
      have hclock : (recordClaim sender round priority e s).clock = s.clock := hfirst.keeps.2 .clock (by simp)
      rw [peerReservation, hclock]
      rfl
    exact hfirst.cons (hsame ▸ ih ⟨fun x hx => hdir x (List.mem_cons_of_mem _ hx), htail⟩ _) hhead

/-! ### What the records show of a peer's claim -/

theorem ownResvAt_eq_filter (s : State) (ref : Ref) : ownResvAt s ref = (resvAt s ref).filter Reservation.isOwn := by
  unfold ownResvAt
  cases resvAt s ref with
  | none => rfl
  | some w => by_cases hw : w.holder = .own <;> simp [Reservation.isOwn, Option.filter_some, hw]

section
variable {v : Reservation} {source : ChangeSource} {entries : List ClaimEntry} {s t : State}

/-- What is recorded is so between states with the same records. -/
theorem ClaimsRecorded.between {u f : State} (h : ClaimsRecorded v source entries u t) (hslots : slotAt u = slotAt s)
    (hbays : bayRecord u = bayRecord s) (hslots' : slotAt f = slotAt t) (hbays' : bayRecord f = bayRecord t) :
    ClaimsRecorded v source entries s f where
  slot e he row column href := by rw [hslots', h.slot e he row column href, hslots]
  cradle e he bay index href := by
    rw [cradleAt_congr hbays', h.cradle e he bay index href, cradleAt_congr hbays, bayLoading, bayLoading, hbays]
  otherSlot row column hne := by rw [hslots', h.otherSlot row column hne, hslots]
  otherCradle bay index hne := by rw [cradleAt_congr hbays', h.otherCradle bay index hne, cradleAt_congr hbays]
  facts bay := by rw [hbays', h.facts bay, hbays]

variable (h : ClaimsRecorded v source entries s t)
include h

theorem ClaimsRecorded.contentAt {e : ClaimEntry} (he : e ∈ entries) {row column : Nat} (href : e.ref = .slot row column)
    (hslot : isSlot s row column) : contentAt t row column = (contentAt s row column).claimed v e.dir := by
  obtain ⟨r, hr⟩ := Option.isSome_iff_exists.1 hslot
  have hclaimed := h.slot e he row column href
  rw [hr, Option.map_some] at hclaimed
  rw [contentAt_of_slotAt hclaimed, contentAt_of_slotAt hr]
  rfl

theorem ClaimsRecorded.cradleContent {e : ClaimEntry} (he : e ∈ entries) {bay index : Nat} (href : e.ref = .cradle bay index) :
    cradleContent t bay index = (cradleContent s bay index).map (CradleContent.claimed v (bayLoading s bay)) := by
  rw [Machine.cradleContent, Machine.cradleContent, h.cradle e he bay index href, Option.map_map, Option.map_map]
  rfl

theorem ClaimsRecorded.otherContent {row column : Nat} (hne : .slot row column ∉ entries.map ClaimEntry.ref) :
    Machine.contentAt t row column = Machine.contentAt s row column := contentAt_congr (h.otherSlot row column hne)

theorem ClaimsRecorded.otherCradleContent {bay index : Nat} (hne : .cradle bay index ∉ entries.map ClaimEntry.ref) :
    Machine.cradleContent t bay index = Machine.cradleContent s bay index := by
  rw [Machine.cradleContent, Machine.cradleContent, h.otherCradle bay index hne]

/-- R105: a slot newly reserved has the source of the claim; any other keeps its own. -/
theorem ClaimsRecorded.sourceAt (row column : Nat) : sourceAt t row column =
    if slotResv (Machine.contentAt s row column) = none ∧ Machine.contentAt t row column ≠ Machine.contentAt s row column then
      some source else sourceAt s row column := by
  by_cases hnamed : Ref.slot row column ∈ entries.map ClaimEntry.ref
  · obtain ⟨e, he, href⟩ := List.mem_map.1 hnamed
    have hclaimed := h.slot e he row column href
    cases hr : slotAt s row column with
    | none =>
      rw [hr, Option.map_none] at hclaimed
      simp [Machine.sourceAt, Machine.contentAt, hr, hclaimed]
    | some r =>
      rw [hr, Option.map_some] at hclaimed
      rw [contentAt_of_slotAt hclaimed, contentAt_of_slotAt hr, Machine.sourceAt, Machine.sourceAt, hclaimed, hr]
      simp only [Option.map_some, SlotRecord.claimed]
      exact apply_ite some _ _ _
  · have hsame := h.otherSlot row column hnamed
    rw [if_neg fun hchanged => hchanged.2 (contentAt_congr hsame), Machine.sourceAt, Machine.sourceAt, hsame]

/-- R138: a peer's claim takes no own reservation and makes none. -/
theorem ClaimsRecorded.ownResvAt (hv : v.holder ≠ .own) (ref : Ref) : ownResvAt t ref = ownResvAt s ref := by
  have hslot (dir : ClaimDir) (c : SlotContent) :
      (slotResv (c.claimed v dir)).filter Reservation.isOwn = (slotResv c).filter Reservation.isOwn := by
    cases c with
    | reservedIn w | reservedOut _ w =>
      by_cases hw : w.holder = v.holder
      · simp [SlotContent.claimed, slotResv, Option.filter_some, Reservation.isOwn, hw, hv]
      · simp [SlotContent.claimed, slotResv, hw]
    | empty | occupied _ => cases dir <;> simp [SlotContent.claimed, slotResv, Option.filter_some, Reservation.isOwn, hv]
    | _ => rfl
  have hcradle (loading : Bool) (c : CradleContent) :
      (cradleResv (c.claimed v loading)).filter Reservation.isOwn = (cradleResv c).filter Reservation.isOwn := by
    cases c with
    | reserved w =>
      by_cases hw : w.holder = v.holder
      · simp [CradleContent.claimed, cradleResv, Option.filter_some, Reservation.isOwn, hw, hv]
      · simp [CradleContent.claimed, cradleResv, hw]
    | free => cases loading <;> simp [CradleContent.claimed, cradleResv, Option.filter_some, Reservation.isOwn, hv]
    | occupied _ _ _ => rfl
  rw [ownResvAt_eq_filter, ownResvAt_eq_filter]
  by_cases hnamed : ref ∈ entries.map ClaimEntry.ref
  · obtain ⟨e, he, href⟩ := List.mem_map.1 hnamed
    cases ref with
    | slot row column =>
      simp only [resvAt_slot, Machine.contentAt, h.slot e he row column href]
      cases slotAt s row column with
      | none => rfl
      | some r => exact hslot e.dir r.content
    | cradle bay index =>
      simp only [resvAt_cradle, h.cradle e he bay index href]
      cases cradleAt s bay index with
      | none => rfl
      | some k => exact hcradle _ k.content
  · cases ref with
    | slot row column => rw [resvAt_slot, resvAt_slot, h.otherContent hnamed]
    | cradle bay index => rw [resvAt_cradle, resvAt_cradle, h.otherCradle bay index hnamed]

end

end Sys2Proof.Machine
end

section
/-! PROOFS. How the station meets a peer's CLAIM (R48, R138), and what a delivered CLAIM leaves (R139). -/

namespace Sys2Proof.Machine

/-! ### OBJECTs put into their mailboxes one after the other (R48) -/

/-- R48: the OBJECT mailboxes after objections, each added unless it waits there or both are full. -/
def objectsAfter (w : List ObjectFrame) (fs : List ObjectFrame) : List ObjectFrame :=
  fs.foldl (fun w f => if f ∈ w ∨ 2 ≤ w.length then w else w ++ [f]) w

/-- R48: several OBJECTs asked for, in their order. -/
def askObjects (fs : List ObjectFrame) (s : State) : State := fs.foldl (fun s f => askObject f s) s

theorem mem_objectsAfter_of_mem {f : ObjectFrame} {w : List ObjectFrame} (h : f ∈ w) (fs : List ObjectFrame) :
    f ∈ objectsAfter w fs := by
  induction fs generalizing w with
  | nil => exact h
  | cons g fs ih =>
    refine ih ?_
    dsimp only
    split
    · exact h
    · exact List.mem_append_left _ h

theorem objectsAfter_of_full {w : List ObjectFrame} (h : 2 ≤ w.length) (fs : List ObjectFrame) : objectsAfter w fs = w := by
  induction fs with
  | nil => rfl
  | cons f fs ih =>
    rw [objectsAfter, List.foldl_cons, if_pos (.inr h)]
    exact ih

/-- R48: what one OBJECT asked for makes of the mailboxes; one that finds both full is dropped with its notice. -/
theorem linkStep_askObject (f : ObjectFrame) (s : State) :
    LinkStep { s.link with boxes := { s.link.boxes with
        objects := if f ∈ s.link.boxes.objects ∨ 2 ≤ s.link.boxes.objects.length then s.link.boxes.objects
          else s.link.boxes.objects ++ [f] } }
      (if f ∈ s.link.boxes.objects ∨ s.link.boxes.objects.length < 2 then [] else [.objectionDropped]) s (askObject f s) := by
  simp only [askObject, List.contains_iff_mem]
  by_cases hwaits : f ∈ s.link.boxes.objects
  · simpa [hwaits] using linkStep_self s
  · by_cases hroom : s.link.boxes.objects.length < 2
    · simp only [hwaits, hroom, Nat.not_le.2 hroom, if_true, if_false, or_self, or_true]
      exact ⟨rfl, keeps_setBoxes _ s, notices_of_eq rfl⟩
    · simp only [hwaits, hroom, Nat.le_of_not_lt hroom, if_true, if_false, or_self, or_true]
      exact (linkStep_self s).raise .objectionDropped

/-- R48: OBJECTs asked for; OBJECTION_DROPPED is raised exactly where one of them is not among those that wait. -/
theorem linkStep_askObjects (fs : List ObjectFrame) (s : State) :
    LinkStep { s.link with boxes := { s.link.boxes with objects := objectsAfter s.link.boxes.objects fs } }
      (if ∀ f ∈ fs, f ∈ objectsAfter s.link.boxes.objects fs then [] else [.objectionDropped]) s (askObjects fs s) := by
  induction fs generalizing s with
  | nil =>
    rw [if_pos nofun]
    exact linkStep_self s
  | cons f fs ih =>
    have hfirst := linkStep_askObject f s
    have hrest := ih (askObject f s)
    rw [hfirst.link] at hrest
    have hboth := hfirst.trans hrest
    have hafter : objectsAfter s.link.boxes.objects (f :: fs) = objectsAfter (if f ∈ s.link.boxes.objects ∨
        2 ≤ s.link.boxes.objects.length then s.link.boxes.objects else s.link.boxes.objects ++ [f]) fs := rfl
    refine ⟨hboth.link, hboth.keeps, ?_⟩
    by_cases hkept : f ∈ s.link.boxes.objects ∨ s.link.boxes.objects.length < 2
    · have hwaits : f ∈ objectsAfter s.link.boxes.objects (f :: fs) := by
        rw [hafter]
        refine mem_objectsAfter_of_mem ?_ fs
        split
        next h => exact h.elim id fun hfull => hkept.resolve_right (Nat.not_lt.2 hfull)
        next => simp
      have hnotices := hboth.notices
      rw [if_pos hkept, List.nil_append, ← hafter] at hnotices
      simp only [List.forall_mem_cons, hwaits, true_and]
      exact hnotices
    · obtain ⟨hnew, hfull⟩ := not_or.1 hkept
      have hdropped : f ∉ objectsAfter s.link.boxes.objects (f :: fs) := by
        rwa [objectsAfter_of_full (Nat.le_of_not_lt hfull)]
      obtain ⟨hraised, honly⟩ := hboth.notices
      rw [if_neg hkept] at hraised honly
      rw [if_neg fun hall => hdropped (hall f (List.mem_cons_self ..))]
      exact ⟨fun n hn => hraised n (List.mem_append_left _ hn), raisesOnly_mono (fun n hn => by grind) honly⟩

/-! ### What the station defends (R138) -/

/-- R138: of the references of a CLAIM the station holds each HELD, or in its round under a key that the peer does not beat. -/
def Defended (sender priority : Nat) (entries : List ClaimEntry) (s : State) : Prop :=
  ∀ e ∈ entries, ∀ v, ownResvAt s e.ref = some v → v.phase = .held ∨
    ∃ r, s.claims.round = some r ∧ v.round = r.number ∧ keyBeats priority sender r.priority (ownId s) = false

/-- R138: the OBJECTs against the references of a CLAIM that the station holds. -/
def objectionsTo (sender round : Nat) (entries : List ClaimEntry) (s : State) : List ObjectFrame :=
  (entries.filter fun e => (ownResvAt s e.ref).isSome).map fun e => { claimant := sender, round := round, ref := e.ref }

/-- A change of the link and of notices alone leaves what the station defends. -/
theorem defended_of_keeps {sender priority : Nat} {entries : List ClaimEntry} {s t : State} (hkeeps : Keeps [.link] s t)
    (h : Defended sender priority entries s) : Defended sender priority entries t := by
  have hclaims : t.claims = s.claims := hkeeps.2 .claims (by simp)
  have hcfg : t.cfg = s.cfg := hkeeps.2 .cfg (by simp)
  intro e he v hv
  rw [ownResvAt_of_keeps hkeeps] at hv
  rw [hclaims, ownId, hcfg]
  exact h e he v hv

theorem meetOwn_of_defended {sender round priority : Nat} {ref : Ref} {v : Reservation} {s : State} (h : v.phase = .held ∨
    ∃ r, s.claims.round = some r ∧ v.round = r.number ∧ keyBeats priority sender r.priority (ownId s) = false) :
    meetOwn sender round priority ref v s = objectTo sender round ref s := by
  unfold meetOwn
  cases hphase : v.phase with
  | held => rfl
  | pending =>
    obtain ⟨r, hr, hnumber, hkey⟩ := h.resolve_left (by simp [hphase])
    simp [hr, hnumber, hkey]

/-- R138: what the station defends is met with an OBJECT each. -/
theorem meetOwns_of_defended {sender round priority : Nat} {entries : List ClaimEntry} {s : State}
    (h : Defended sender priority entries s) :
    meetOwns sender round priority entries s = askObjects (objectionsTo sender round entries s) s := by
  induction entries generalizing s with
  | nil => rfl
  | cons e es ih =>
    have htail : Defended sender priority es s := fun x hx => h x (List.mem_cons_of_mem _ hx)
    cases hv : ownResvAt s e.ref with
    | none =>
      have hobjections : objectionsTo sender round (e :: es) s = objectionsTo sender round es s := by
        simp [objectionsTo, hv]
      rw [hobjections, ← ih htail]
      simp only [meetOwns, List.foldl_cons, hv]
    | some v =>
      have hkeeps : Keeps [.link] s (objectTo sender round e.ref s) := keeps_askObject _ s
      have hobjections : objectionsTo sender round (e :: es) s =
          { claimant := sender, round := round, ref := e.ref } :: objectionsTo sender round es (objectTo sender round e.ref s) := by
        simp [objectionsTo, hv, ownResvAt_of_keeps hkeeps]
      rw [hobjections, askObjects, List.foldl_cons]
      refine Eq.trans ?_ (ih (defended_of_keeps hkeeps htail))
      simp only [meetOwns, List.foldl_cons, hv, meetOwn_of_defended (h e (List.mem_cons_self ..) v hv)]
      rfl

/-! ### A delivered CLAIM (R138, R139) -/

theorem exec_of_delivered {sender round priority : Nat} {entries : List ClaimEntry} {s : State} (hrun : Running s)
    (h : Delivered (.claimReceived sender round priority entries) s) :
    claimOk priority entries = true ∧ exec (.claimReceived sender round priority entries) s =
      .next (settle (takeClaim sender round priority entries (endReception s))) := by
  obtain ⟨_, ⟨⟩, hstate, hsender, hformed, hown, hforeign⟩ := h
  refine ⟨hformed, ?_⟩
  have hid : ownId (endReception s) = ownId s := rfl
  have hclean : senderForeign (endReception s) sender = false := hforeign rfl
  rw [exec, execClaimReceived, event_of_running _ hrun, receiveFrame, if_neg hstate]
  dsimp only at hsender hformed hown
  simp [hsender, hformed, hid, hclean, hown]

/-- R138, R139: a delivered CLAIM against which the station defends what it holds: OBJECTs are asked for, and the claim is
recorded for a sender that may reserve. -/
theorem takeClaim_of_defended {sender round priority : Nat} {entries : List ClaimEntry} {s : State}
    (hok : claimOk priority entries = true) (h : Defended sender priority entries s) :
    let fs := objectionsTo sender round entries s
    let t := settle (takeClaim sender round priority entries (endReception s))
    t.link = { received s with boxes := { s.link.boxes with objects := objectsAfter s.link.boxes.objects fs } } ∧
      ClaimsRecorded (peerReservation sender round priority s) (.peer sender)
        (if mayReserve s sender = true then entries else []) s t ∧
      Acts (if mayReserve s sender = true then [.link, .map, .trucks] else [.link])
        (if ∀ f ∈ fs, f ∈ objectsAfter s.link.boxes.objects fs then [] else [.objectionDropped]) [] s t := by
  have hended := linkStep_endReception s
  have hmet := hended.trans (linkStep_askObjects (objectionsTo sender round entries s) (endReception s))
  have htake : takeClaim sender round priority entries (endReception s) =
      if mayReserve s sender = true then
        entries.foldl (fun s e => recordClaim sender round priority e s)
          (askObjects (objectionsTo sender round entries s) (endReception s))
      else askObjects (objectionsTo sender round entries s) (endReception s) := by
    have hmeet := meetOwns_of_defended (round := round) (defended_of_keeps hended.keeps h)
    have htable : (askObjects (objectionsTo sender round entries s) (endReception s)).table = s.table := hmet.keeps.2 .table (by simp)
    have hmay : mayReserve (askObjects (objectionsTo sender round entries s) (endReception s)) sender = mayReserve s sender := by
      rw [mayReserve, entryOf, htable]
      rfl
    simp only [takeClaim, hmeet]
    rw [← hmay]
    rfl
  simp only [htake]
  generalize askObjects (objectionsTo sender round entries s) (endReception s) = u at hmet ⊢
  have hslots : slotAt u = slotAt s := slotAt_congr (hmet.keeps.2 .cfg (by simp)) (hmet.keeps.2 .map (by simp))
  have hbays : bayRecord u = bayRecord s := bayRecord_of_keeps hmet.keeps
  by_cases hmay : mayReserve s sender = true
  · have hrecorded := recorded_recordClaims sender round priority (entriesOk_of_claimOk hok) u
    have hpeer : peerReservation sender round priority u = peerReservation sender round priority s := by
      have hclock : u.clock = s.clock := hmet.keeps.2 .clock (by simp)
      rw [peerReservation, hclock]
      rfl
    rw [hpeer] at hrecorded
    simp only [if_pos hmay]
    generalize entries.foldl (fun s e => recordClaim sender round priority e s) u = t at hrecorded ⊢
    have halike := alike_settle t
    have hlink : t.link = u.link := hrecorded.keeps.2 .link (by simp)
    exact ⟨by rw [halike.link, hlink, hmet.link]; rfl,
      hrecorded.toClaimsRecorded.between hslots hbays halike.slotAt halike.bayRecord,
      acts_settle (hmet.keeps.andThen hrecorded.keeps) (notices_trans_of_eq hmet.notices hrecorded.notices)⟩
  · have halike := alike_settle u
    simp only [if_neg hmay]
    exact ⟨by rw [halike.link, hmet.link]; rfl,
      (Recorded.nil u).toClaimsRecorded.between hslots hbays halike.slotAt halike.bayRecord, acts_settle hmet.keeps hmet.notices⟩

/-- Settles O36: what the station defends is met with OBJECTs alone, and the recording touches no own reservation. -/
theorem stationDefendsItsClaims : Obligations.StationDefendsItsClaims := by
  intro sender round priority entries s hrun hdelivered hdefended objections waiting
  obtain ⟨hok, hexec⟩ := exec_of_delivered hrun hdelivered
  obtain ⟨hlink, hrecorded, hkeeps, hnotices, hfollow⟩ := takeClaim_of_defended (round := round) hok hdefended
  have hkept := hrecorded.ownResvAt Holder.noConfusion
  have hunnamed {ref : Ref} (h : ref ∉ entries.map ClaimEntry.ref) :
      ref ∉ (if mayReserve s sender = true then entries else []).map ClaimEntry.ref := by
    split
    · exact h
    · exact List.not_mem_nil
  refine ⟨_, hexec, hlink, fun ref href => ?_, hkept, fun row column hne => hrecorded.otherContent (hunnamed hne),
    fun bay index hne => hrecorded.otherCradleContent (hunnamed hne), keeps_mono ?_ hkeeps, hnotices, hfollow⟩
  · obtain ⟨v, hv⟩ := Option.isSome_iff_exists.1 href
    obtain ⟨hresv, -⟩ := ownResvAt_eq_some_iff.1 hv
    obtain ⟨hresv', -⟩ := ownResvAt_eq_some_iff.1 ((hkept ref).trans hv)
    rw [hresv', hresv]
  · split <;> simp

/-- Settles O35: with nothing of its own named the station has nothing to defend, and the claim is recorded. -/
theorem peerClaimIsRecorded : Obligations.PeerClaimIsRecorded := by
  intro sender round priority entries s hrun hdelivered hnone v
  obtain ⟨hok, hexec⟩ := exec_of_delivered hrun hdelivered
  have hdefended : Defended sender priority entries s := fun e he w hw => by simp [hnone e he] at hw
  obtain ⟨hlink, hrecorded, hacts⟩ := takeClaim_of_defended (round := round) hok hdefended
  have hobjections : objectionsTo sender round entries s = [] := by
    simp only [objectionsTo, List.map_eq_nil_iff, List.filter_eq_nil_iff]
    exact fun e he => by simp [hnone e he]
  simp only [hobjections, List.not_mem_nil, false_imp_iff, implies_true, if_true] at hlink hacts
  refine ⟨_, hexec, hlink, ?_⟩
  by_cases hmay : mayReserve s sender = true
  · rw [if_pos hmay]
    rw [if_pos hmay] at hrecorded hacts
    refine ⟨fun e he => ?_, fun _ _ => hrecorded.otherContent, fun _ _ => hrecorded.otherCradleContent, hrecorded.sourceAt,
      hrecorded.facts, hacts⟩
    cases href : e.ref with
    | slot row column => exact hrecorded.contentAt he href
    | cradle bay index => exact hrecorded.cradleContent he href
  · rw [if_neg hmay]
    rwa [if_neg hmay] at hacts

end Sys2Proof.Machine
end

section
/-! PROOFS. A frame on the line is read as it was sent: fields of bytes and bits, inserted bits, the frame, and the STATUS
payload (R37, R38, R42, section 3.1). -/

namespace Sys2Proof.Machine

/-! ### Fields of bits and of bytes (R38, section 10.1) -/

theorem natBits_length (n v : Nat) : (natBits n v).length = n := by
  induction n generalizing v with
  | zero => rfl
  | succ n ih => simp [natBits, ih]

theorem bitsValue_concat (bs : List Bool) (b : Bool) : bitsValue (bs ++ [b]) = bitsValue bs * 2 + b.toNat := by
  simp [bitsValue]

/-- The bits of a number spell it, as far as they go. -/
theorem bitsValue_natBits (n v : Nat) : bitsValue (natBits n v) = v % 2 ^ n := by
  induction n generalizing v with
  | zero => simp [natBits, bitsValue, Nat.mod_one]
  | succ n ih =>
    have hbit : (decide (v % 2 = 1)).toNat = v % 2 := by
      obtain h | h := Nat.mod_two_eq_zero_or_one v <;> simp [h]
    rw [natBits, bitsValue_concat, ih, hbit, Nat.pow_succ', Nat.mod_mul]
    omega

theorem bytesBits_cons (b : Byte) (bs : List Byte) : bytesBits (b :: bs) = natBits 8 b.toNat ++ bytesBits bs := rfl

theorem bytesBits_length (bs : List Byte) : (bytesBits bs).length = 8 * bs.length := by
  induction bs with
  | nil => rfl
  | cons b bs ih =>
    rw [bytesBits_cons, List.length_append, natBits_length, ih, List.length_cons]
    omega

/-- The bits of bytes are read back as the bytes. -/
theorem bitsBytes_bytesBits (bs : List Byte) (rest : List Bool) : bitsBytes bs.length (bytesBits bs ++ rest) = bs := by
  induction bs with
  | nil => rfl
  | cons b bs ih =>
    rw [List.length_cons, bitsBytes, bytesBits_cons, List.append_assoc, List.take_left' (natBits_length ..),
      List.drop_left' (natBits_length ..), ih, bitsValue_natBits]
    congr 1
    exact BitVec.eq_of_toNat_eq (by simpa using b.isLt)

theorem beValue_concat (bs : List Byte) (b : Byte) : beValue (bs ++ [b]) = beValue bs * 256 + b.toNat := by
  simp [beValue]

/-- A field of bytes spells its number, as far as it goes. -/
theorem beValue_be (n v : Nat) : beValue (be n v) = v % 256 ^ n := by
  induction n generalizing v with
  | zero => simp [be, beValue, Nat.mod_one]
  | succ n ih =>
    rw [be, beValue_concat, ih, Nat.pow_succ', Nat.mod_mul, BitVec.toNat_ofNat]
    omega

theorem beSigned_beInt {v : Int} (hlow : -32768 ≤ v) (hhigh : v ≤ 32767) : beSigned (beInt 2 v) = v := by
  simp only [beSigned, beInt, beValue_be]
  norm_num
  omega

/-! ### Inserted bits (R37) -/

/-- R37: how many equal bits end after one more bit. -/
def runAfter (last : Bool) (run : Nat) (b : Bool) : Nat := if b = last then run + 1 else 1

/-- R37: the bits that follow on the line: after five equal bits the inserted one comes first. -/
def lineAfter (last : Bool) (run : Nat) (bs : List Bool) : List Bool :=
  if run = 5 then (!last) :: stuff (!last) 1 bs else stuff last run bs

theorem stuff_cons (last : Bool) (run : Nat) (b : Bool) (bs : List Bool) :
    stuff last run (b :: bs) = b :: lineAfter b (runAfter last run b) bs := by
  have hstuff : stuff last run (b :: bs) = if runAfter last run b = 5 then b :: (!b) :: stuff (!b) 1 bs
      else b :: stuff b (runAfter last run b) bs := rfl
  rw [hstuff, lineAfter]
  split <;> rfl

theorem destuff_zero (last : Bool) (run : Nat) (line : List Bool) :
    destuff last run 0 line = some ([], { last := last, run := run, rest := line }) := by
  cases line <;> rfl

/-- R37: a bit that is no inserted one is read. -/
theorem destuff_cons {last : Bool} {run n : Nat} {b : Bool} {line : List Bool} (hrun : run ≠ 5) :
    destuff last run (n + 1) (b :: line) = (destuff b (runAfter last run b) n line).map fun p => (b :: p.1, p.2) := by
  simp only [destuff, hrun, Nat.add_one_ne_zero, if_false, Nat.add_sub_cancel, runAfter]
  split
  next h => rw [h]; rfl
  next h => rw [h]; rfl

/-- R37: an inserted bit is passed over. -/
theorem destuff_inserted (last : Bool) (n : Nat) (line : List Bool) :
    destuff last 5 (n + 1) ((!last) :: line) = destuff (!last) 1 (n + 1) line := by
  simp [destuff]

/-- R37: bits sent are read with the inserted ones removed, and the rest of the line stands. -/
theorem destuff_lineAfter (bs more tail : List Bool) (last : Bool) {run : Nat} (hrun : run ≤ 5) :
    ∃ last' run', run' ≤ 5 ∧ destuff last run bs.length (lineAfter last run (bs ++ more) ++ tail) =
      some (bs, { last := last', run := run', rest := lineAfter last' run' more ++ tail }) := by
  induction bs generalizing last run with
  | nil => exact ⟨last, run, hrun, destuff_zero ..⟩
  | cons b bs ih =>
    have hread {last : Bool} {run : Nat} (hrun : run < 5) : ∃ last' run', run' ≤ 5 ∧
        destuff last run (bs.length + 1) (stuff last run (b :: (bs ++ more)) ++ tail) =
          some (b :: bs, { last := last', run := run', rest := lineAfter last' run' more ++ tail }) := by
      have hnext : runAfter last run b ≤ 5 := by
        unfold runAfter
        split <;> omega
      obtain ⟨last', run', hrun', hrest⟩ := ih b hnext
      exact ⟨last', run', hrun', by rw [stuff_cons, List.cons_append, destuff_cons hrun.ne, hrest]; rfl⟩
    by_cases hfive : run = 5
    · subst hfive
      obtain ⟨last', run', hrun', hrest⟩ := hread (last := !last) (run := 1) (by omega)
      exact ⟨last', run', hrun', by rw [List.length_cons, lineAfter, if_pos rfl, List.cons_append, destuff_inserted]; exact hrest⟩
    · rw [lineAfter, if_neg hfive]
      exact hread (by omega)

/-- R37: after the last bit an inserted one is passed over. -/
theorem afterCrc_lineAfter (last : Bool) (run : Nat) (tail : List Bool) :
    LineReader.afterCrc { last := last, run := run, rest := lineAfter last run [] ++ tail } = some tail := by
  by_cases hrun : run = 5
  · simp [LineReader.afterCrc, lineAfter, stuff, hrun]
  · simp [LineReader.afterCrc, lineAfter, stuff, hrun]

/-! ### The frame (R38) -/

theorem headerBits_length (cls sender length : Nat) : (headerBits cls sender length).length = 16 := by
  simp [headerBits, natBits_length]

/-- R38: the fields of a header. -/
theorem headerBits_fields {cls sender length : Nat} (hcls : cls < 8) (hsender : sender < 32) (hlength : length < 256) :
    bitsValue ((headerBits cls sender length).take 3) = cls ∧
      bitsValue (((headerBits cls sender length).drop 3).take 5) = sender ∧
      bitsValue ((headerBits cls sender length).drop 8) = length := by
  have hboth : (natBits 3 cls ++ natBits 5 sender).length = 8 := by simp [natBits_length]
  refine ⟨?_, ?_, ?_⟩
  · rw [headerBits, List.append_assoc, List.take_left' (natBits_length ..), bitsValue_natBits]
    exact Nat.mod_eq_of_lt hcls
  · rw [headerBits, List.append_assoc, List.drop_left' (natBits_length ..), List.take_left' (natBits_length ..),
      bitsValue_natBits]
    exact Nat.mod_eq_of_lt hsender
  · rw [headerBits, List.drop_left' hboth, bitsValue_natBits]
    exact Nat.mod_eq_of_lt hlength

/-- R38: a frame is received as it was sent. -/
theorem receiveBits_frameBits {cls sender : Nat} {payload : List Byte} (hcls : cls < 8) (hsender : sender < 32)
    (hlength : payload.length ≤ 40) :
    receiveBits (frameBits cls sender payload) = some { cls := cls, sender := sender, payload := payload } := by
  let header := headerBits cls sender payload.length
  let check := natBits 16 (crc (coveredBits cls sender payload)).toNat
  have hfields := headerBits_fields hcls hsender (Nat.lt_of_le_of_lt hlength (by decide : 40 < 256))
  obtain ⟨hreadCls, hreadSender, hreadLength⟩ := hfields
  have hframe : frameBits cls sender payload =
      lineAfter true 0 ((false :: header) ++ (bytesBits payload ++ check)) ++ List.replicate 7 true := by
    simp [frameBits, coveredBits, lineAfter, header, check]
  obtain ⟨last, run, hrun, hhead⟩ := destuff_lineAfter (false :: header) (bytesBits payload ++ check) (List.replicate 7 true)
    true (run := 0) (by omega)
  obtain ⟨last', run', -, hbody⟩ := destuff_lineAfter (bytesBits payload ++ check) [] (List.replicate 7 true) last hrun
  have hheadLength : (false :: header).length = 17 := congrArg (· + 1) (headerBits_length ..)
  have hbodyLength : (bytesBits payload ++ check).length = 8 * payload.length + 16 := by
    rw [List.length_append, bytesBits_length, natBits_length]
  rw [hheadLength] at hhead
  rw [hbodyLength, List.append_nil] at hbody
  have hcheck : bitsValue check = (crc (coveredBits cls sender payload)).toNat := by
    rw [bitsValue_natBits]
    exact Nat.mod_eq_of_lt (BitVec.isLt _)
  have hcovered : header ++ bytesBits payload = coveredBits cls sender payload := rfl
  rw [hframe, receiveBits, hhead]
  simp only [receiveBody, List.drop_succ_cons, List.drop_zero, header, hreadLength, Nat.not_lt.2 hlength, if_false, hbody,
    afterCrc_lineAfter, List.take_left' (bytesBits_length payload), List.drop_left' (bytesBits_length payload), hcheck,
    hreadCls, hreadSender, bitsBytes_bytesBits]
  rw [if_pos ⟨rfl, by rw [← hcovered], by simp⟩]

end Sys2Proof.Machine
end

section
/-! PROOFS. The STATUS payload, field by field, and the STATUS frame on the line (R42, section 3.1). -/

namespace Sys2Proof.Machine

/-! ### The fields of a STATUS payload -/

section
variable (r : StatusReport) (farewell : Bool)

theorem statusPayload_length : (statusPayload r farewell).length = 18 := rfl

/-- Section 3.1: the numbers of byte 0. -/
theorem statusFlags_fields (x : Report) : let flags := statusFlags x farewell
    flags < 256 ∧ flags % 2 = 0 ∧ flags / 8 % 4 = posStateCode x.posState ∧ flags / 2 % 4 = summaryCode x.summary ∧
      flags / 64 % 2 = loadStateCode x.load ∧ flags / 32 % 2 = (if x.stableNet.isSome = true then 1 else 0) ∧
      flags / 128 % 2 = if farewell = true then 1 else 0 := by
  have hload : loadStateCode x.load ≤ 1 := by cases x.load <;> decide
  have hpos : posStateCode x.posState ≤ 2 := by cases x.posState <;> decide
  have hsummary : summaryCode x.summary ≤ 3 := by cases x.summary <;> decide
  unfold statusFlags
  split_ifs <;> omega

theorem statusPayload_flags : beValue ((statusPayload r farewell).take 1) = statusFlags r.report farewell := by
  obtain ⟨hflags, -⟩ := statusFlags_fields farewell r.report
  have hfield : (statusPayload r farewell).take 1 = be 1 (statusFlags r.report farewell) := rfl
  rw [hfield, beValue_be]
  exact Nat.mod_eq_of_lt hflags

theorem posStateOf_code (p : PosState) : posStateOf (posStateCode p) = some p := by cases p <;> rfl

theorem summaryOf_code (x : TaskSummary) : summaryOf (summaryCode x) = some x := by cases x <;> rfl

theorem load_of_code (x : LoadState) : (if loadStateCode x = 1 then LoadState.loaded else .unloaded) = x := by cases x <;> rfl

end

theorem statusOk_iff (r : StatusReport) : statusOk r = true ↔ r.report.bridgePos ≤ 400000 ∧ -8000 ≤ r.report.bridgeSpeed ∧
    r.report.bridgeSpeed ≤ 8000 ∧ r.report.plusExtent ≤ 20000 ∧ r.report.minusExtent ≤ 20000 ∧
    r.report.trolleyPos ≤ 60000 ∧ r.report.hookHeight ≤ 40000 := by
  simp [statusOk, and_assoc]

theorem beValue_be_of_lt {n v : Nat} (h : v < 256 ^ n) : beValue (be n v) = v := by
  rw [beValue_be, Nat.mod_eq_of_lt h]

/-- R42: the report read from a payload is the one it was made of. -/
theorem readReport_statusPayload {r : StatusReport} {farewell : Bool} (hwf : statusWf r = true) :
    readReport (statusFlags r.report farewell) r.report.posState r.report.summary (statusPayload r farewell) = r := by
  obtain ⟨-, -, -, -, hload, hstable, -⟩ := statusFlags_fields farewell r.report
  simp only [statusWf, Bool.and_eq_true, fits, decide_eq_true_eq] at hwf
  obtain ⟨⟨hok, hsignature⟩, hnet⟩ := hwf
  obtain ⟨hbridge, hslow, hfast, hplus, hminus, htrolley, hhook⟩ := (statusOk_iff r).1 hok
  let field (i n : Nat) := ((statusPayload r farewell).drop i).take n
  have hfields : field 1 3 = be 3 r.report.bridgePos ∧ field 4 2 = beInt 2 r.report.bridgeSpeed ∧
      field 6 2 = be 2 r.report.plusExtent ∧ field 8 2 = be 2 r.report.minusExtent ∧ field 10 2 = be 2 r.report.trolleyPos ∧
      field 12 2 = be 2 r.report.hookHeight ∧ field 14 2 = beInt 2 (r.report.stableNet.getD 0) ∧ field 16 2 = be 2 r.signature :=
    ⟨rfl, rfl, rfl, rfl, rfl, rfl, rfl, rfl⟩
  obtain ⟨h1, h4, h6, h8, h10, h12, h14, h16⟩ := hfields
  have hreport : (if statusFlags r.report farewell / 32 % 2 = 1 then some (beSigned (field 14 2)) else none) = r.report.stableNet := by
    rw [hstable, h14]
    cases hn : r.report.stableNet with
    | none => rfl
    | some n =>
      simp only [hn, Bool.and_eq_true, decide_eq_true_eq] at hnet
      rw [Option.getD_some, beSigned_beInt hnet.1 hnet.2]
      rfl
  have hpow2 : 256 ^ 2 = 65536 := rfl
  have hpow3 : 256 ^ 3 = 16777216 := rfl
  have hnumbers : beValue (field 1 3) = r.report.bridgePos ∧ beSigned (field 4 2) = r.report.bridgeSpeed ∧
      beValue (field 6 2) = r.report.plusExtent ∧ beValue (field 8 2) = r.report.minusExtent ∧
      beValue (field 10 2) = r.report.trolleyPos ∧ beValue (field 12 2) = r.report.hookHeight ∧
      beValue (field 16 2) = r.signature := by
    rw [h1, h4, h6, h8, h10, h12, h16]
    exact ⟨beValue_be_of_lt (by omega), beSigned_beInt (by omega) (by omega), beValue_be_of_lt (by omega),
      beValue_be_of_lt (by omega), beValue_be_of_lt (by omega), beValue_be_of_lt (by omega), beValue_be_of_lt hsignature⟩
  obtain ⟨n1, n4, n6, n8, n10, n12, n16⟩ := hnumbers
  unfold readReport
  dsimp only [field] at *
  rw [n1, n4, n6, n8, n10, n12, n16, hreport, hload, load_of_code]

/-- R42: a STATUS payload is read with its farewell flag. -/
theorem parseStatus_statusPayload {r : StatusReport} {farewell : Bool} (hwf : statusWf r = true) :
    parseStatus (statusPayload r farewell) = some (r, farewell) := by
  obtain ⟨-, heven, hpos, hsummary, -, -, hfarewell⟩ := statusFlags_fields farewell r.report
  have hok : statusOk r = true := by
    simp only [statusWf, Bool.and_eq_true] at hwf
    exact hwf.1.1
  have hflag : decide ((if farewell = true then 1 else 0) = 1) = farewell := by cases farewell <;> rfl
  simp only [parseStatus, statusPayload_flags, statusPayload_length, heven, and_self, if_true, hpos, hsummary, posStateOf_code,
    summaryOf_code, readReport_statusPayload hwf, hok, hfarewell, hflag]

/-- Settles O60: the frame is received as sent, and its payload read as composed. -/
theorem statusFrameReadAsSent : Obligations.StatusFrameReadAsSent := by
  intro sender r farewell hsender hwf
  have hrange : 1 ≤ sender ∧ sender ≤ 30 := by simpa [senderOk] using hsender
  have hreceived := receiveBits_frameBits (cls := statusClass) (sender := sender) (payload := statusPayload r farewell)
    (by decide) (by omega) (by rw [statusPayload_length]; decide)
  have hfits : payloadFits statusClass (statusPayload r farewell).length = true := by
    rw [statusPayload_length]
    rfl
  rw [statusLine, lineCommand, hreceived]
  dsimp only
  rw [if_neg (by simp [hfits, hsender]), if_pos rfl, parseStatus_statusPayload hwf]
  cases farewell <;> rfl

end Sys2Proof.Machine
end

section
/-! PROOFS. The shape of the neighbour table and of the map (R60, R102): the stations that have an entry and the number of slot
records, and that what is done to slots, cradles, rounds and bookings leaves it. -/

namespace Sys2Proof.Machine

/-! ### The shape -/

/-- What the laws of the table and of the map speak of: the own identifier, the geometry, the number of slot records, and the
stations of the table's entries. -/
structure Shape where
  own : Option Nat
  geometry : Option Geometry
  slots : Nat
  stations : List Nat

/-- The shape of a state. -/
def shapeOf (s : State) : Shape where
  own := s.cfg.stationId
  geometry := s.cfg.geometry
  slots := s.map.length
  stations := s.table.entries.map Entry.id

theorem tableLaw_iff (s : State) : TableLaw s ↔ (shapeOf s).stations.length ≤ 12 ∧ (shapeOf s).stations.Pairwise (· < ·) ∧
    ∀ id ∈ (shapeOf s).stations, 1 ≤ id ∧ id ≤ 30 ∧ (shapeOf s).own ≠ some id := by
  simp [TableLaw, shapeOf]

theorem mapShape_iff (s : State) : MapShape s ↔
    (shapeOf s).slots = ((shapeOf s).geometry.elim 0 fun g => g.rows * columns g) := by
  unfold MapShape shapeOf
  cases s.cfg.geometry <;> simp

/-- Both laws (R60, R102). -/
def Shaped (s : State) : Prop := TableLaw s ∧ MapShape s

theorem Shaped.of_shapeOf {s t : State} (hs : Shaped s) (h : shapeOf t = shapeOf s) : Shaped t := by
  unfold Shaped at *
  rwa [tableLaw_iff, mapShape_iff, h, ← tableLaw_iff, ← mapShape_iff]

theorem shapeOf_eq {s t : State} (hcfg : t.cfg = s.cfg) (hmap : t.map.length = s.map.length)
    (htable : t.table.entries.map Entry.id = s.table.entries.map Entry.id) : shapeOf t = shapeOf s := by
  simp only [shapeOf, hcfg, hmap, htable]

theorem shapeOf_of_keeps {bs : List Block} {s t : State} (h : Keeps bs s t)
    (hbs : ∀ b ∈ [Block.cfg, .map, .table], b ∉ bs := by simp) : shapeOf t = shapeOf s := by
  have hcfg : t.cfg = s.cfg := h.2 .cfg (hbs _ (by simp))
  have hmap : t.map = s.map := h.2 .map (hbs _ (by simp))
  have htable : t.table = s.table := h.2 .table (hbs _ (by simp))
  exact shapeOf_eq hcfg (by rw [hmap]) (by rw [htable])

/-- Releases of own reservations change no number of records. -/
theorem Loses.shapeOf {ns : List Notice} {s t : State} (h : Loses ns s t) : shapeOf t = shapeOf s := by
  have hcfg : t.cfg = s.cfg := h.keeps.2 .cfg (by simp [lossBlocks])
  have htable : t.table = s.table := h.keeps.2 .table (by simp [lossBlocks])
  obtain ⟨hmap, -⟩ := h.freed
  exact shapeOf_eq hcfg (by simpa using congrArg List.length hmap) (by rw [htable])

theorem shapeOf_foldl {α : Type} {f : State → α → State} (hf : ∀ s a, shapeOf (f s a) = shapeOf s) (as : List α) (s : State) :
    shapeOf (as.foldl f s) = shapeOf s := by
  induction as generalizing s with
  | nil => rfl
  | cons a as ih => rw [List.foldl_cons, ih, hf]

/-! ### The updates of the state -/

@[simp] theorem shapeOf_withClock (x : Clock) (s : State) : shapeOf (s.withClock x) = shapeOf s := rfl
@[simp] theorem shapeOf_withPos (x : PositionUnit) (s : State) : shapeOf (s.withPos x) = shapeOf s := rfl
@[simp] theorem shapeOf_withWeigh (x : WeighingUnit) (s : State) : shapeOf (s.withWeigh x) = shapeOf s := rfl
@[simp] theorem shapeOf_withPerm (x : PermissionUnit) (s : State) : shapeOf (s.withPerm x) = shapeOf s := rfl
@[simp] theorem shapeOf_withClaims (x : ClaimEngine) (s : State) : shapeOf (s.withClaims x) = shapeOf s := rfl
@[simp] theorem shapeOf_withTracker (x : Tracker) (s : State) : shapeOf (s.withTracker x) = shapeOf s := rfl
@[simp] theorem shapeOf_withPort (x : Port) (s : State) : shapeOf (s.withPort x) = shapeOf s := rfl
@[simp] theorem shapeOf_withNotices (x : NoticeUnit) (s : State) : shapeOf (s.withNotices x) = shapeOf s := rfl
@[simp] theorem shapeOf_withPending (x : List Instr) (s : State) : shapeOf (s.withPending x) = shapeOf s := rfl

@[simp] theorem shapeOf_raise (n : Notice) (s : State) : shapeOf (raise n s) = shapeOf s := rfl
@[simp] theorem shapeOf_driveAttn (s : State) : shapeOf (driveAttn s) = shapeOf s := rfl
@[simp] theorem shapeOf_driveOutputs (s : State) : shapeOf (driveOutputs s) = shapeOf s :=
  shapeOf_of_keeps (keeps_driveOutputs s)
@[simp] theorem shapeOf_settle (s : State) : shapeOf (settle s) = shapeOf s := shapeOf_of_keeps (keeps_settle s)
@[simp] theorem shapeOf_respond (r : Reply) (s : State) : shapeOf (respond r s) = shapeOf s := rfl
@[simp] theorem shapeOf_setBoxes (b : Mailboxes) (s : State) : shapeOf (setBoxes b s) = shapeOf s := rfl
@[simp] theorem shapeOf_updateLink (f : Link → Link) (s : State) : shapeOf (updateLink f s) = shapeOf s := rfl
@[simp] theorem shapeOf_updateTask (f : Task → Task) (s : State) : shapeOf (updateTask f s) = shapeOf s := rfl
@[simp] theorem shapeOf_setHook (h : Option Hook) (s : State) : shapeOf (setHook h s) = shapeOf s := rfl
@[simp] theorem shapeOf_askRelease (f : ReleaseFrame) (s : State) : shapeOf (askRelease f s) = shapeOf s :=
  shapeOf_of_keeps (keeps_askRelease f s)
@[simp] theorem shapeOf_askObject (f : ObjectFrame) (s : State) : shapeOf (askObject f s) = shapeOf s :=
  shapeOf_of_keeps (keeps_askObject f s)
@[simp] theorem shapeOf_withdrawClaim (f : ReleaseFrame) (s : State) : shapeOf (withdrawClaim f s) = shapeOf s :=
  shapeOf_of_keeps (keeps_withdrawClaim f s)
@[simp] theorem shapeOf_endAttempt (s : State) : shapeOf (endAttempt s) = shapeOf s := shapeOf_of_keeps (keeps_endAttempt s)
@[simp] theorem shapeOf_countReceiveError (s : State) : shapeOf (countReceiveError s) = shapeOf s :=
  shapeOf_of_keeps (keeps_countReceiveError s)
@[simp] theorem shapeOf_queueBook (f : BookFrame) (s : State) : shapeOf (queueBook f s) = shapeOf s := rfl

/-! ### The records: a change of a slot or a cradle is no change of their number -/

@[simp] theorem shapeOf_setSlot (row column : Nat) (r : SlotRecord) (s : State) : shapeOf (setSlot row column r s) = shapeOf s :=
  shapeOf_eq (by simp) (by
    unfold setSlot
    split
    · rfl
    · split
      · rfl
      · simp) (by simp)
@[simp] theorem shapeOf_setBay (bay : Nat) (b : Option Truck) (s : State) : shapeOf (setBay bay b s) = shapeOf s :=
  shapeOf_of_keeps (keeps_setBay bay b s)
@[simp] theorem shapeOf_setCradle (bay index : Nat) (c : CradleContent) (s : State) :
    shapeOf (setCradle bay index c s) = shapeOf s := shapeOf_eq (by simp) (by simp) (by simp)
@[simp] theorem shapeOf_releaseWhere (p : Reservation → Bool) (source : ChangeSource) (s : State) :
    shapeOf (releaseWhere p source s) = shapeOf s := shapeOf_eq rfl (List.length_map _) rfl
@[simp] theorem shapeOf_releasePeer (id : Nat) (s : State) : shapeOf (releasePeer id s) = shapeOf s := shapeOf_releaseWhere ..
@[simp] theorem shapeOf_mapReservations (f : Reservation → Reservation) (s : State) :
    shapeOf (mapReservations f s) = shapeOf s := shapeOf_eq rfl (List.length_map _) rfl

@[simp] theorem shapeOf_releaseRef (p : Reservation → Bool) (source : ChangeSource) (ref : Ref) (s : State) :
    shapeOf (releaseRef p source ref s) = shapeOf s := by
  unfold releaseRef
  split <;> split <;> simp

@[simp] theorem shapeOf_updateResv (f : Reservation → Reservation) (ref : Ref) (s : State) :
    shapeOf (updateResv f ref s) = shapeOf s := by
  unfold updateResv
  split <;> split <;> simp

@[simp] theorem shapeOf_reserveRef (dir : ClaimDir) (v : Reservation) (source : ChangeSource) (ref : Ref) (s : State) :
    shapeOf (reserveRef dir v source ref s) = shapeOf s := by
  unfold reserveRef
  split
  · split <;> simp
  · split
    · split <;> simp
    · rfl

/-! ### Losses and rounds (R133 to R147) -/

@[simp] theorem shapeOf_ownRemoved (ref : Ref) (v : Reservation) (s : State) : shapeOf (ownRemoved ref v s) = shapeOf s :=
  (loses_ownRemoved lossNotices_subset ref v s).shapeOf
@[simp] theorem shapeOf_enterTerminal (st : TaskState) (reason : Option Reason) (notice : Notice) (s : State) :
    shapeOf (enterTerminal st reason notice s) = shapeOf s :=
  (loses_enterTerminal (ns := [notice]) (by simp) st reason s).shapeOf
@[simp] theorem shapeOf_dropFromRound (ref : Ref) (s : State) : shapeOf (dropFromRound ref s) = shapeOf s :=
  shapeOf_of_keeps (keeps_dropFromRound ref s)
@[simp] theorem shapeOf_releaseTarget (s : State) : shapeOf (releaseTarget s) = shapeOf s :=
  (loses_releaseTarget (ns := []) s).shapeOf
@[simp] theorem shapeOf_abandonRound (s : State) : shapeOf (abandonRound s) = shapeOf s :=
  (loses_abandonRound (ns := []) s).shapeOf
@[simp] theorem shapeOf_loseRound (cause : Reason) (s : State) : shapeOf (loseRound cause s) = shapeOf s :=
  (loses_loseRound lossNotices_subset cause s).shapeOf
@[simp] theorem shapeOf_lateObjection (cause : Reason) (ref : Ref) (s : State) :
    shapeOf (lateObjection cause ref s) = shapeOf s :=
  (loses_lateObjection cause ref s).shapeOf
@[simp] theorem shapeOf_holdRound (n : Nat) (s : State) : shapeOf (holdRound n s) = shapeOf s := shapeOf_mapReservations ..

@[simp] theorem shapeOf_failReassert (r : Round) (s : State) : shapeOf (failReassert r s) = shapeOf s := by
  unfold failReassert
  simp only [shapeOf_holdRound, shapeOf_withClaims]
  rw [shapeOf_foldl (fun s e => ?_)]
  · split <;> simp
  · split
    · rfl
    · split <;> simp

@[simp] theorem shapeOf_linkDown (s : State) : shapeOf (linkDown s) = shapeOf s := by
  unfold linkDown
  split
  · rfl
  · split
    · rfl
    · split <;> simp

@[simp] theorem shapeOf_expireWindow (s : State) : shapeOf (expireWindow s) = shapeOf s := by
  have htold (p : Purpose) (s : State) : shapeOf (tellHeld p s) = shapeOf s := by cases p <;> rfl
  unfold expireWindow windowExpired
  split
  · rfl
  · split_ifs <;> simp [htold]

@[simp] theorem shapeOf_queueRound (purpose : Purpose) (priority : Nat) (entries : List ClaimEntry) (s : State) :
    shapeOf (queueRound purpose priority entries s) = shapeOf s := rfl

@[simp] theorem shapeOf_startRound (purpose : Purpose) (priority : Nat) (entries : List ClaimEntry) (s : State) :
    shapeOf (startRound purpose priority entries s) = shapeOf s := by
  simp only [startRound, shapeOf_queueRound]
  exact shapeOf_foldl (by simp) ..

@[simp] theorem shapeOf_reassert (s : State) : shapeOf (reassert s) = shapeOf s := by
  simp only [reassert, apply_ite shapeOf, shapeOf_updateTask, shapeOf_queueRound, shapeOf_mapReservations, ite_self]

/-! ### Slots and cradles that change (R106, R113, R116 to R124, R181, R186 to R189) -/

@[simp] theorem shapeOf_makeDisputed (source : ChangeSource) (row column : Nat) (s : State) :
    shapeOf (makeDisputed source row column s) = shapeOf s := by
  unfold makeDisputed
  split
  · rfl
  · split
    · rfl
    · dsimp only
      split
      · simp
      · split <;> simp

@[simp] theorem shapeOf_searchCoil (coil : CoilId) (except : Option (Nat × Nat)) (source : ChangeSource) (s : State) :
    shapeOf (searchCoil coil except source s) = shapeOf s :=
  shapeOf_foldl (fun s p => by split <;> simp) _ s

@[simp] theorem shapeOf_checkUpper (row column : Nat) (s : State) : shapeOf (checkUpper row column s) = shapeOf s := by
  unfold checkUpper
  split
  · split <;> simp
  · rfl

@[simp] theorem shapeOf_checkUndermined (before : State) (named : Ref) (s : State) :
    shapeOf (checkUndermined before named s) = shapeOf s := shapeOf_foldl (by simp) ..

@[simp] theorem shapeOf_takeOutSlot (row column : Nat) (v : Reservation) (s : State) :
    shapeOf (takeOutSlot row column v s) = shapeOf s := by
  unfold takeOutSlot
  split <;> simp

@[simp] theorem shapeOf_putInSlot (row column : Nat) (c : CoilInfo) (s : State) :
    shapeOf (putInSlot row column c s) = shapeOf s := by
  unfold putInSlot
  split <;> simp

@[simp] theorem shapeOf_placeInCradle (bay index : Nat) (coil : CoilId) (weight : Nat) (placer : Holder) (s : State) :
    shapeOf (placeInCradle bay index coil weight placer s) = shapeOf s := by
  unfold placeInCradle
  split
  · dsimp only
    split <;> simp
  · rfl

@[simp] theorem shapeOf_ownPlacement (bay index : Nat) (coil : CoilId) (weight : Nat) (s : State) :
    shapeOf (ownPlacement bay index coil weight s) = shapeOf s := by
  unfold ownPlacement
  split
  · simp
  · split
    · simp
    · simp
    · split <;> simp

@[simp] theorem shapeOf_peerPlacement (p bay index : Nat) (coil : CoilId) (weight : Nat) (s : State) :
    shapeOf (peerPlacement p bay index coil weight s) = shapeOf s := by
  unfold peerPlacement
  split
  · simp
  · dsimp only
    split <;> simp

@[simp] theorem shapeOf_removeBayReservations (bay : Nat) (s : State) : shapeOf (removeBayReservations bay s) = shapeOf s := by
  unfold removeBayReservations
  dsimp only
  rw [shapeOf_foldl (by simp)]
  split <;> simp

/-! ### Bookings and the events of the load (R154 to R164) -/

@[simp] theorem shapeOf_hookUnknown (s : State) : shapeOf (hookUnknown s) = shapeOf s := rfl
@[simp] theorem shapeOf_takeOutRecords (k : Task) (v : Reservation) (s : State) :
    shapeOf (takeOutRecords k v s) = shapeOf s := by simp [takeOutRecords]
@[simp] theorem shapeOf_afterTakeOut (k : Task) (s : State) : shapeOf (afterTakeOut k s) = shapeOf s :=
  shapeOf_of_keeps (afterTakeOut_spec k s).1
@[simp] theorem shapeOf_sourceLost (s : State) : shapeOf (sourceLost s) = shapeOf s := by simp [sourceLost]

@[simp] theorem shapeOf_takeOut (k : Task) (s : State) : shapeOf (takeOut k s) = shapeOf s := by
  unfold takeOut
  split <;> simp

@[simp] theorem shapeOf_cancelTakeOut (k : Task) (s : State) : shapeOf (cancelTakeOut k s) = shapeOf s := by
  unfold cancelTakeOut
  split <;> simp

@[simp] theorem shapeOf_putInAt (k : Task) (ref : Ref) (s : State) : shapeOf (putInAt k ref s) = shapeOf s := by
  cases ref <;> simp [putInAt]

@[simp] theorem shapeOf_putIn (k : Task) (s : State) : shapeOf (putIn k s) = shapeOf s := by
  unfold putIn
  split <;> simp

@[simp] theorem shapeOf_returnIn (k : Task) (s : State) : shapeOf (returnIn k s) = shapeOf s := by simp [returnIn]

@[simp] theorem shapeOf_bookTakeOut (k : Task) (s : State) : shapeOf (bookTakeOut k s) = shapeOf s := by
  unfold bookTakeOut
  split <;> simp

@[simp] theorem shapeOf_bookPutIn (k : Task) (s : State) : shapeOf (bookPutIn k s) = shapeOf s := by
  unfold bookPutIn
  split <;> simp

@[simp] theorem shapeOf_startReturn (k : Task) (s : State) : shapeOf (startReturn k s) = shapeOf s := by
  simp only [startReturn, apply_ite shapeOf, shapeOf_updateTask, shapeOf_returnIn, shapeOf_abandonRound, shapeOf_releaseTarget,
    ite_self]

@[simp] theorem shapeOf_resumeBooking (s : State) : shapeOf (resumeBooking s) = shapeOf s := by
  unfold resumeBooking
  split
  · rfl
  · split
    · rfl
    · split <;> simp

@[simp] theorem shapeOf_liftUnknown (n : Nat) (s : State) : shapeOf (liftUnknown n s) = shapeOf s := rfl
@[simp] theorem shapeOf_wrongLift (reason : Reason) (n : Nat) (s : State) : shapeOf (wrongLift reason n s) = shapeOf s := by
  simp [wrongLift]

@[simp] theorem shapeOf_liftAtSource (mode : BookMode) (n : Nat) (s : State) :
    shapeOf (liftAtSource mode n s) = shapeOf s := by
  unfold liftAtSource
  dsimp only
  split <;> simp

@[simp] theorem shapeOf_liftBack (k : Task) (s : State) : shapeOf (liftBack k s) = shapeOf s := rfl

@[simp] theorem shapeOf_onLift (n : Nat) (s : State) : shapeOf (onLift n s) = shapeOf s := by
  unfold onLift
  split
  · rfl
  · split
    case h_6 | h_7 => split <;> simp
    all_goals simp

@[simp] theorem shapeOf_wrongSetDown (k : Task) (s : State) : shapeOf (wrongSetDown k s) = shapeOf s := by
  unfold wrongSetDown
  split <;> simp

@[simp] theorem shapeOf_undoLift (s : State) : shapeOf (undoLift s) = shapeOf s := rfl
@[simp] theorem shapeOf_setDownAtTarget (mode : BookMode) (k : Task) (s : State) :
    shapeOf (setDownAtTarget mode k s) = shapeOf s := by
  cases mode <;> simp [setDownAtTarget]

@[simp] theorem shapeOf_onSetDown (s : State) : shapeOf (onSetDown s) = shapeOf s := by
  unfold onSetDown
  dsimp only
  split
  · split <;> simp
  · split <;> simp [apply_ite shapeOf]

@[simp] theorem shapeOf_weighingCycle (coarseA fineA coarseB fineB : Int) (s : State) :
    shapeOf (weighingCycle coarseA fineA coarseB fineB s) = shapeOf s := by
  rw [weighingCycle_eq]
  unfold handLoadEvent
  have hmeasured := shapeOf_of_keeps (cycleMeasured_spec coarseA fineA coarseB fineB s).1
  split <;> simp [hmeasured]

end Sys2Proof.Machine
end

section
/-! PROOFS. The shape of the neighbour table and of the map through the link, the frames of peers, the requests, the positions and
the clock. -/

namespace Sys2Proof.Machine

/-! ### The link (R41, R50 to R58) -/

@[simp] theorem shapeOf_enterMuted (s : State) : shapeOf (enterMuted s) = shapeOf s := shapeOf_linkDown _
@[simp] theorem shapeOf_enterIdclash (s : State) : shapeOf (enterIdclash s) = shapeOf s := shapeOf_linkDown _
@[simp] theorem shapeOf_enterConfig (s : State) : shapeOf (enterConfig s) = shapeOf s := shapeOf_linkDown _
@[simp] theorem shapeOf_enterHalted (s : State) : shapeOf (enterHalted s) = shapeOf s := shapeOf_linkDown _
@[simp] theorem shapeOf_startListen (s : State) : shapeOf (startListen s) = shapeOf s := shapeOf_linkDown _
@[simp] theorem shapeOf_composeStatus (farewell : Bool) (s : State) : shapeOf (composeStatus farewell s) = shapeOf s := rfl
@[simp] theorem shapeOf_endReception (s : State) : shapeOf (endReception s) = shapeOf s := rfl
@[simp] theorem shapeOf_beatStarted (s : State) : shapeOf (beatStarted s) = shapeOf s := rfl
@[simp] theorem shapeOf_beatCounted (s : State) : shapeOf (beatCounted s) = shapeOf s := rfl
@[simp] theorem shapeOf_endMuted (s : State) : shapeOf (endMuted s) = shapeOf s := rfl
@[simp] theorem shapeOf_enterLinkState (st : LinkState) (afterMuted : Bool) (s : State) :
    shapeOf (enterLinkState st afterMuted s) = shapeOf s := rfl

@[simp] theorem shapeOf_transmitError (s : State) : shapeOf (transmitError s) = shapeOf s := by
  simp [transmitError, apply_ite shapeOf]

@[simp] theorem shapeOf_lineFaultBegins (receiving : Bool) (s : State) : shapeOf (lineFaultBegins receiving s) = shapeOf s := by
  simp [lineFaultBegins, apply_ite shapeOf]

@[simp] theorem shapeOf_frameStart (s : State) : shapeOf (frameStart s) = shapeOf s := by
  unfold frameStart
  split
  · split <;> rfl
  · rfl

@[simp] theorem shapeOf_arbitrationLost (s : State) : shapeOf (arbitrationLost s) = shapeOf s := by
  simp [arbitrationLost, apply_ite shapeOf]

@[simp] theorem shapeOf_claimSent (s : State) : shapeOf (claimSent s) = shapeOf s := by
  unfold claimSent
  split
  · simp
  · rfl

@[simp] theorem shapeOf_afterSent (m : Mailbox) (farewell : Bool) (s : State) : shapeOf (afterSent m farewell s) = shapeOf s := by
  cases m <;> simp [afterSent, apply_ite shapeOf]

@[simp] theorem shapeOf_frameSent (s : State) : shapeOf (frameSent s) = shapeOf s := by
  unfold frameSent
  split <;> simp

@[simp] theorem shapeOf_ownIdentifierSeen (s : State) : shapeOf (ownIdentifierSeen s) = shapeOf s := by
  unfold ownIdentifierSeen
  split <;> simp

@[simp] theorem shapeOf_beatStatus (s : State) : shapeOf (beatStatus s) = shapeOf s := by
  simp [beatStatus, apply_ite shapeOf]

@[simp] theorem shapeOf_enterActive (s : State) : shapeOf (enterActive s) = shapeOf s := by
  simp [enterActive, apply_ite shapeOf]

@[simp] theorem shapeOf_beatExpiry (s : State) : shapeOf (beatExpiry s) = shapeOf s := by
  cases h : s.link.state with
  | config => simp [beatExpiry_of_quiet, h]
  | halted => simp [beatExpiry_of_quiet, h]
  | idclash => simp [beatExpiry_of_quiet, h]
  | active => simp [beatExpiry_of_active h]
  | listen => simp [beatExpiry_of_listen h, apply_ite shapeOf]
  | muted => simp [beatExpiry_of_muted h, apply_ite shapeOf]

@[simp] theorem shapeOf_composeDeferred (s : State) : shapeOf (composeDeferred s) = shapeOf s := by
  simp [composeDeferred, apply_ite shapeOf]

@[simp] theorem shapeOf_putHeld (fs : List ReleaseFrame) (s : State) : shapeOf (putHeld fs s) = shapeOf s := by
  induction fs generalizing s with
  | nil => rfl
  | cons f fs ih =>
    unfold putHeld
    split
    next hput =>
      obtain ⟨b, rfl⟩ := putRelease_some hput
      rw [ih, shapeOf_setBoxes]
    · rfl

/-! ### Frames of peers on the records (R117 to R124, R138 to R144, R180 to R185, R189) -/

@[simp] theorem shapeOf_recordClaim (sender round priority : Nat) (e : ClaimEntry) (s : State) :
    shapeOf (recordClaim sender round priority e s) = shapeOf s := by
  unfold recordClaim
  dsimp only
  split <;> split <;> simp

@[simp] theorem shapeOf_meetOwn (sender round priority : Nat) (ref : Ref) (v : Reservation) (s : State) :
    shapeOf (meetOwn sender round priority ref v s) = shapeOf s := by
  unfold meetOwn
  split
  · exact shapeOf_askObject ..
  · split
    · rfl
    · simp [outranked, objectTo, apply_ite shapeOf]

@[simp] theorem shapeOf_takeClaim (sender round priority : Nat) (entries : List ClaimEntry) (s : State) :
    shapeOf (takeClaim sender round priority entries s) = shapeOf s := by
  have hmet : shapeOf (meetOwns sender round priority entries s) = shapeOf s :=
    shapeOf_foldl (fun s e => by split <;> simp) entries s
  unfold takeClaim
  dsimp only
  split
  · rw [shapeOf_foldl (by simp), hmet]
  · exact hmet

@[simp] theorem shapeOf_takeObject (n : Nat) (ref : Ref) (s : State) : shapeOf (takeObject n ref s) = shapeOf s := by
  have hlate : shapeOf (lateObject n ref s) = shapeOf s := by
    unfold lateObject
    split
    · rfl
    · split <;> simp
  unfold takeObject
  split
  · exact hlate
  · simp [hlate, apply_ite shapeOf]

@[simp] theorem shapeOf_takeRelease (p n : Nat) (refs : List Ref) (s : State) : shapeOf (takeRelease p n refs s) = shapeOf s :=
  shapeOf_foldl (by simp) refs s

@[simp] theorem shapeOf_holdPeer (ref : Ref) (s : State) : shapeOf (holdPeer ref s) = shapeOf s := by
  unfold holdPeer
  split
  · rfl
  · split <;> simp

@[simp] theorem shapeOf_pickSlot (p n row column : Nat) (coil : CoilId) (r : SlotRecord) (s : State) :
    shapeOf (pickSlot p n row column coil r s) = shapeOf s := by
  unfold pickSlot
  split <;> simp [apply_ite shapeOf]

@[simp] theorem shapeOf_applyPicked (p n row column : Nat) (coil : CoilId) (s : State) :
    shapeOf (applyPicked p n row column coil s) = shapeOf s := by
  unfold applyPicked
  split
  · simp
  · split
    · split <;> simp
    · simp [apply_ite shapeOf]

@[simp] theorem shapeOf_takePicked (p n : Nat) (ref : Ref) (coil : CoilId) (s : State) :
    shapeOf (takePicked p n ref coil s) = shapeOf s := by
  cases ref <;> simp [takePicked]

@[simp] theorem shapeOf_applyPlacedSlot (p row column : Nat) (c : CoilInfo) (s : State) :
    shapeOf (applyPlacedSlot p row column c s) = shapeOf s := by
  unfold applyPlacedSlot
  split
  · simp
  · split <;> simp

@[simp] theorem shapeOf_takePlaced (p n : Nat) (ref : Ref) (c : CoilInfo) (s : State) :
    shapeOf (takePlaced p n ref c s) = shapeOf s := by
  cases ref <;> simp [takePlaced, applyPlaced, releaseStep]

@[simp] theorem shapeOf_recordArrival (sender bay truckRef : Nat) (o : Orientation) (x : Trailer) (offsets : List Nat)
    (s : State) : shapeOf (recordArrival sender bay truckRef o x offsets s) = shapeOf s := by simp [recordArrival]

@[simp] theorem shapeOf_takeArrive (sender bay truckRef : Nat) (o : Orientation) (x : Trailer) (offsets : List Nat) (s : State) :
    shapeOf (takeArrive sender bay truckRef o x offsets s) = shapeOf s := by
  unfold takeArrive
  split
  · rfl
  · split
    · simp
    · simp [apply_ite shapeOf]

@[simp] theorem shapeOf_takeClose (bay truckRef : Nat) (s : State) : shapeOf (takeClose bay truckRef s) = shapeOf s := by
  unfold takeClose
  split
  · simp [apply_ite shapeOf]
  · rfl

@[simp] theorem shapeOf_takeDepart (bay truckRef : Nat) (s : State) : shapeOf (takeDepart bay truckRef s) = shapeOf s := by
  unfold takeDepart
  split
  · rfl
  · simp [apply_ite shapeOf]

/-! ### Requests of the map, the tasks, the trucks and the link (R55, R56, R112, R152 to R168, R178 to R184) -/

@[simp] theorem shapeOf_mapWrite (ref : Ref) (state : Nat) (coil : Option CoilId) (weight width : Option Nat) (s : State) :
    shapeOf (mapWrite ref state coil weight width s).1 = shapeOf s := by
  have hwritten (c : SlotContent) (row column : Nat) : shapeOf (writeSlot row column c s) = shapeOf s := by
    unfold writeSlot
    dsimp only
    rw [shapeOf_foldl (by simp), shapeOf_setSlot]
  unfold mapWrite
  split
  · rfl
  · split
    · unfold mapWriteSlot
      split_ifs <;> simp [hwritten]
    · rfl

@[simp] theorem shapeOf_taskStart (id kind : Nat) (source target : Ref) (coil : CoilId) (priority : Nat) (s : State) :
    shapeOf (taskStart id kind source target coil priority s).1 = shapeOf s := by
  unfold taskStart
  split
  · rfl
  · split_ifs
    iterate 5 exact rfl
    split
    · rfl
    · rfl
    · dsimp only
      split
      · rfl
      · simp [beginTask]

@[simp] theorem shapeOf_acceptWeight (k : Task) (s : State) : shapeOf (acceptWeight k s) = shapeOf s := by
  unfold acceptWeight
  dsimp only
  split
  · rfl
  · split <;> simp

@[simp] theorem shapeOf_taskConfirm (s : State) : shapeOf (taskConfirm s).1 = shapeOf s := by
  unfold taskConfirm
  split
  · rfl
  · split
    · rfl
    · split <;> simp

@[simp] theorem shapeOf_taskCancel (s : State) : shapeOf (taskCancel s).1 = shapeOf s := by
  unfold taskCancel
  split
  · rfl
  · split
    · rfl
    · split
      case h_3 => split <;> simp
      all_goals simp [cancelBeforeLift]

@[simp] theorem shapeOf_taskRetarget (target : Ref) (s : State) : shapeOf (taskRetarget target s).1 = shapeOf s := by
  unfold taskRetarget
  split
  · rfl
  · split_ifs
    iterate 5 exact rfl
    split
    · rfl
    · simp [beginRetarget]

@[simp] theorem shapeOf_queueTruck (f : TruckFrame) (s : State) : shapeOf (queueTruck f s) = shapeOf s := rfl

@[simp] theorem shapeOf_truckArrive (bay truckRef orientation : Nat) (x : Trailer) (offsets : List Nat) (s : State) :
    shapeOf (truckArrive bay truckRef orientation x offsets s).1 = shapeOf s := by
  unfold truckArrive
  split
  · rfl
  · split
    · rfl
    · split
      · rfl
      · split
        · rfl
        · simp [arrive]

@[simp] theorem shapeOf_truckClose (bay : Nat) (s : State) : shapeOf (truckClose bay s).1 = shapeOf s := by
  unfold truckClose
  split
  · rfl
  · split
    · rfl
    · split
      · rfl
      · split <;> simp

@[simp] theorem shapeOf_truckDepart (bay : Nat) (s : State) : shapeOf (truckDepart bay s).1 = shapeOf s := by
  unfold truckDepart
  split
  · rfl
  · split
    · rfl
    · split
      · rfl
      · split <;> simp

@[simp] theorem shapeOf_joinBody (s : State) : shapeOf (joinBody s).1 = shapeOf s := by
  unfold joinBody
  split
  · split <;> simp
  · simp
  · rfl

@[simp] theorem shapeOf_leaveBody (s : State) : shapeOf (leaveBody s).1 = shapeOf s := by
  unfold leaveBody
  split
  · split <;> simp
  · split <;> rfl
  · rfl

/-! ### Positions, entries evaluated, and the clock (R1 to R12, R32, R81, R87) -/

@[simp] theorem evalEntry_id (s : State) (e : Entry) : (evalEntry s e).id = e.id := congrArg Prod.fst (knownBy_evalEntry s e)

/-- Entries changed one by one are entries of the same stations. -/
theorem shapeOf_of_entries {f : Entry → Entry} {s t : State} (hcfg : t.cfg = s.cfg) (hmap : t.map = s.map)
    (htable : t.table.entries = s.table.entries.map f) (hf : ∀ e, (f e).id = e.id) : shapeOf t = shapeOf s :=
  shapeOf_eq hcfg (by rw [hmap]) (by rw [htable, List.map_map]; exact List.map_congr_left fun e _ => hf e)

@[simp] theorem shapeOf_evalEntries (s : State) : shapeOf (evalEntries s) = shapeOf s :=
  shapeOf_of_entries (f := evalEntry s) rfl rfl rfl (evalEntry_id s)

@[simp] theorem shapeOf_evalEntryOf (id : Nat) (s : State) : shapeOf (evalEntryOf id s) = shapeOf s :=
  shapeOf_of_entries (f := fun e => if e.id = id then evalEntry s e else e) rfl rfl rfl fun e => by split <;> simp

@[simp] theorem shapeOf_encoderStep (axis : Axis) (a b : Bool) (s : State) : shapeOf (encoderStep axis a b s) = shapeOf s := by
  have hsuspect (before : PosState) (u : State) : shapeOf (raiseSuspect before u) = shapeOf u :=
    shapeOf_of_keeps (keeps_raiseSuspect ..)
  unfold encoderStep
  dsimp only
  split_ifs <;> simp [setLines, hsuspect]

@[simp] theorem shapeOf_positionSample (s : State) : shapeOf (positionSample s) = shapeOf s := by
  have hhoist (u : State) : shapeOf (sampleHoist u) = shapeOf u := rfl
  rw [positionSample_eq, shapeOf_evalEntries, hhoist]
  exact shapeOf_of_keeps (keeps_takeSamples s)

@[simp] theorem shapeOf_markEdge (m : MarkedAxis) (s : State) : shapeOf (markEdge m s) = shapeOf s := by
  unfold markEdge
  dsimp only
  split
  · rfl
  · unfold applyMark
    dsimp only
    split <;> simp

@[simp] theorem shapeOf_posReference (axis position : Nat) (s : State) :
    shapeOf (posReference axis position s).1 = shapeOf s := by
  unfold posReference
  split
  · rfl
  next a _ =>
    split_ifs
    · rfl
    · rfl
    · cases a <;> simp [referenceAxis]

@[simp] theorem shapeOf_zeroSet (s : State) : shapeOf (zeroSet s).1 = shapeOf s := by
  unfold zeroSet
  split <;> rfl

@[simp] theorem shapeOf_zoneWrite (index : Nat) (z : ZoneArgs) (s : State) : shapeOf (zoneWrite index z s).1 = shapeOf s := by
  unfold zoneWrite
  split_ifs
  · rfl
  · rfl
  · rfl
  · split <;> rfl

@[simp] theorem shapeOf_idle (s : State) : shapeOf (idle s) = shapeOf s := by
  have htick : shapeOf (tick s) = shapeOf s :=
    shapeOf_of_entries (f := fun e => { e with age := ageTick e.age }) rfl rfl rfl fun _ => rfl
  have hpost (rows : List Instr) (s : State) : shapeOf (post rows s) = shapeOf s := rfl
  unfold idle
  split_ifs
  · rfl
  · rw [hpost, htick]
  · rw [hpost]

end Sys2Proof.Machine
end

section
/-! PROOFS. The entries of the neighbour table made and removed, the configuration written, and the claim that every step keeps the
table and the map to their shape. -/

namespace Sys2Proof.Machine

/-! ### Entries made and removed (R60, R62, R66, R67, R203) -/

theorem insertEntry_perm (e : Entry) (xs : List Entry) : (insertEntry e xs).Perm (e :: xs) := by
  induction xs with
  | nil => exact .refl _
  | cons x xs ih =>
    unfold insertEntry
    split
    · exact .refl _
    · exact (ih.cons x).trans (.swap e x xs)

/-- A new station takes its place by its identifier (assumption 42). -/
theorem pairwise_insertEntry {e : Entry} {xs : List Entry} (hxs : (xs.map Entry.id).Pairwise (· < ·))
    (he : ∀ x ∈ xs, x.id ≠ e.id) : ((insertEntry e xs).map Entry.id).Pairwise (· < ·) := by
  induction xs with
  | nil => simp [insertEntry]
  | cons x xs ih =>
    rw [List.map_cons, List.pairwise_cons] at hxs
    obtain ⟨hx, hrest⟩ := hxs
    unfold insertEntry
    split
    next hlt =>
      rw [List.map_cons, List.map_cons, List.pairwise_cons, List.pairwise_cons]
      refine ⟨fun id hid => ?_, hx, hrest⟩
      obtain rfl | hid := List.mem_cons.1 hid
      · exact hlt
      · exact hlt.trans (hx id hid)
    next hge =>
      have hne : x.id ≠ e.id := he x (by simp)
      rw [List.map_cons, List.pairwise_cons]
      refine ⟨fun id hid => ?_, ih hrest fun y hy => he y (by simp [hy])⟩
      have hid' := ((insertEntry_perm e xs).map Entry.id).mem_iff.1 hid
      obtain rfl | hid' := List.mem_cons.1 hid'
      · omega
      · exact hx id hid'

theorem ne_id_of_entryOf_none {s : State} {id : Nat} (h : entryOf s id = none) : ∀ e ∈ s.table.entries, e.id ≠ id := by
  simpa [entryOf] using h

/-- Entries that go leave the law of the table, where the station itself is none of those that stay. -/
theorem tableLaw_of_filter {s t : State} {p : Entry → Bool} (hs : TableLaw s)
    (htable : t.table.entries = s.table.entries.filter p)
    (hown : ∀ e ∈ s.table.entries, p e = true → t.cfg.stationId ≠ some e.id) : TableLaw t := by
  obtain ⟨hlength, hsorted, hstations⟩ := hs
  have hsub : List.Sublist t.table.entries s.table.entries := by rw [htable]; exact List.filter_sublist
  refine ⟨hsub.length_le.trans hlength, hsorted.sublist (hsub.map _), fun e he => ?_⟩
  rw [htable, List.mem_filter] at he
  obtain ⟨hlow, hhigh, -⟩ := hstations e he.1
  exact ⟨hlow, hhigh, hown e he.1 he.2⟩

/-- The law of the map stands where the geometry and the number of records do. -/
theorem MapShape.of_length {s t : State} (hs : MapShape s) (hgeometry : t.cfg.geometry = s.cfg.geometry)
    (hmap : t.map.length = s.map.length) : MapShape t := by
  rw [mapShape_iff] at hs ⊢
  simpa only [shapeOf, hgeometry, hmap] using hs

theorem shaped_removeEntry {s : State} (hs : Shaped s) (id : Nat) : Shaped (removeEntry id s) := by
  obtain ⟨htable, hmap⟩ := hs
  exact ⟨tableLaw_of_filter htable rfl fun e he _ => (htable.2.2 e he).2.2, hmap.of_length rfl rfl⟩

theorem shaped_createEntry {s : State} {id : Nat} (hs : Shaped s) (hnone : entryOf s id = none)
    (hroom : s.table.entries.length < 12) (hsender : 1 ≤ id ∧ id ≤ 30) (hother : s.cfg.stationId ≠ some id) (r : StatusReport) :
    Shaped (createEntry id r s) := by
  obtain ⟨⟨-, hsorted, hstations⟩, hmap⟩ := hs
  let e := newEntry id r.report (isForeign s r.signature)
  let u := mapEntries (insertEntry e) s
  have hperm : u.table.entries.Perm (e :: s.table.entries) := insertEntry_perm ..
  have hmade : TableLaw u := by
    refine ⟨by rw [hperm.length_eq]; exact hroom, pairwise_insertEntry hsorted (ne_id_of_entryOf_none hnone), fun x hx => ?_⟩
    obtain rfl | hx := List.mem_cons.1 (hperm.mem_iff.1 hx)
    · exact ⟨hsender.1, hsender.2, hother⟩
    · exact hstations x hx
  refine Shaped.of_shapeOf (s := u) ⟨hmade, hmap.of_length rfl rfl⟩ ?_
  simp [createEntry, apply_ite shapeOf, u, e]

/-- A change of single entries is no change of their stations. -/
theorem shapeOf_mapEntries_map {f : Entry → Entry} (hf : ∀ e, (f e).id = e.id) (s : State) :
    shapeOf (mapEntries (List.map f) s) = shapeOf s := shapeOf_of_entries rfl rfl rfl hf

@[simp] theorem shapeOf_refreshEntry (id : Nat) (r : StatusReport) (before : Entry) (s : State) :
    shapeOf (refreshEntry id r before s) = shapeOf s := by
  have hrefreshed := shapeOf_mapEntries_map (f := fun e => if e.id = id then e.refresh r.report (isForeign s r.signature) else e)
    (fun e => by split <;> rfl) s
  simp [refreshEntry, becomeForeign, apply_ite shapeOf, hrefreshed]

@[simp] theorem shapeOf_setEntryState (id : Nat) (st : EntryState) (s : State) : shapeOf (setEntryState id st s) = shapeOf s :=
  shapeOf_mapEntries_map (fun e => by split <;> rfl) s

@[simp] theorem shapeOf_becomeStale (id : Nat) (s : State) : shapeOf (becomeStale id s) = shapeOf s := by
  unfold becomeStale
  split
  · rfl
  · split <;> simp

@[simp] theorem shapeOf_becomeLost (id : Nat) (s : State) : shapeOf (becomeLost id s) = shapeOf s := by
  unfold becomeLost
  split
  · rfl
  · split <;> simp

@[simp] theorem shapeOf_untrackedReport (s : State) : shapeOf (untrackedReport s) = shapeOf s := by
  unfold untrackedReport
  dsimp only
  split <;> rfl

theorem shaped_takeStatus {s : State} {id : Nat} (hs : Shaped s) (hsender : 1 ≤ id ∧ id ≤ 30) (hother : s.cfg.stationId ≠ some id)
    (r : StatusReport) : Shaped (takeStatus id r s) := by
  unfold takeStatus
  split
  · exact hs.of_shapeOf (shapeOf_refreshEntry ..)
  next hnone =>
    split
    next hroom => exact shaped_createEntry hs hnone hroom hsender hother r
    · exact hs.of_shapeOf (shapeOf_untrackedReport s)

theorem shaped_takeFarewell {s : State} (hs : Shaped s) (id : Nat) : Shaped (takeFarewell id s) := by
  unfold takeFarewell
  split
  · exact hs
  · exact shaped_removeEntry (hs.of_shapeOf (shapeOf_releasePeer id s)) id

theorem shaped_neighbourDrop {s : State} (hs : Shaped s) (id : Nat) : Shaped (neighbourDrop id s).1 := by
  unfold neighbourDrop
  split
  · exact hs
  · split
    · exact hs
    · split
      · exact shaped_removeEntry hs id
      · exact hs

/-! ### The configuration and RESTART (R73, R103, R203) -/

/-- R203: the station's own identifier leaves the table as it is written. -/
theorem shaped_writeStationId {s : State} (hs : Shaped s) (v : Nat) : Shaped (takeFarewell v (stationIdStored v s)) := by
  obtain ⟨htable, hmap⟩ := hs
  obtain ⟨hkeeps, -, hcfg, -⟩ := stationIdStored_spec v s
  obtain ⟨hfiltered, -, hkeeps', -⟩ := takeFarewell_spec v (stationIdStored v s)
  have htable' : (stationIdStored v s).table = s.table := hkeeps.2 .table (by simp)
  have hmap' : (stationIdStored v s).map = s.map := hkeeps.2 .map (by simp)
  have hcfg' : (takeFarewell v (stationIdStored v s)).cfg = { s.cfg with stationId := some v } :=
    (hkeeps'.2 .cfg (by simp)).trans hcfg
  rw [htable'] at hfiltered
  refine ⟨tableLaw_of_filter htable (by rw [hfiltered]) fun e _ he => ?_, hmap.of_length (by rw [hcfg']) ?_⟩
  · rw [hcfg']
    exact (bne_iff_ne.1 he).symm
  · rw [← hmap']
    unfold takeFarewell
    split
    · rfl
    · exact List.length_map _

theorem shapeOf_itemWritten {item : Nat} {d : Cfg} {s : State} (hid : d.stationId = s.cfg.stationId)
    (hgeometry : d.geometry = s.cfg.geometry) : shapeOf (itemWritten item d s) = shapeOf s := by
  have hstations : (tableAfterWrite item (s.withCfg d)).entries.map Entry.id = s.table.entries.map Entry.id := by
    unfold tableAfterWrite
    split <;> simp [List.map_map, Function.comp_def]
  show Shape.mk d.stationId d.geometry s.map.length ((tableAfterWrite item (s.withCfg d)).entries.map Entry.id) = _
  rw [hid, hgeometry, hstations]
  rfl

/-- R103: a geometry written makes one record for each of its slots. -/
theorem shaped_writeGeometry {s : State} (hs : Shaped s) (g : Geometry) : Shaped (writeGeometry g s) := by
  obtain ⟨htable, -⟩ := id hs
  unfold writeGeometry
  split
  · exact hs
  · exact ⟨htable, by simp [MapShape, emptyKeptBoxes_eq]⟩

theorem shaped_writeItem {s : State} (hs : Shaped s) (item : Nat) (values : List Nat) : Shaped (writeItem item values s) := by
  unfold writeItem
  split
  next range hrange =>
    by_cases hid : item = 1
    · subst hid
      exact shaped_writeStationId hs _
    · obtain ⟨-, -, hgeometry, -, -, hstation⟩ := setScalar_keeps item (clampScalar item range (values.headD 0)) s.cfg
      rw [writeScalar_eq _ _ hid]
      exact hs.of_shapeOf (shapeOf_itemWritten (hstation hid) hgeometry)
  · split
    · exact hs.of_shapeOf rfl
    · exact hs.of_shapeOf rfl
    · split
      · exact hs
      · exact shaped_writeGeometry hs _
    · exact hs.of_shapeOf rfl
    · exact hs.of_shapeOf rfl
    · exact hs

theorem shaped_cfgWriteBody {s : State} (hs : Shaped s) (item : Nat) (values : List Nat) :
    Shaped (cfgWriteBody item values s).1 := by
  unfold cfgWriteBody
  split_ifs
  · exact hs
  · exact hs
  · exact hs
  · exact shaped_writeItem hs item values

theorem shapeOf_restartChanges (s : State) : shapeOf (restartChanges s) = { shapeOf s with stations := [] } := by
  have hlink : shapeOf (restartLink s) = shapeOf s := shapeOf_enterConfig s
  have hemptied (u : State) : shapeOf (u.withTable .reset) = { shapeOf u with stations := [] } := rfl
  simp [restartChanges, hemptied, hlink]

theorem shaped_restartBody {s : State} (hs : Shaped s) : Shaped (restartBody s).1 := by
  unfold restartBody
  split_ifs
  · exact hs
  · exact hs
  · obtain ⟨-, hmap⟩ := hs
    rw [mapShape_iff] at hmap
    rw [Shaped, tableLaw_iff, mapShape_iff, shapeOf_restartChanges]
    exact ⟨by simp, hmap⟩

/-! ### Every command, and every step -/

theorem shaped_event {body : State → State} {s : State} (hs : Shaped s) (h : Shaped (body s)) : Shaped (event body s) := by
  unfold event
  split
  · exact hs
  · exact h.of_shapeOf (shapeOf_settle _)

theorem shaped_request {body : State → State × Reply} {s : State} (hs : Shaped s) (h : Shaped (body s).1) :
    Shaped (request body s) := by
  unfold request
  split
  · exact hs
  · refine h.of_shapeOf ?_
    rw [shapeOf_respond]
    split <;> simp

theorem shapeOf_readRequest (f : State → Reply) (s : State) : shapeOf (readRequest f s) = shapeOf s := by
  unfold readRequest
  split <;> simp

theorem shapeOf_noticeRequest (body : NoticeUnit → NoticeUnit × Reply) (s : State) :
    shapeOf (noticeRequest body s) = shapeOf s := by
  unfold noticeRequest
  split <;> rfl

theorem shapeOf_chipSelectRise (bytes : List Byte) (partialByte : Bool) (s : State) :
    shapeOf (chipSelectRise bytes partialByte s) = shapeOf s := by
  unfold chipSelectRise
  split
  · rfl
  · split
    · rfl
    · unfold requestRises
      dsimp only
      split <;> rfl

/-- R42, R53: a frame received reaches its owner from a station 1 to 30 other than the own alone. -/
theorem shaped_receiveFrame {sender : Nat} {wellFormed shared : Bool} {owner : State → State} {s : State} (hs : Shaped s)
    (h : ∀ u, Shaped u → 1 ≤ sender ∧ sender ≤ 30 → u.cfg.stationId ≠ some sender → Shaped (owner u)) :
    Shaped (receiveFrame sender wellFormed shared owner s) := by
  have hended : Shaped (endReception s) := hs.of_shapeOf rfl
  unfold receiveFrame
  dsimp only
  generalize endReception s = u at *
  split_ifs with hconfig hgood hown hkept
  · exact hs
  · exact hended.of_shapeOf (shapeOf_ownIdentifierSeen u)
  · exact hended
  · have hsender : 1 ≤ sender ∧ sender ≤ 30 := by
      simp only [senderOk, Bool.and_eq_true, decide_eq_true_eq] at hgood
      exact hgood.1
    exact h u hended hsender fun hid => hown (by simp [ownId, hid])
  · exact hended.of_shapeOf (shapeOf_countReceiveError u)

theorem shaped_exec (c : Instr) {s : State} (hs : Shaped s) : ∃ t, exec c s = .next t ∧ Shaped t := by
  have hevent {body : State → State} (h : ∀ u, shapeOf (body u) = shapeOf u) : Shaped (event body s) :=
    shaped_event hs (hs.of_shapeOf (h s))
  have hrequest {body : State → State × Reply} (h : ∀ u, shapeOf (body u).1 = shapeOf u) : Shaped (request body s) :=
    shaped_request hs (hs.of_shapeOf (h s))
  have hframe {sender : Nat} {wellFormed shared : Bool} {owner : State → State} (h : ∀ u, shapeOf (owner u) = shapeOf u) :
      Shaped (event (receiveFrame sender wellFormed shared owner) s) :=
    shaped_event hs (shaped_receiveFrame hs fun u hu _ _ => hu.of_shapeOf (h u))
  cases c with
  | pinResetAssert =>
    exact ⟨_, rfl, hs.of_shapeOf (by simp [assertReset])⟩
  | pinResetRelease =>
    obtain ⟨-, -, htable, hmap, -⟩ := resetKeepsTheLaws
    exact ⟨_, rfl, Shaped.of_shapeOf (s := State.reset) ⟨htable, hmap⟩ rfl⟩
  | encoderTransition axis a b =>
    refine ⟨_, rfl, hs.of_shapeOf ?_⟩
    split
    · rfl
    · rw [shapeOf_settle, shapeOf_encoderStep]
  | markEdge axis => exact ⟨_, rfl, hevent (shapeOf_markEdge axis)⟩
  | positionSample => exact ⟨_, rfl, hevent shapeOf_positionSample⟩
  | weighingCycle coarseA fineA coarseB fineB => exact ⟨_, rfl, hevent (shapeOf_weighingCycle coarseA fineA coarseB fineB)⟩
  | lineFault reported receiving =>
    refine ⟨_, rfl, hs.of_shapeOf ?_⟩
    split
    · rfl
    · rw [shapeOf_settle]
      split <;> simp
  | frameStart => exact ⟨_, rfl, hevent shapeOf_frameStart⟩
  | arbitrationLost => exact ⟨_, rfl, hevent shapeOf_arbitrationLost⟩
  | frameSent => exact ⟨_, rfl, hevent shapeOf_frameSent⟩
  | transmitError => exact ⟨_, rfl, hevent fun u => by split <;> simp⟩
  | receiveError => exact ⟨_, rfl, hevent fun u => by simp⟩
  | ownIdentifierFrame => exact ⟨_, rfl, hevent fun u => by simp⟩
  | statusReceived sender r =>
    exact ⟨_, rfl, shaped_event hs (shaped_receiveFrame hs fun u hu hsender hother => shaped_takeStatus hu hsender hother r)⟩
  | farewellReceived sender r =>
    exact ⟨_, rfl, shaped_event hs (shaped_receiveFrame hs fun u hu _ _ => shaped_takeFarewell hu sender)⟩
  | claimReceived sender round priority entries => exact ⟨_, rfl, hframe (shapeOf_takeClaim sender round priority entries)⟩
  | objectReceived sender claimant round ref => exact ⟨_, rfl, hframe fun u => by split <;> simp⟩
  | releaseReceived sender round refs => exact ⟨_, rfl, hframe (shapeOf_takeRelease sender round refs)⟩
  | pickedReceived sender round ref coil => exact ⟨_, rfl, hframe (shapeOf_takePicked sender round ref coil)⟩
  | placedReceived sender round ref coil weight width => exact ⟨_, rfl, hframe (shapeOf_takePlaced sender round ref _)⟩
  | truckArriveReceived sender bay truckRef o x offsets =>
    exact ⟨_, rfl, hframe (shapeOf_takeArrive sender bay truckRef o _ _)⟩
  | truckCloseReceived sender bay truckRef => exact ⟨_, rfl, hframe (shapeOf_takeClose bay truckRef)⟩
  | truckDepartReceived sender bay truckRef => exact ⟨_, rfl, hframe (shapeOf_takeDepart bay truckRef)⟩
  | beatExpiry => exact ⟨_, rfl, hevent shapeOf_beatExpiry⟩
  | deferredStatusCompose => exact ⟨_, rfl, hevent shapeOf_composeDeferred⟩
  | farewellCompose => exact ⟨_, rfl, hevent fun u => by split <;> simp⟩
  | releaseRequestRetry => exact ⟨_, rfl, hevent fun u => by split <;> simp⟩
  | bookingResumed => exact ⟨_, rfl, hevent shapeOf_resumeBooking⟩
  | claimWindowExpiry => exact ⟨_, rfl, hevent shapeOf_expireWindow⟩
  | peerReservationHeld ref => exact ⟨_, rfl, hevent (shapeOf_holdPeer ref)⟩
  | entryStale id => exact ⟨_, rfl, hevent (shapeOf_becomeStale id)⟩
  | neighbourLost id => exact ⟨_, rfl, hevent (shapeOf_becomeLost id)⟩
  | untrackedClear => exact ⟨_, rfl, hevent fun u => by split <;> rfl⟩
  | chipSelectRise bytes partialByte =>
    refine ⟨_, rfl, hs.of_shapeOf ?_⟩
    split
    · rfl
    · exact shapeOf_chipSelectRise ..
  | readReply clocks => exact ⟨_, rfl, hs.of_shapeOf (by split <;> rfl)⟩
  | cfgWrite _ _ | cfgWriteStationId _ | cfgWriteBeat _ | cfgWriteGeometry _ | cfgWriteWeighing _ _ | cfgWriteBay _ _ _ _ =>
    exact ⟨_, rfl, shaped_request hs (shaped_cfgWriteBody hs _ _)⟩
  | zoneWrite index zone => exact ⟨_, rfl, hrequest (shapeOf_zoneWrite index zone)⟩
  | zoneEnable change on => exact ⟨_, rfl, hrequest fun u => rfl⟩
  | join => exact ⟨_, rfl, hrequest shapeOf_joinBody⟩
  | leave => exact ⟨_, rfl, hrequest shapeOf_leaveBody⟩
  | restart => exact ⟨_, rfl, shaped_request hs (shaped_restartBody hs)⟩
  | posReference axis position => exact ⟨_, rfl, hrequest (shapeOf_posReference axis position)⟩
  | zeroSet => exact ⟨_, rfl, hrequest shapeOf_zeroSet⟩
  | mapWrite ref state coil weight width => exact ⟨_, rfl, hrequest (shapeOf_mapWrite ref state coil weight width)⟩
  | taskStart id kind source target coil priority =>
    exact ⟨_, rfl, hrequest (shapeOf_taskStart id kind source target coil priority)⟩
  | taskConfirm => exact ⟨_, rfl, hrequest shapeOf_taskConfirm⟩
  | taskCancel => exact ⟨_, rfl, hrequest shapeOf_taskCancel⟩
  | taskRetarget target => exact ⟨_, rfl, hrequest (shapeOf_taskRetarget target)⟩
  | truckArrive bay truckRef orientation x offsets =>
    exact ⟨_, rfl, hrequest (shapeOf_truckArrive bay truckRef orientation x offsets)⟩
  | truckClose bay => exact ⟨_, rfl, hrequest (shapeOf_truckClose bay)⟩
  | truckDepart bay => exact ⟨_, rfl, hrequest (shapeOf_truckDepart bay)⟩
  | neighbourDrop id => exact ⟨_, rfl, shaped_request hs (shaped_neighbourDrop hs id)⟩
  | noticeRead | noticeClear _ | noticeEnable _ _ _ => exact ⟨_, rfl, hs.of_shapeOf (shapeOf_noticeRequest ..)⟩
  | unknownRequest | cfgRead _ | stateRead | mapRead _ | mapFind _ | taskRead | truckRead _ | neighbourRead _ =>
    exact ⟨_, rfl, hs.of_shapeOf (shapeOf_readRequest ..)⟩

/-- Settles O10: the idle step leaves the shape, and a command keeps both laws. -/
theorem stepKeepsTableAndMap : Obligations.StepKeepsTableAndMap := by
  intro s t htable hmap hstep
  have hs : Shaped s := ⟨htable, hmap⟩
  unfold step at hstep
  split at hstep
  · obtain rfl := Host.Outcome.next.inj hstep
    exact hs.of_shapeOf (shapeOf_idle s)
  next c rest _ =>
    obtain ⟨t', ht', hshaped⟩ := shaped_exec c (hs.of_shapeOf (shapeOf_withPending rest s))
    obtain rfl := Host.Outcome.next.inj (ht'.symm.trans hstep)
    exact hshaped

end Sys2Proof.Machine
end

section
/-! PROOFS. The requests that only read (sections 10.2 and 10.6): what each answers, and the 54 bytes of STATE_READ. -/

namespace Sys2Proof.Machine

/-! ### The length of a field and of the parts of STATE_READ -/

@[simp] theorem be_length (n v : Nat) : (be n v).length = n := by
  induction n generalizing v with
  | zero => rfl
  | succ n ih => simp [be, ih]

@[simp] theorem beInt_length (n : Nat) (v : Int) : (beInt n v).length = n := be_length ..

@[simp] theorem flagByte_length (b : Bool) : (flagByte b).length = 1 := be_length ..

@[simp] theorem optInt_length (n : Nat) (v : Option Int) : (optInt n v).length = n + 1 := by
  cases v <;> simp [optInt, Nat.add_comm]

theorem layoutLink_length (l : Link) : (layoutLink l).length = 4 := by simp [layoutLink]

theorem layoutAxis_length (n : Nat) (u : AxisUnit) : (layoutAxis n u).length = n + 8 := by simp [layoutAxis]

theorem layoutWeigh_length (tare : Nat) (w : WeighingUnit) : (layoutWeigh tare w).length = 19 := by simp [layoutWeigh]

theorem layoutLevels_length (l : Levels) : (layoutLevels l).length = 6 := by simp [layoutLevels]

theorem layoutState_length (s : State) : (layoutState s).length = 54 := by
  simp [layoutState, layoutLink_length, layoutAxis_length, layoutWeigh_length, layoutLevels_length]

/-! ### The replies -/

/-- A reading request answers with its picture of the records and does nothing else (R214). -/
theorem answers_of_read {c : Instr} {f : State → Reply} {s : State} (hrun : Running s)
    (h : exec c s = .next (readRequest f s)) : Answers c (f s) s := by
  rw [Answers, h, readRequest_of_running f hrun]

theorem truckReply_eq (bay : Nat) (s : State) :
    truckReply bay s = if bay ≤ 1 then .okWith (layoutTruck (bayRecord s bay)) else .err .badArg := by
  by_cases h : bay ≤ 1 <;> simp [truckReply, bayOk, h]

/-- R115: the first slot that holds the coil, else the first cradle, else the hook. -/
theorem findReply_eq (coil : CoilId) (s : State) : findReply coil s =
    match slotsHolding coil s, (cradleHolding coil 0 s).or (cradleHolding coil 1 s) with
    | p :: _, _ => .okWith (layoutPlace 1 (some (.slot p.1 p.2)) (contentAt s p.1 p.2).code)
    | [], some ref => .okWith (layoutPlace 2 (some ref) 0)
    | [], none => .okWith (layoutPlace (if onHook coil s then 3 else 0) none 0) := by
  unfold findReply
  cases slotsHolding coil s with
  | cons p ps => rfl
  | nil =>
    cases (cradleHolding coil 0 s).or (cradleHolding coil 1 s) with
    | some ref => rfl
    | none => cases onHook coil s <;> rfl

/-- R205: CFG_READ by the item it names: of the zone table, of the items 1 to 43, or none. -/
theorem cfgReply_eq (item : Nat) (s : State) : cfgReply item s =
    if s.link.state ≠ .config then .err .badState
    else if 64 ≤ item ∧ item ≤ 79 then
      (match s.perm.zones[item - 64]? with
        | none => .err .badArg
        | some z => .okWith (be 1 1 ++ layoutZone z.entry))
    else if 1 ≤ item ∧ item ≤ 43 then
      (match storedValues item s.cfg with
        | none => .okWith (be 1 0 ++ be (unsetBytes item) 0)
        | some bytes => .okWith (be 1 1 ++ bytes))
    else .err .badArg := by
  simp only [cfgReply, isZoneItem, itemListed, Bool.and_eq_true, decide_eq_true_eq]
  cases storedValues item s.cfg <;> rfl

/-- Settles O44: each reading request by its reply. -/
theorem readingRequestsOnlyAnswer : Obligations.ReadingRequestsOnlyAnswer := by
  intro s hrun
  have hread {c : Instr} (f : State → Reply) (h : exec c s = .next (readRequest f s)) : Answers c (f s) s :=
    answers_of_read hrun h
  refine ⟨hread (fun s => .okWith (layoutState s)) rfl, layoutState_length s, hread (fun s => .okWith (layoutTask s)) rfl,
    hread (fun _ => .err .badArg) rfl, fun bay => ?_, fun id => hread (neighbourReply id) rfl,
    fun row column => hread (mapReply (.slot row column)) rfl, fun bay index => hread (mapReply (.cradle bay index)) rfl,
    fun coil => ?_, fun item => ?_⟩
  · rw [← truckReply_eq]
    exact hread (truckReply bay) rfl
  · have h : Answers (.mapFind coil) (findReply coil s) s := hread (findReply coil) rfl
    rw [findReply_eq] at h
    exact h
  · have h : Answers (.cfgRead item) (cfgReply item s) s := hread (cfgReply item) rfl
    rw [cfgReply_eq] at h
    exact h

end Sys2Proof.Machine
end

section
/-! PROOFS. A STATUS handed on (R61 to R63, R68): an entry refreshed or made, an untracked report, what each leaves of
the table, of the reservations of the peer and of the notices, and the claim about it. -/

namespace Sys2Proof.Machine

/-! ### What touches the table and what does not -/

theorem keeps_mapEntries (f : List Entry → List Entry) (s : State) : Keeps [.table] s (mapEntries f s) := keeps_withTable ..

theorem keeps_evalEntryOf (id : Nat) (s : State) : Keeps [.table] s (evalEntryOf id s) := keeps_withTable ..

theorem keeps_releasePeer (id : Nat) (s : State) : Keeps [.map, .trucks] s (releasePeer id s) :=
  ⟨rfl, fun b hb => by cases b <;> simp_all [SameBlock]⟩

theorem releasePeer_allReleased (id : Nat) (s : State) : AllReleased (heldBy id) .own s (releasePeer id s) :=
  releaseWhere_allReleased ..

theorem allReleased_settle {p : Reservation → Bool} {source : ChangeSource} {s t : State} (h : AllReleased p source s t) :
    AllReleased p source s (settle t) := by
  simpa only [AllReleased, settle_map, settle_bay0, settle_bay1] using h

/-- The entry of one station is evaluated as the settled state evaluates it (R81). -/
theorem settle_evalEntryOf_table (id : Nat) (s : State) : let t := settle (evalEntryOf id s)
    t.table = { s.table with entries := s.table.entries.map fun e => if e.id = id then evalEntry t e else e } := by
  dsimp only
  rw [evalEntry_congr (s := s) (by simp) (by simp), settle_table]
  rfl

/-- The entry of one station changed and evaluated. -/
theorem settle_evalEntryOf_changed {id : Nat} {g : Entry → Entry} (hg : ∀ e, (g e).id = e.id) {s u : State}
    (htable : u.table = (changeEntry id g s).table) : let t := settle (evalEntryOf id u)
    t.table = { s.table with entries := s.table.entries.map fun e => if e.id = id then evalEntry t (g e) else e } := by
  dsimp only
  rw [settle_evalEntryOf_table, htable]
  simp only [changeEntry, mapEntries, State.withTable_table, List.map_map]
  congr 1
  refine List.map_congr_left fun e _ => ?_
  by_cases he : e.id = id <;> simp [he, hg]

/-- An entry made where the station had none, and evaluated; the other entries stand. -/
theorem settle_evalEntryOf_made {id : Nat} {e : Entry} (he : e.id = id) {s u : State} (hnone : entryOf s id = none)
    (htable : u.table = { s.table with entries := insertEntry e s.table.entries }) : let t := settle (evalEntryOf id u)
    t.table.entries.Perm (evalEntry t e :: s.table.entries) ∧ t.table.untracked = s.table.untracked ∧
      t.table.untrackedAge = s.table.untrackedAge := by
  dsimp only
  rw [settle_evalEntryOf_table, htable]
  generalize settle (evalEntryOf id u) = t
  have hothers : s.table.entries.map (fun x => if x.id = id then evalEntry t x else x) = s.table.entries :=
    (List.map_congr_left fun x hx => if_neg (ne_id_of_entryOf_none hnone x hx)).trans (List.map_id _)
  refine ⟨((insertEntry_perm ..).map _).trans ?_, rfl, rfl⟩
  rw [List.map_cons, hothers, if_pos he]

/-! ### Frames handed on (R42, R52, R53) -/

/-- A frame handed on reaches its owner, with no reception under way. -/
theorem receiveFrame_of_delivered {c : Instr} {sender : Nat} {wellFormed shared : Bool} {s : State} (h : Delivered c s)
    (hparts : frameParts c = some (sender, wellFormed, shared)) (owner : State → State) :
    receiveFrame sender wellFormed shared owner s = owner (endReception s) := by
  obtain ⟨p, hp, hstate, hsender, hformed, hown, hclean⟩ := h
  obtain rfl := Option.some.inj (hparts.symm.trans hp)
  dsimp only at hsender hformed hown hclean
  have hid : ownId (endReception s) = ownId s := rfl
  have hforeign : senderForeign (endReception s) sender = senderForeign s sender := rfl
  have hkept : (shared && senderForeign s sender) = false := by cases shared <;> simp_all
  simp [receiveFrame, hstate, hsender, hformed, hid, hown, hforeign, hkept]

theorem keeps_endReception (s : State) : Keeps [.link] s (endReception s) := keeps_updateLink ..

/-- What an owner does to the state of a frame handed on, it does from before the frame but for the link. -/
theorem acts_of_delivered {touched : List Block} {must : List Notice} {s t : State}
    (hkeeps : Keeps touched (endReception s) t) (hnotices : Notices must [] (endReception s) t)
    (hlink : .link ∉ touched := by simp) :
    (settle t).link = received s ∧ Acts (.link :: touched) must [] s (settle t) := by
  have hlink' : t.link = received s := hkeeps.2 .link hlink
  exact ⟨by rw [settle_link, hlink'], acts_settle
    ((keeps_endReception s).andThen hkeeps (hc := fun _ hb => .tail _ hb)) (notices_of_eq_trans rfl hnotices)⟩

/-! ### STATUS (R61 to R63, R68) -/

/-- R61, R63: a refresh of an entry; a flag newly set is noticed and releases what the peer holds. -/
theorem refreshEntry_spec (id : Nat) (r : StatusReport) (before : Entry) (s : State) : let t := refreshEntry id r before s
    if isForeign s r.signature && !before.foreign then
      AllReleased (heldBy id) .own s t ∧ Keeps [.table, .map, .trucks] s t ∧ Notices [.geometryMismatch] [] s t
    else Keeps [.table] s t ∧ Notices [] [] s t := by
  let u := changeEntry id (Entry.refresh r.report (isForeign s r.signature)) s
  have hchanged : Keeps [.table] s u := keeps_mapEntries ..
  dsimp only
  split
  next hnew =>
    have h : refreshEntry id r before s = evalEntryOf id (becomeForeign id u) := by
      unfold refreshEntry
      dsimp only
      rw [if_pos hnew]
      rfl
    have hkeeps : Keeps [.table, .map, .trucks] s (becomeForeign id u) :=
      hchanged.andThen ((keeps_raise _ u).andThen (ds := [.map, .trucks]) (keeps_releasePeer ..))
    rw [h]
    exact ⟨releasePeer_allReleased id (raise .geometryMismatch u), hkeeps.andThen (keeps_evalEntryOf ..),
      notices_raise .geometryMismatch u⟩
  next hold =>
    have h : refreshEntry id r before s = evalEntryOf id u := by
      unfold refreshEntry
      dsimp only
      rw [if_neg hold]
      rfl
    rw [h]
    exact ⟨hchanged.andThen (keeps_evalEntryOf ..), notices_refl ..⟩

theorem refreshEntry_table (id : Nat) (r : StatusReport) (before : Entry) (s : State) :
    let t := settle (refreshEntry id r before s)
    t.table = { s.table with
      entries := s.table.entries.map fun e =>
        if e.id = id then evalEntry t (e.refresh r.report (isForeign s r.signature)) else e } :=
  settle_evalEntryOf_changed (g := Entry.refresh r.report (isForeign s r.signature)) (fun _ => rfl) (by split <;> rfl)

theorem createEntry_eq (id : Nat) (r : StatusReport) (s : State) : createEntry id r s = evalEntryOf id
    (raiseIf (isForeign s r.signature) .geometryMismatch
      (mapEntries (insertEntry (newEntry id r.report (isForeign s r.signature))) s)) := rfl

/-- R62, R63: an entry made; a foreign one is noticed. -/
theorem createEntry_spec (id : Nat) (r : StatusReport) (s : State) : let t := createEntry id r s
    Keeps [.table] s t ∧ Notices (if isForeign s r.signature then [.geometryMismatch] else []) [] s t := by
  rw [createEntry_eq]
  exact ⟨((keeps_mapEntries _ s).andThen (ds := [.table]) (keeps_raiseIf ..)).andThen (keeps_evalEntryOf ..), notices_raiseIf ..⟩

/-- R62, R81: beside the entry made, which alone is evaluated, the table stands. -/
theorem createEntry_table {id : Nat} (r : StatusReport) {s : State} (hnone : entryOf s id = none) :
    let t := settle (createEntry id r s)
    t.table.entries.Perm (evalEntry t (newEntry id r.report (isForeign s r.signature)) :: s.table.entries) ∧
      t.table.untracked = s.table.untracked ∧ t.table.untrackedAge = s.table.untrackedAge := by
  exact settle_evalEntryOf_made (e := newEntry id r.report (isForeign s r.signature)) rfl hnone
    ((keeps_raiseIf ..).2 .table (by simp))

/-- R68: an untracked report; its notice is raised where UNTRACKED was clear. -/
theorem untrackedReport_spec (s : State) : let t := untrackedReport s
    t.table = { s.table with untracked := true, untrackedAge := 0 } ∧ Keeps [.table] s t ∧
      Notices (if s.table.untracked then [] else [.untracked]) [] s t := by
  have hkeeps := keeps_withTable { s.table with untracked := true, untrackedAge := 0 } s
  unfold untrackedReport
  dsimp only
  split
  next h => exact ⟨rfl, hkeeps, notices_of_eq rfl⟩
  next h => exact ⟨rfl, hkeeps.andThen (keeps_raise ..), notices_raise ..⟩

theorem exec_statusReceived_of_delivered {sender : Nat} {r : StatusReport} {s : State} (hrun : Running s)
    (h : Delivered (.statusReceived sender r) s) :
    exec (.statusReceived sender r) s = .next (settle (takeStatus sender r (endReception s))) := by
  rw [exec, execStatusReceived, event_of_running _ hrun, receiveFrame_of_delivered h rfl]

/-- Settles O32: by whether the sender has an entry, and whether there is room for one. -/
theorem statusReceivedFeedsTheTable : Obligations.StatusReceivedFeedsTheTable := by
  intro sender r s hrun hdelivered
  dsimp only
  refine ⟨_, exec_statusReceived_of_delivered hrun hdelivered, ?_⟩
  have hentry : entryOf (endReception s) sender = entryOf s sender := rfl
  cases hbefore : entryOf s sender with
  | some before =>
    have htaken : takeStatus sender r (endReception s) = refreshEntry sender r before (endReception s) := by
      simp [takeStatus, hentry, hbefore]
    rw [htaken]
    have hspec := refreshEntry_spec sender r before (endReception s)
    have htable := refreshEntry_table sender r before (endReception s)
    have hforeign : isForeign (endReception s) r.signature = decide (r.signature ≠ s.link.signature) := rfl
    rw [hforeign] at hspec htable
    dsimp only at hspec ⊢
    split at hspec
    next hnew =>
      obtain ⟨hreleased, hkeeps, hnotices⟩ := hspec
      obtain ⟨hlink, hacts⟩ := acts_of_delivered hkeeps hnotices
      refine ⟨hlink, htable, ?_⟩
      rw [if_pos hnew]
      exact ⟨allReleased_settle hreleased, hacts⟩
    next hold =>
      obtain ⟨hkeeps, hnotices⟩ := hspec
      obtain ⟨hlink, hacts⟩ := acts_of_delivered hkeeps hnotices
      refine ⟨hlink, htable, ?_⟩
      rw [if_neg hold]
      exact hacts
  | none =>
    dsimp only
    by_cases hroom : s.table.entries.length < 12
    · have htaken : takeStatus sender r (endReception s) = createEntry sender r (endReception s) := by
        simp only [takeStatus, hentry, hbefore]
        exact if_pos hroom
      obtain ⟨hkeeps, hnotices⟩ := createEntry_spec sender r (endReception s)
      obtain ⟨hlink, hacts⟩ := acts_of_delivered hkeeps hnotices
      obtain ⟨hentries, huntracked, hage⟩ := createEntry_table r (hentry.trans hbefore)
      rw [htaken, if_pos hroom]
      exact ⟨hlink, hentries, huntracked, hage, hacts⟩
    · have htaken : takeStatus sender r (endReception s) = untrackedReport (endReception s) := by
        simp only [takeStatus, hentry, hbefore]
        exact if_neg hroom
      obtain ⟨htable, hkeeps, hnotices⟩ := untrackedReport_spec (endReception s)
      obtain ⟨hlink, hacts⟩ := acts_of_delivered hkeeps hnotices
      rw [htaken, if_neg hroom, settle_table]
      exact ⟨hlink, htable, hacts⟩

end Sys2Proof.Machine
end

section
/-! PROOFS. Entries of the neighbour table that age and leave (R64 to R67, R69): what each leaves of the table, of
the reservations of the peer and of the notices, and the claim about the five commands. -/

namespace Sys2Proof.Machine

section
variable {id : Nat} {s : State} {e : Entry}

/-! ### Removal (R66, R67) -/

theorem exec_farewellReceived_of_delivered {sender : Nat} {r : StatusReport} (hrun : Running s)
    (h : Delivered (.farewellReceived sender r) s) :
    exec (.farewellReceived sender r) s = .next (settle (takeFarewell sender (endReception s))) := by
  rw [exec, execFarewellReceived, event_of_running _ hrun, receiveFrame_of_delivered h rfl]

theorem takeFarewell_of_none (h : entryOf s id = none) : takeFarewell id s = s := by simp [takeFarewell, h]

theorem takeFarewell_of_some (h : entryOf s id = some e) : takeFarewell id s = removeEntry id (releasePeer id s) := by
  simp [takeFarewell, h]

/-- R66: a farewell handed on. -/
theorem farewellReceived_spec {sender : Nat} {r : StatusReport} (hrun : Running s)
    (h : Delivered (.farewellReceived sender r) s) : ∃ t, exec (.farewellReceived sender r) s = .next t ∧ t.link = received s ∧
      match entryOf s sender with
      | none => t.table = s.table ∧ Acts [.link] [] [] s t
      | some _ =>
        t.table = { s.table with entries := s.table.entries.filter fun e => e.id != sender } ∧
        AllReleased (heldBy sender) .own s t ∧ Acts [.link, .table, .map, .trucks] [] [] s t := by
  refine ⟨_, exec_farewellReceived_of_delivered hrun h, ?_⟩
  have hentry : entryOf (endReception s) sender = entryOf s sender := rfl
  cases he : entryOf s sender with
  | none =>
    rw [takeFarewell_of_none (hentry.trans he)]
    obtain ⟨hlink, hacts⟩ := acts_of_delivered (touched := []) (keeps_refl _ (endReception s)) (notices_refl [] (endReception s))
    exact ⟨hlink, settle_table _, hacts⟩
  | some e =>
    rw [takeFarewell_of_some (hentry.trans he)]
    have hkeeps : Keeps [.table, .map, .trucks] (endReception s) (removeEntry sender (releasePeer sender (endReception s))) :=
      (keeps_releasePeer sender _).andThen (keeps_mapEntries ..)
    obtain ⟨hlink, hacts⟩ := acts_of_delivered hkeeps (notices_of_eq rfl)
    exact ⟨hlink, settle_table _, allReleased_settle (releasePeer_allReleased sender (endReception s)), hacts⟩

theorem exec_neighbourDrop_of_refused {r : Status} (hrun : Running s) (h : neighbourDrop id s = (s, .err r)) (hr : r ≠ .ok) :
    Answers (.neighbourDrop id) (.err r) s := by
  rw [Answers, exec, execNeighbourDrop, request_of_answer hrun h hr]

/-- R67: NEIGHBOUR_DROP by the identifier and the state of its entry. -/
theorem neighbourDrop_spec (hrun : Running s) :
    if id = 0 ∨ 30 < id then Answers (.neighbourDrop id) (.err .badArg) s
    else
      match entryOf s id with
      | none => Answers (.neighbourDrop id) (.err .notLost) s
      | some e =>
        if e.state = .lost then
          ∃ t, exec (.neighbourDrop id) s = .next t ∧
            t.table = { s.table with entries := s.table.entries.filter fun e => e.id != id } ∧
            Accepts [.table] [] [] [] s t
        else Answers (.neighbourDrop id) (.err .notLost) s := by
  have hid : senderOk id = false ↔ id = 0 ∨ 30 < id := by
    simp only [senderOk, Bool.and_eq_false_iff, decide_eq_false_iff_not]
    omega
  split
  next h => exact exec_neighbourDrop_of_refused hrun (by simp [neighbourDrop, hid.2 h]) nofun
  next h =>
    have hgood : ¬ senderOk id = false := fun hbad => h (hid.1 hbad)
    cases he : entryOf s id with
    | none => exact exec_neighbourDrop_of_refused hrun (by simp [neighbourDrop, hgood, he]) nofun
    | some e =>
      dsimp only
      split
      next hlost =>
        have hbody : neighbourDrop id s = (removeEntry id s, .okWith []) := by simp [neighbourDrop, hgood, he, hlost]
        refine ⟨respond (.okWith []) (settle (removeEntry id s)), ?_, ?_,
          accepts_settle (keeps_mapEntries ..) (notices_of_eq rfl) rfl⟩
        · rw [exec, execNeighbourDrop, request_of_acceptance hrun hbody]
        · rw [respond_table, settle_table]
          rfl
      next hlost => exact exec_neighbourDrop_of_refused hrun (by simp [neighbourDrop, hgood, he, hlost]) nofun

/-! ### Aging (R64, R65, R69) -/

theorem becomeStale_of_due (he : entryOf s id = some e) (h : staleDue s e = true) :
    becomeStale id s = evalEntryOf id (setEntryState id .stale s) := by simp [becomeStale, he, h]

theorem becomeStale_of_not_due (h : ∀ e, entryOf s id = some e → staleDue s e = false) : becomeStale id s = s := by
  unfold becomeStale
  split
  · rfl
  next e he => simp [h e he]

theorem becomeLost_of_due (he : entryOf s id = some e) (h : lostDue s e = true) :
    becomeLost id s = evalEntryOf id (releasePeer id (raise .neighbourLost (setEntryState id .lost s))) := by
  simp [becomeLost, he, h]

theorem becomeLost_of_not_due (h : ∀ e, entryOf s id = some e → lostDue s e = false) : becomeLost id s = s := by
  unfold becomeLost
  split
  · rfl
  next e he => simp [h e he]

/-- A row that is not due settles and changes nothing by choice (assumption 35). -/
theorem table_acts_settle (s : State) : (settle s).table = s.table ∧ Acts [] [] [] s (settle s) :=
  ⟨settle_table s, acts_settle_self [] [] s⟩

/-- R64: ENTRY_STALE by the age of the entry. -/
theorem entryStale_spec (hrun : Running s) : ∃ t, exec (.entryStale id) s = .next t ∧
    match entryOf s id with
    | none => t.table = s.table ∧ Acts [] [] [] s t
    | some e =>
      if e.state = .fresh ∧ 3 * s.cfg.beat < e.age ∧ e.age ≤ 10 * s.cfg.beat then
        t.table = { s.table with
          entries := s.table.entries.map fun e => if e.id = id then evalEntry t { e with state := .stale } else e } ∧
        Acts [.table] [] [] s t
      else t.table = s.table ∧ Acts [] [] [] s t := by
  refine ⟨settle (becomeStale id s), by rw [exec, execEntryStale, event_of_running _ hrun], ?_⟩
  cases he : entryOf s id with
  | none =>
    rw [becomeStale_of_not_due (by simp [he])]
    exact table_acts_settle s
  | some e =>
    simp only [← staleDue_iff]
    split
    next hdue =>
      rw [becomeStale_of_due he hdue]
      exact ⟨settle_evalEntryOf_changed (g := fun e => { e with state := .stale }) (fun _ => rfl) rfl,
        acts_settle ((keeps_mapEntries _ s).andThen (keeps_evalEntryOf ..)) (notices_of_eq rfl)⟩
    next hdue =>
      rw [becomeStale_of_not_due (by simpa [he] using hdue)]
      exact table_acts_settle s

/-- R65: NEIGHBOUR_LOST by the age of the entry. -/
theorem neighbourLost_spec (hrun : Running s) : ∃ t, exec (.neighbourLost id) s = .next t ∧
    match entryOf s id with
    | none => t.table = s.table ∧ Acts [] [] [] s t
    | some e =>
      if e.state ≠ .lost ∧ 10 * s.cfg.beat < e.age then
        t.table = { s.table with
          entries := s.table.entries.map fun e => if e.id = id then evalEntry t { e with state := .lost } else e } ∧
        AllReleased (heldBy id) .own s t ∧ Acts [.table, .map, .trucks] [.neighbourLost] [] s t
      else t.table = s.table ∧ Acts [] [] [] s t := by
  refine ⟨settle (becomeLost id s), by rw [exec, execNeighbourLost, event_of_running _ hrun], ?_⟩
  cases he : entryOf s id with
  | none =>
    rw [becomeLost_of_not_due (by simp [he])]
    exact table_acts_settle s
  | some e =>
    simp only [← lostDue_iff]
    split
    next hdue =>
      rw [becomeLost_of_due he hdue]
      have hchanged : Keeps [.table] s (setEntryState id .lost s) := keeps_mapEntries ..
      have hreleased : Keeps [.map, .trucks] (setEntryState id .lost s)
          (releasePeer id (raise .neighbourLost (setEntryState id .lost s))) := (keeps_raise ..).andThen (keeps_releasePeer ..)
      refine ⟨settle_evalEntryOf_changed (g := fun e => { e with state := .lost }) (fun _ => rfl) rfl, ?_, ?_⟩
      · exact allReleased_settle (releasePeer_allReleased id (raise .neighbourLost (setEntryState id .lost s)))
      · exact acts_settle ((hchanged.andThen (ds := [.table, .map, .trucks]) hreleased).andThen (keeps_evalEntryOf ..))
          (notices_raise .neighbourLost (setEntryState id .lost s))
    next hdue =>
      rw [becomeLost_of_not_due (by simpa [he] using hdue)]
      exact table_acts_settle s

/-- R69: UNTRACKED_CLEAR by the age of the last untracked report. -/
theorem untrackedClear_spec (hrun : Running s) : ∃ t, exec .untrackedClear s = .next t ∧ t.table.entries = s.table.entries ∧
    t.table.untrackedAge = s.table.untrackedAge ∧
    t.table.untracked = (s.table.untracked && !decide (10 * s.cfg.beat < s.table.untrackedAge)) ∧
    Acts [.table] [] [] s t := by
  have hdue : untrackedDue s = (s.table.untracked && decide (10 * s.cfg.beat < s.table.untrackedAge)) := rfl
  refine ⟨_, by rw [exec, execUntrackedClear, event_of_running _ hrun], ?_⟩
  rw [hdue, settle_table]
  split
  next h =>
    refine ⟨rfl, rfl, ?_, acts_settle (keeps_withTable ..) (notices_of_eq rfl)⟩
    simp_all
  next h =>
    refine ⟨rfl, rfl, ?_, acts_settle_self ..⟩
    cases hu : s.table.untracked <;> simp_all

end

/-- Settles O33, by the five commands. -/
theorem entriesAgeAndLeave : Obligations.EntriesAgeAndLeave :=
  ⟨fun _ _ _ => farewellReceived_spec, fun _ _ => neighbourDrop_spec, fun _ _ => entryStale_spec, fun _ _ => neighbourLost_spec,
    fun _ => untrackedClear_spec⟩

end Sys2Proof.Machine
end

section
/-! PROOFS. What the end of a step writes (R74, R75, R84 to R94, R191): the zones, the end limits, the outputs with their lines and the
truck check, and that what is done to slots, cradles, rounds and bookings leaves them. -/

namespace Sys2Proof.Machine

/-! ### The standing of the permission unit -/

/-- What the end of a step alone may write, beside ZONE_WRITE and the two reset rows: the zones with their held levels, the end limits,
the outputs and their lines, and the truck check. The source enables decide what a notice of an evaluation sets (R209). -/
structure Standing where
  zones : List Zone
  limits : Levels
  outputs : Levels
  lineTrace : List LineChange
  checkStop : Bool
  sourceEnable : BitVec 32

/-- The standing of a state. -/
def standingOf (s : State) : Standing where
  zones := s.perm.zones
  limits := s.perm.limits
  outputs := s.perm.outputs
  lineTrace := s.perm.lineTrace
  checkStop := s.trucks.checkStop
  sourceEnable := s.notices.sourceEnable

theorem standingOf_eq {s t : State} (hperm : t.perm = s.perm) (htrucks : t.trucks = s.trucks) (hnotices : t.notices = s.notices) :
    standingOf t = standingOf s := by
  simp only [standingOf, hperm, htrucks, hnotices]

theorem standingOf_foldl {α : Type} {f : State → α → State} (hf : ∀ s a, standingOf (f s a) = standingOf s) (as : List α)
    (s : State) : standingOf (as.foldl f s) = standingOf s := by
  induction as generalizing s with
  | nil => rfl
  | cons a as ih => rw [List.foldl_cons, ih, hf]

/-! ### The updates of the state -/

@[simp] theorem standingOf_withClock (x : Clock) (s : State) : standingOf (s.withClock x) = standingOf s := rfl
@[simp] theorem standingOf_withCfg (x : Cfg) (s : State) : standingOf (s.withCfg x) = standingOf s := rfl
@[simp] theorem standingOf_withPos (x : PositionUnit) (s : State) : standingOf (s.withPos x) = standingOf s := rfl
@[simp] theorem standingOf_withWeigh (x : WeighingUnit) (s : State) : standingOf (s.withWeigh x) = standingOf s := rfl
@[simp] theorem standingOf_withLink (x : Link) (s : State) : standingOf (s.withLink x) = standingOf s := rfl
@[simp] theorem standingOf_withTable (x : NeighbourTable) (s : State) : standingOf (s.withTable x) = standingOf s := rfl
@[simp] theorem standingOf_withMap (x : List SlotRecord) (s : State) : standingOf (s.withMap x) = standingOf s := rfl
@[simp] theorem standingOf_withClaims (x : ClaimEngine) (s : State) : standingOf (s.withClaims x) = standingOf s := rfl
@[simp] theorem standingOf_withTracker (x : Tracker) (s : State) : standingOf (s.withTracker x) = standingOf s := rfl
@[simp] theorem standingOf_withPort (x : Port) (s : State) : standingOf (s.withPort x) = standingOf s := rfl
@[simp] theorem standingOf_withPending (x : List Instr) (s : State) : standingOf (s.withPending x) = standingOf s := rfl

@[simp] theorem standingOf_raise (n : Notice) (s : State) : standingOf (raise n s) = standingOf s := rfl
@[simp] theorem standingOf_driveAttn (s : State) : standingOf (driveAttn s) = standingOf s := rfl
@[simp] theorem standingOf_respond (r : Reply) (s : State) : standingOf (respond r s) = standingOf s := rfl
@[simp] theorem standingOf_setBoxes (b : Mailboxes) (s : State) : standingOf (setBoxes b s) = standingOf s := rfl
@[simp] theorem standingOf_updateLink (f : Link → Link) (s : State) : standingOf (updateLink f s) = standingOf s := rfl
@[simp] theorem standingOf_updateTask (f : Task → Task) (s : State) : standingOf (updateTask f s) = standingOf s := rfl
@[simp] theorem standingOf_setHook (h : Option Hook) (s : State) : standingOf (setHook h s) = standingOf s := rfl
@[simp] theorem standingOf_queueBook (f : BookFrame) (s : State) : standingOf (queueBook f s) = standingOf s := rfl
@[simp] theorem standingOf_queueTruck (f : TruckFrame) (s : State) : standingOf (queueTruck f s) = standingOf s := rfl
@[simp] theorem standingOf_evalEntries (s : State) : standingOf (evalEntries s) = standingOf s := rfl
@[simp] theorem standingOf_evalEntryOf (id : Nat) (s : State) : standingOf (evalEntryOf id s) = standingOf s := rfl
@[simp] theorem standingOf_mapEntries (f : List Entry → List Entry) (s : State) : standingOf (mapEntries f s) = standingOf s := rfl

@[simp] theorem standingOf_raiseIf (b : Bool) (n : Notice) (s : State) : standingOf (raiseIf b n s) = standingOf s := by
  cases b <;> rfl
@[simp] theorem standingOf_raiseSuspect (before : PosState) (s : State) : standingOf (raiseSuspect before s) = standingOf s := by
  rw [raiseSuspect_eq]
  split <;> rfl
@[simp] theorem standingOf_askRelease (f : ReleaseFrame) (s : State) : standingOf (askRelease f s) = standingOf s :=
  standingOf_eq (by simp) (by simp) (by simp)
@[simp] theorem standingOf_askReleases (fs : List ReleaseFrame) (s : State) : standingOf (askReleases fs s) = standingOf s :=
  standingOf_foldl (by simp) fs s
@[simp] theorem standingOf_askObject (f : ObjectFrame) (s : State) : standingOf (askObject f s) = standingOf s := by
  unfold askObject
  split_ifs <;> rfl
@[simp] theorem standingOf_withdrawClaim (f : ReleaseFrame) (s : State) : standingOf (withdrawClaim f s) = standingOf s :=
  standingOf_eq (by simp) (by simp) (by simp)
@[simp] theorem standingOf_endAttempt (s : State) : standingOf (endAttempt s) = standingOf s :=
  standingOf_eq (by simp) (by simp) (by simp)
@[simp] theorem standingOf_countReceiveError (s : State) : standingOf (countReceiveError s) = standingOf s := by
  simp [countReceiveError, apply_ite standingOf]

/-! ### The records -/

@[simp] theorem standingOf_setSlot (row column : Nat) (r : SlotRecord) (s : State) :
    standingOf (setSlot row column r s) = standingOf s := standingOf_eq (by simp) (by simp) (by simp)

@[simp] theorem standingOf_setBay (bay : Nat) (b : Option Truck) (s : State) : standingOf (setBay bay b s) = standingOf s := by
  unfold setBay
  split <;> rfl

@[simp] theorem standingOf_setCradle (bay index : Nat) (c : CradleContent) (s : State) :
    standingOf (setCradle bay index c s) = standingOf s := by
  unfold setCradle
  split <;> simp

@[simp] theorem standingOf_releaseWhere (p : Reservation → Bool) (source : ChangeSource) (s : State) :
    standingOf (releaseWhere p source s) = standingOf s := rfl
@[simp] theorem standingOf_releasePeer (id : Nat) (s : State) : standingOf (releasePeer id s) = standingOf s := rfl
@[simp] theorem standingOf_mapReservations (f : Reservation → Reservation) (s : State) :
    standingOf (mapReservations f s) = standingOf s := rfl
@[simp] theorem standingOf_holdRound (n : Nat) (s : State) : standingOf (holdRound n s) = standingOf s := rfl

@[simp] theorem standingOf_releaseRef (p : Reservation → Bool) (source : ChangeSource) (ref : Ref) (s : State) :
    standingOf (releaseRef p source ref s) = standingOf s := by
  unfold releaseRef
  split <;> split <;> simp

@[simp] theorem standingOf_updateResv (f : Reservation → Reservation) (ref : Ref) (s : State) :
    standingOf (updateResv f ref s) = standingOf s := by
  unfold updateResv
  split <;> split <;> simp

@[simp] theorem standingOf_reserveRef (dir : ClaimDir) (v : Reservation) (source : ChangeSource) (ref : Ref) (s : State) :
    standingOf (reserveRef dir v source ref s) = standingOf s := by
  unfold reserveRef
  split
  · split <;> simp
  · split
    · split <;> simp
    · rfl

/-! ### Losses and rounds (R133 to R147) -/

@[simp] theorem standingOf_endReassert (r : Round) (s : State) : standingOf (endReassert r s) = standingOf s := by
  unfold endReassert
  dsimp only
  split <;> simp

@[simp] theorem standingOf_dropFromRound (ref : Ref) (s : State) : standingOf (dropFromRound ref s) = standingOf s := by
  unfold dropFromRound
  split
  · rfl
  · simp [apply_ite standingOf]

@[simp] theorem standingOf_dropReassert (s : State) : standingOf (dropReassert s) = standingOf s := by
  unfold dropReassert
  split
  · rfl
  · simp [apply_ite standingOf]

@[simp] theorem standingOf_releaseAllOwn (extra : List ReleaseFrame) (s : State) :
    standingOf (releaseAllOwn extra s) = standingOf s := by simp [releaseAllOwn]

@[simp] theorem standingOf_releaseOwn (ref : Ref) (s : State) : standingOf (releaseOwn ref s) = standingOf s := by
  unfold releaseOwn
  split <;> simp

@[simp] theorem standingOf_releaseTarget (s : State) : standingOf (releaseTarget s) = standingOf s := by
  unfold releaseTarget
  split
  · rfl
  · split <;> simp

@[simp] theorem standingOf_enterTerminal (st : TaskState) (reason : Option Reason) (notice : Notice) (s : State) :
    standingOf (enterTerminal st reason notice s) = standingOf s := by simp [enterTerminal]
@[simp] theorem standingOf_hookUnknown (s : State) : standingOf (hookUnknown s) = standingOf s := rfl
@[simp] theorem standingOf_endClaimLost (reason : Reason) (k : Task) (s : State) :
    standingOf (endClaimLost reason k s) = standingOf s := by simp [endClaimLost, apply_ite standingOf]

@[simp] theorem standingOf_tellClaimLost (reason : Reason) (s : State) : standingOf (tellClaimLost reason s) = standingOf s := by
  unfold tellClaimLost
  split
  · rfl
  · split <;> simp

@[simp] theorem standingOf_tellTargetLost (s : State) : standingOf (tellTargetLost s) = standingOf s := by
  unfold tellTargetLost
  split
  · rfl
  · split <;> simp

@[simp] theorem standingOf_closeRound (r : Round) (s : State) : standingOf (closeRound r s) = standingOf s := by
  have hreleased (u : State) : standingOf (r.entries.foldl
      (fun u e => releaseRef (Reservation.isOwnUnder r.number) .own e.ref u) u) = standingOf u := standingOf_foldl (by simp) _ u
  unfold closeRound
  dsimp only
  split <;> simp [hreleased]

@[simp] theorem standingOf_loseRound (cause : Reason) (s : State) : standingOf (loseRound cause s) = standingOf s := by
  unfold loseRound
  split
  · rfl
  · split <;> simp

@[simp] theorem standingOf_abandonRound (s : State) : standingOf (abandonRound s) = standingOf s := by
  unfold abandonRound
  split
  · rfl
  · simp [apply_ite standingOf]

@[simp] theorem standingOf_lateObjection (cause : Reason) (ref : Ref) (s : State) :
    standingOf (lateObjection cause ref s) = standingOf s := by
  unfold lateObjection
  split
  · rfl
  · simp [apply_ite standingOf]

@[simp] theorem standingOf_reservationRemoved (n : Nat) (ref : Ref) (s : State) :
    standingOf (reservationRemoved n ref s) = standingOf s := by
  unfold reservationRemoved
  split
  · rfl
  · simp [apply_ite standingOf]

@[simp] theorem standingOf_ownRemoved (ref : Ref) (v : Reservation) (s : State) : standingOf (ownRemoved ref v s) = standingOf s := by
  unfold ownRemoved
  split
  · simp
  · simp [apply_ite standingOf]

@[simp] theorem standingOf_failReassert (r : Round) (s : State) : standingOf (failReassert r s) = standingOf s := by
  unfold failReassert
  simp only [standingOf_holdRound, standingOf_withClaims]
  rw [standingOf_foldl fun s e => by split <;> simp [apply_ite standingOf]]
  split <;> simp

@[simp] theorem standingOf_linkDown (s : State) : standingOf (linkDown s) = standingOf s := by
  unfold linkDown
  split
  · rfl
  · split
    · rfl
    · simp [apply_ite standingOf]

@[simp] theorem standingOf_tellHeld (p : Purpose) (s : State) : standingOf (tellHeld p s) = standingOf s := by cases p <;> rfl

@[simp] theorem standingOf_expireWindow (s : State) : standingOf (expireWindow s) = standingOf s := by
  unfold expireWindow windowExpired
  split
  · rfl
  · simp [apply_ite standingOf]

@[simp] theorem standingOf_queueRound (purpose : Purpose) (priority : Nat) (entries : List ClaimEntry) (s : State) :
    standingOf (queueRound purpose priority entries s) = standingOf s := rfl

@[simp] theorem standingOf_startRound (purpose : Purpose) (priority : Nat) (entries : List ClaimEntry) (s : State) :
    standingOf (startRound purpose priority entries s) = standingOf s := by
  simp only [startRound, standingOf_queueRound]
  exact standingOf_foldl (by simp) ..

@[simp] theorem standingOf_reassert (s : State) : standingOf (reassert s) = standingOf s := by
  simp [reassert, apply_ite standingOf]

/-! ### Slots and cradles that change (R106, R113, R116 to R124, R181, R186 to R189) -/

@[simp] theorem standingOf_makeDisputed (source : ChangeSource) (row column : Nat) (s : State) :
    standingOf (makeDisputed source row column s) = standingOf s := by
  unfold makeDisputed
  split
  · rfl
  · split
    · rfl
    · dsimp only
      split <;> simp [apply_ite standingOf]

@[simp] theorem standingOf_searchCoil (coil : CoilId) (except : Option (Nat × Nat)) (source : ChangeSource) (s : State) :
    standingOf (searchCoil coil except source s) = standingOf s :=
  standingOf_foldl (fun s p => by simp [apply_ite standingOf]) _ s

@[simp] theorem standingOf_checkUpper (row column : Nat) (s : State) : standingOf (checkUpper row column s) = standingOf s := by
  unfold checkUpper
  split
  · simp [apply_ite standingOf]
  · rfl

@[simp] theorem standingOf_checkUndermined (before : State) (named : Ref) (s : State) :
    standingOf (checkUndermined before named s) = standingOf s := standingOf_foldl (by simp) ..

@[simp] theorem standingOf_takeOutSlot (row column : Nat) (v : Reservation) (s : State) :
    standingOf (takeOutSlot row column v s) = standingOf s := by simp [takeOutSlot, apply_ite standingOf]

@[simp] theorem standingOf_putInSlot (row column : Nat) (c : CoilInfo) (s : State) :
    standingOf (putInSlot row column c s) = standingOf s := by
  unfold putInSlot
  split <;> simp

@[simp] theorem standingOf_placeInCradle (bay index : Nat) (coil : CoilId) (weight : Nat) (placer : Holder) (s : State) :
    standingOf (placeInCradle bay index coil weight placer s) = standingOf s := by
  unfold placeInCradle
  split
  · simp [apply_ite standingOf]
  · rfl

@[simp] theorem standingOf_ownPlacement (bay index : Nat) (coil : CoilId) (weight : Nat) (s : State) :
    standingOf (ownPlacement bay index coil weight s) = standingOf s := by
  unfold ownPlacement
  split
  · simp
  · split <;> simp [apply_ite standingOf]

@[simp] theorem standingOf_peerPlacement (p bay index : Nat) (coil : CoilId) (weight : Nat) (s : State) :
    standingOf (peerPlacement p bay index coil weight s) = standingOf s := by
  unfold peerPlacement
  split
  · simp
  · dsimp only
    split <;> simp

@[simp] theorem standingOf_removeBayReservations (bay : Nat) (s : State) :
    standingOf (removeBayReservations bay s) = standingOf s := by
  unfold removeBayReservations
  dsimp only
  rw [standingOf_foldl (by simp)]
  split <;> simp

/-! ### Bookings and the events of the load (R154 to R164) -/

@[simp] theorem standingOf_takeOutRecords (k : Task) (v : Reservation) (s : State) :
    standingOf (takeOutRecords k v s) = standingOf s := by simp [takeOutRecords]
@[simp] theorem standingOf_sourceLost (s : State) : standingOf (sourceLost s) = standingOf s := by simp [sourceLost]

@[simp] theorem standingOf_afterTakeOut (k : Task) (s : State) : standingOf (afterTakeOut k s) = standingOf s := by
  unfold afterTakeOut
  dsimp only
  split
  · split <;> simp
  · simp

@[simp] theorem standingOf_takeOut (k : Task) (s : State) : standingOf (takeOut k s) = standingOf s := by
  unfold takeOut
  split <;> simp

@[simp] theorem standingOf_cancelTakeOut (k : Task) (s : State) : standingOf (cancelTakeOut k s) = standingOf s := by
  unfold cancelTakeOut
  split <;> simp

@[simp] theorem standingOf_putInAt (k : Task) (ref : Ref) (s : State) : standingOf (putInAt k ref s) = standingOf s := by
  cases ref <;> simp [putInAt]

@[simp] theorem standingOf_putIn (k : Task) (s : State) : standingOf (putIn k s) = standingOf s := by
  unfold putIn
  split <;> simp

@[simp] theorem standingOf_returnIn (k : Task) (s : State) : standingOf (returnIn k s) = standingOf s := by simp [returnIn]
@[simp] theorem standingOf_bookTakeOut (k : Task) (s : State) : standingOf (bookTakeOut k s) = standingOf s := by
  simp [bookTakeOut, apply_ite standingOf]
@[simp] theorem standingOf_bookPutIn (k : Task) (s : State) : standingOf (bookPutIn k s) = standingOf s := by
  simp [bookPutIn, apply_ite standingOf]
@[simp] theorem standingOf_startReturn (k : Task) (s : State) : standingOf (startReturn k s) = standingOf s := by
  simp [startReturn, apply_ite standingOf]

@[simp] theorem standingOf_resumeBooking (s : State) : standingOf (resumeBooking s) = standingOf s := by
  unfold resumeBooking
  split
  · rfl
  · split
    · rfl
    · split <;> simp

@[simp] theorem standingOf_liftUnknown (n : Nat) (s : State) : standingOf (liftUnknown n s) = standingOf s := rfl
@[simp] theorem standingOf_wrongLift (reason : Reason) (n : Nat) (s : State) : standingOf (wrongLift reason n s) = standingOf s := by
  simp [wrongLift]

@[simp] theorem standingOf_liftAtSource (mode : BookMode) (n : Nat) (s : State) :
    standingOf (liftAtSource mode n s) = standingOf s := by
  unfold liftAtSource
  dsimp only
  split <;> simp

@[simp] theorem standingOf_liftBack (k : Task) (s : State) : standingOf (liftBack k s) = standingOf s := rfl

@[simp] theorem standingOf_onLift (n : Nat) (s : State) : standingOf (onLift n s) = standingOf s := by
  unfold onLift
  split
  · rfl
  · split <;> simp [apply_ite standingOf]

@[simp] theorem standingOf_wrongSetDown (k : Task) (s : State) : standingOf (wrongSetDown k s) = standingOf s := by
  simp [wrongSetDown, apply_ite standingOf]
@[simp] theorem standingOf_undoLift (s : State) : standingOf (undoLift s) = standingOf s := rfl
@[simp] theorem standingOf_setDownAtTarget (mode : BookMode) (k : Task) (s : State) :
    standingOf (setDownAtTarget mode k s) = standingOf s := by
  cases mode <;> simp [setDownAtTarget]

@[simp] theorem standingOf_onSetDown (s : State) : standingOf (onSetDown s) = standingOf s := by
  unfold onSetDown
  dsimp only
  split
  · simp [apply_ite standingOf]
  · split <;> simp [apply_ite standingOf]

@[simp] theorem standingOf_weighingCycle (coarseA fineA coarseB fineB : Int) (s : State) :
    standingOf (weighingCycle coarseA fineA coarseB fineB s) = standingOf s := by
  rw [weighingCycle_eq]
  unfold handLoadEvent
  split <;> simp [cycleMeasured]

end Sys2Proof.Machine
end

section
/-! PROOFS. The standing of the permission unit through the link, the frames of peers, the requests, the positions and the
configuration. -/

namespace Sys2Proof.Machine

/-! ### The link (R41, R50 to R58) -/

@[simp] theorem standingOf_enterMuted (s : State) : standingOf (enterMuted s) = standingOf s := standingOf_linkDown _
@[simp] theorem standingOf_enterIdclash (s : State) : standingOf (enterIdclash s) = standingOf s := standingOf_linkDown _
@[simp] theorem standingOf_enterConfig (s : State) : standingOf (enterConfig s) = standingOf s := standingOf_linkDown _
@[simp] theorem standingOf_enterHalted (s : State) : standingOf (enterHalted s) = standingOf s := standingOf_linkDown _
@[simp] theorem standingOf_startListen (s : State) : standingOf (startListen s) = standingOf s := standingOf_linkDown _
@[simp] theorem standingOf_composeStatus (farewell : Bool) (s : State) : standingOf (composeStatus farewell s) = standingOf s := rfl
@[simp] theorem standingOf_endReception (s : State) : standingOf (endReception s) = standingOf s := rfl
@[simp] theorem standingOf_endMuted (s : State) : standingOf (endMuted s) = standingOf s := rfl
@[simp] theorem standingOf_enterLinkState (st : LinkState) (afterMuted : Bool) (s : State) :
    standingOf (enterLinkState st afterMuted s) = standingOf s := rfl

@[simp] theorem standingOf_transmitError (s : State) : standingOf (transmitError s) = standingOf s := by
  simp [transmitError, apply_ite standingOf]

@[simp] theorem standingOf_lineFaultBegins (receiving : Bool) (s : State) :
    standingOf (lineFaultBegins receiving s) = standingOf s := by simp [lineFaultBegins, apply_ite standingOf]

@[simp] theorem standingOf_frameStart (s : State) : standingOf (frameStart s) = standingOf s := by
  unfold frameStart
  split
  · split <;> rfl
  · rfl

@[simp] theorem standingOf_arbitrationLost (s : State) : standingOf (arbitrationLost s) = standingOf s := by
  simp [arbitrationLost, apply_ite standingOf]

@[simp] theorem standingOf_claimSent (s : State) : standingOf (claimSent s) = standingOf s := by
  unfold claimSent
  split
  · simp
  · rfl

@[simp] theorem standingOf_afterSent (m : Mailbox) (farewell : Bool) (s : State) :
    standingOf (afterSent m farewell s) = standingOf s := by
  cases m <;> simp [afterSent, apply_ite standingOf]

@[simp] theorem standingOf_frameSent (s : State) : standingOf (frameSent s) = standingOf s := by
  unfold frameSent
  split <;> simp

@[simp] theorem standingOf_ownIdentifierSeen (s : State) : standingOf (ownIdentifierSeen s) = standingOf s := by
  unfold ownIdentifierSeen
  split <;> simp

@[simp] theorem standingOf_beatStatus (s : State) : standingOf (beatStatus s) = standingOf s := by
  simp [beatStatus, apply_ite standingOf]

@[simp] theorem standingOf_enterActive (s : State) : standingOf (enterActive s) = standingOf s := by
  simp [enterActive, apply_ite standingOf]

@[simp] theorem standingOf_beatExpiry (s : State) : standingOf (beatExpiry s) = standingOf s := by
  unfold beatExpiry
  dsimp only
  split <;> simp [apply_ite standingOf]

@[simp] theorem standingOf_composeDeferred (s : State) : standingOf (composeDeferred s) = standingOf s := by
  simp [composeDeferred, apply_ite standingOf]

@[simp] theorem standingOf_putHeld (fs : List ReleaseFrame) (s : State) : standingOf (putHeld fs s) = standingOf s := by
  induction fs generalizing s with
  | nil => rfl
  | cons f fs ih =>
    unfold putHeld
    split
    next hput =>
      obtain ⟨b, rfl⟩ := putRelease_some hput
      rw [ih, standingOf_setBoxes]
    · rfl

/-! ### Frames of peers on the records (R117 to R124, R138 to R144, R180 to R185, R189) -/

@[simp] theorem standingOf_recordClaim (sender round priority : Nat) (e : ClaimEntry) (s : State) :
    standingOf (recordClaim sender round priority e s) = standingOf s := by
  unfold recordClaim
  dsimp only
  split <;> simp [apply_ite standingOf]

@[simp] theorem standingOf_meetOwn (sender round priority : Nat) (ref : Ref) (v : Reservation) (s : State) :
    standingOf (meetOwn sender round priority ref v s) = standingOf s := by
  unfold meetOwn
  split
  · exact standingOf_askObject ..
  · split
    · rfl
    · simp [outranked, objectTo, apply_ite standingOf]

@[simp] theorem standingOf_takeClaim (sender round priority : Nat) (entries : List ClaimEntry) (s : State) :
    standingOf (takeClaim sender round priority entries s) = standingOf s := by
  have hmet : standingOf (meetOwns sender round priority entries s) = standingOf s :=
    standingOf_foldl (fun s e => by split <;> simp) entries s
  unfold takeClaim
  dsimp only
  split
  · rw [standingOf_foldl (by simp), hmet]
  · exact hmet

@[simp] theorem standingOf_lateObject (n : Nat) (ref : Ref) (s : State) : standingOf (lateObject n ref s) = standingOf s := by
  unfold lateObject
  split
  · rfl
  · simp [apply_ite standingOf]

@[simp] theorem standingOf_takeObject (n : Nat) (ref : Ref) (s : State) : standingOf (takeObject n ref s) = standingOf s := by
  unfold takeObject
  split
  · simp
  · simp [apply_ite standingOf]

@[simp] theorem standingOf_takeRelease (p n : Nat) (refs : List Ref) (s : State) :
    standingOf (takeRelease p n refs s) = standingOf s := standingOf_foldl (by simp) refs s

@[simp] theorem standingOf_holdPeer (ref : Ref) (s : State) : standingOf (holdPeer ref s) = standingOf s := by
  unfold holdPeer
  split
  · rfl
  · simp [apply_ite standingOf]

@[simp] theorem standingOf_pickSlot (p n row column : Nat) (coil : CoilId) (r : SlotRecord) (s : State) :
    standingOf (pickSlot p n row column coil r s) = standingOf s := by
  unfold pickSlot
  split <;> simp [apply_ite standingOf]

@[simp] theorem standingOf_applyPicked (p n row column : Nat) (coil : CoilId) (s : State) :
    standingOf (applyPicked p n row column coil s) = standingOf s := by
  unfold applyPicked
  split
  · simp
  · split
    · split <;> simp
    · simp [apply_ite standingOf]

@[simp] theorem standingOf_takePicked (p n : Nat) (ref : Ref) (coil : CoilId) (s : State) :
    standingOf (takePicked p n ref coil s) = standingOf s := by
  cases ref <;> simp [takePicked]

@[simp] theorem standingOf_applyPlacedSlot (p row column : Nat) (c : CoilInfo) (s : State) :
    standingOf (applyPlacedSlot p row column c s) = standingOf s := by
  unfold applyPlacedSlot
  split
  · simp
  · simp [apply_ite standingOf]

@[simp] theorem standingOf_takePlaced (p n : Nat) (ref : Ref) (c : CoilInfo) (s : State) :
    standingOf (takePlaced p n ref c s) = standingOf s := by
  cases ref <;> simp [takePlaced, applyPlaced, releaseStep]

@[simp] theorem standingOf_recordArrival (sender bay truckRef : Nat) (o : Orientation) (x : Trailer) (offsets : List Nat)
    (s : State) : standingOf (recordArrival sender bay truckRef o x offsets s) = standingOf s := by simp [recordArrival]

@[simp] theorem standingOf_takeArrive (sender bay truckRef : Nat) (o : Orientation) (x : Trailer) (offsets : List Nat)
    (s : State) : standingOf (takeArrive sender bay truckRef o x offsets s) = standingOf s := by
  unfold takeArrive
  split
  · rfl
  · split <;> simp [apply_ite standingOf]

@[simp] theorem standingOf_takeClose (bay truckRef : Nat) (s : State) : standingOf (takeClose bay truckRef s) = standingOf s := by
  unfold takeClose
  split
  · simp [apply_ite standingOf]
  · rfl

@[simp] theorem standingOf_takeDepart (bay truckRef : Nat) (s : State) : standingOf (takeDepart bay truckRef s) = standingOf s := by
  unfold takeDepart
  split
  · rfl
  · simp [apply_ite standingOf]

/-- R42, R52, R53: what a frame passes before its owner takes it leaves the standing, where its owner does. -/
theorem standingOf_receiveFrame {sender : Nat} {wellFormed shared : Bool} {owner : State → State}
    (h : ∀ u, standingOf (owner u) = standingOf u) (s : State) :
    standingOf (receiveFrame sender wellFormed shared owner s) = standingOf s := by
  simp [receiveFrame, apply_ite standingOf, h]

/-! ### Entries of the table, positions and the load cells (R1 to R16, R61 to R66) -/

@[simp] theorem standingOf_refreshEntry (id : Nat) (r : StatusReport) (before : Entry) (s : State) :
    standingOf (refreshEntry id r before s) = standingOf s := by simp [refreshEntry, becomeForeign, apply_ite standingOf]
@[simp] theorem standingOf_createEntry (id : Nat) (r : StatusReport) (s : State) : standingOf (createEntry id r s) = standingOf s := by
  simp [createEntry, apply_ite standingOf]
@[simp] theorem standingOf_untrackedReport (s : State) : standingOf (untrackedReport s) = standingOf s := by
  simp [untrackedReport, apply_ite standingOf]

@[simp] theorem standingOf_takeStatus (id : Nat) (r : StatusReport) (s : State) : standingOf (takeStatus id r s) = standingOf s := by
  unfold takeStatus
  split <;> simp [apply_ite standingOf]

@[simp] theorem standingOf_removeEntry (id : Nat) (s : State) : standingOf (removeEntry id s) = standingOf s := rfl
@[simp] theorem standingOf_takeFarewell (id : Nat) (s : State) : standingOf (takeFarewell id s) = standingOf s := by
  unfold takeFarewell
  split <;> simp

@[simp] theorem standingOf_becomeStale (id : Nat) (s : State) : standingOf (becomeStale id s) = standingOf s := by
  unfold becomeStale
  split
  · rfl
  · simp [setEntryState, apply_ite standingOf]

@[simp] theorem standingOf_becomeLost (id : Nat) (s : State) : standingOf (becomeLost id s) = standingOf s := by
  unfold becomeLost
  split
  · rfl
  · simp [setEntryState, apply_ite standingOf]

@[simp] theorem standingOf_encoderStep (axis : Axis) (a b : Bool) (s : State) :
    standingOf (encoderStep axis a b s) = standingOf s := by
  simp [encoderStep, setLines, apply_ite standingOf]

@[simp] theorem standingOf_takeSample (axis : Axis) (s : State) : standingOf (takeSample axis s) = standingOf s := by
  simp [takeSample, apply_ite standingOf]

@[simp] theorem standingOf_positionSample (s : State) : standingOf (positionSample s) = standingOf s := by
  have hhoist (u : State) : standingOf (sampleHoist u) = standingOf u := rfl
  simp [positionSample, hhoist]

@[simp] theorem standingOf_markEdge (m : MarkedAxis) (s : State) : standingOf (markEdge m s) = standingOf s := by
  unfold markEdge
  dsimp only
  split
  · rfl
  · simp [applyMark, apply_ite standingOf]

theorem standingOf_referenceAxis (axis : Axis) (position : Int) (s : State) :
    standingOf (referenceAxis axis position s) = standingOf s := by cases axis <;> rfl

/-! ### The configuration and RESTART (R22, R103, R202, R203, R207) -/

theorem standingOf_writeScalar (item v : Nat) (s : State) : standingOf (writeScalar item v s) = standingOf s := by
  simp [writeScalar, writeStationId, emptyKeptBoxes_eq, apply_ite standingOf]

theorem standingOf_writeItem (item : Nat) (values : List Nat) (s : State) :
    standingOf (writeItem item values s) = standingOf s := by
  unfold writeItem
  split
  · exact standingOf_writeScalar ..
  · split
    case h_3 => split <;> simp [writeGeometry, emptyKeptBoxes_eq, apply_ite standingOf]
    all_goals rfl

theorem standingOf_restartChanges (s : State) : standingOf (restartChanges s) = standingOf s := by
  have hlink : standingOf (restartLink s) = standingOf s := standingOf_enterConfig s
  have hcleared (u : State) : standingOf (u.withNotices u.notices.clearFlags) = standingOf u := rfl
  simp only [restartChanges, hcleared, standingOf_withTracker, standingOf_releaseWhere, standingOf_withTable,
    standingOf_withWeigh, standingOf_withClaims, hlink]

/-! ### The bodies of requests -/

/-- R201: a request that writes no zone changes nothing, or it is accepted and leaves the standing. -/
inductive Answered (s : State) : State × Reply → Prop
  | unchanged (r : Reply) : Answered s (s, r)
  | of_standing {b : State} (payload : List Byte) (h : standingOf b = standingOf s) : Answered s (b, .okWith payload)

theorem answered_posReference (axis position : Nat) (s : State) : Answered s (posReference axis position s) := by
  unfold posReference
  split
  · exact .unchanged _
  · split_ifs
    · exact .unchanged _
    · exact .unchanged _
    · exact .of_standing _ (standingOf_referenceAxis ..)

theorem answered_zeroSet (s : State) : Answered s (zeroSet s) := by
  unfold zeroSet
  split
  · exact .of_standing _ rfl
  · exact .unchanged _

theorem answered_cfgWriteBody (item : Nat) (values : List Nat) (s : State) : Answered s (cfgWriteBody item values s) := by
  unfold cfgWriteBody
  split_ifs
  · exact .unchanged _
  · exact .unchanged _
  · exact .unchanged _
  · exact .of_standing _ (standingOf_writeItem ..)

/-- R87: a ZONE_WRITE is refused, or it writes the zone it names. -/
theorem zoneWrite_cases (index : Nat) (z : ZoneArgs) (s : State) :
    (∃ st, st ≠ .ok ∧ zoneWrite index z s = (s, .err st)) ∨ ∃ e, zoneWrite index z s = (setZone index e s, .okWith []) := by
  unfold zoneWrite
  split_ifs
  · exact .inl ⟨.badArg, by decide, rfl⟩
  · exact .inl ⟨.badState, by decide, rfl⟩
  · exact .inl ⟨.badArg, by decide, rfl⟩
  · split
    · exact .inl ⟨.badArg, by decide, rfl⟩
    next e _ => exact .inr ⟨e, rfl⟩

theorem answered_zoneEnable (change on : BitVec 8) (s : State) : Answered s (zoneEnable change on s) := .of_standing _ rfl

theorem answered_joinBody (s : State) : Answered s (joinBody s) := by
  unfold joinBody
  split
  · split
    · exact .of_standing _ (by simp)
    · exact .unchanged _
  · exact .of_standing _ (by simp)
  · exact .unchanged _

theorem answered_leaveBody (s : State) : Answered s (leaveBody s) := by
  unfold leaveBody
  split
  · split
    · exact .unchanged _
    · exact .of_standing _ (by simp)
  · split
    · exact .unchanged _
    · exact .of_standing _ (by simp)
  · exact .unchanged _

theorem answered_restartBody (s : State) : Answered s (restartBody s) := by
  unfold restartBody
  split_ifs
  · exact .unchanged _
  · exact .unchanged _
  · exact .of_standing _ (standingOf_restartChanges s)

theorem answered_neighbourDrop (id : Nat) (s : State) : Answered s (neighbourDrop id s) := by
  unfold neighbourDrop
  split
  · exact .unchanged _
  · split
    · exact .unchanged _
    · split
      · exact .of_standing _ rfl
      · exact .unchanged _

theorem answered_mapWrite (ref : Ref) (state : Nat) (coil : Option CoilId) (weight width : Option Nat) (s : State) :
    Answered s (mapWrite ref state coil weight width s) := by
  have hwritten (c : SlotContent) (row column : Nat) : standingOf (writeSlot row column c s) = standingOf s := by
    unfold writeSlot
    dsimp only
    rw [standingOf_foldl (by simp), standingOf_setSlot]
  unfold mapWrite
  split
  · exact .unchanged _
  · split
    · unfold mapWriteSlot
      split_ifs
      iterate 4 exact .unchanged _
      exact .of_standing _ (hwritten ..)
    · exact .unchanged _

theorem answered_taskStart (id kind : Nat) (source target : Ref) (coil : CoilId) (priority : Nat) (s : State) :
    Answered s (taskStart id kind source target coil priority s) := by
  unfold taskStart
  split
  · exact .unchanged _
  · split_ifs
    iterate 5 exact .unchanged _
    split
    · exact .unchanged _
    · exact .unchanged _
    · dsimp only
      split
      · exact .unchanged _
      · exact .of_standing _ (by simp [beginTask])

theorem standingOf_acceptWeight (k : Task) (s : State) : standingOf (acceptWeight k s) = standingOf s := by
  unfold acceptWeight
  dsimp only
  split
  · rfl
  · simp [apply_ite standingOf]

theorem answered_taskConfirm (s : State) : Answered s (taskConfirm s) := by
  unfold taskConfirm
  split
  · exact .unchanged _
  · split
    · exact .unchanged _
    · split
      · exact .of_standing _ (by simp)
      · exact .of_standing _ (standingOf_acceptWeight ..)
      · exact .of_standing _ (by simp)
      · exact .unchanged _

theorem answered_taskCancel (s : State) : Answered s (taskCancel s) := by
  unfold taskCancel
  split
  · exact .unchanged _
  · split
    · exact .unchanged _
    · split
      · exact .of_standing _ (by simp [cancelBeforeLift])
      · exact .of_standing _ (by simp [cancelBeforeLift])
      · split
        · exact .unchanged _
        · exact .of_standing _ (by simp)
      iterate 4 exact .of_standing _ (by simp)
      all_goals exact .unchanged _

theorem answered_taskRetarget (target : Ref) (s : State) : Answered s (taskRetarget target s) := by
  unfold taskRetarget
  split
  · exact .unchanged _
  · split_ifs
    iterate 5 exact .unchanged _
    split
    · exact .unchanged _
    · exact .of_standing _ (by simp [beginRetarget])

theorem answered_truckArrive (bay truckRef orientation : Nat) (x : Trailer) (offsets : List Nat) (s : State) :
    Answered s (truckArrive bay truckRef orientation x offsets s) := by
  unfold truckArrive
  split
  · exact .unchanged _
  · split
    · exact .unchanged _
    · split
      · exact .unchanged _
      · split
        · exact .unchanged _
        · exact .of_standing _ (by simp [arrive])

theorem answered_truckClose (bay : Nat) (s : State) : Answered s (truckClose bay s) := by
  unfold truckClose
  split
  · exact .unchanged _
  · split
    · exact .unchanged _
    · split
      · exact .unchanged _
      · split
        · exact .unchanged _
        · exact .of_standing _ (by simp)

theorem answered_truckDepart (bay : Nat) (s : State) : Answered s (truckDepart bay s) := by
  unfold truckDepart
  split
  · exact .unchanged _
  · split
    · exact .unchanged _
    · split
      · exact .unchanged _
      · split
        · exact .unchanged _
        · exact .of_standing _ (by simp)

end Sys2Proof.Machine
end

section
/-! PROOFS. How a command ends (R74, R75, R91, R191, R208, R210): every command but the release of the reset input drives the outputs at
its end, or leaves all that they depend on. -/

namespace Sys2Proof.Machine

/-! ### Steps that change no output and no evaluation -/

/-- A step that leaves the permission unit and the truck unit, and what the levels, the inside cases and the truck check are read from;
ATTN stays in step with the flags and enables. -/
structure Rests (s t : State) : Prop where
  perm : t.perm = s.perm
  trucks : t.trucks = s.trucks
  levels : levelsOf t = levelsOf s
  inside : ∀ z, zoneInside t z = zoneInside s z
  truckStops : truckStops t = truckStops s
  attn : s.notices.attn = attnLevel s → t.notices.attn = attnLevel t

theorem rests_refl (s : State) : Rests s s := ⟨rfl, rfl, rfl, fun _ => rfl, rfl, id⟩

theorem Rests.trans {s t u : State} (h : Rests s t) (k : Rests t u) : Rests s u where
  perm := k.perm.trans h.perm
  trucks := k.trucks.trans h.trucks
  levels := k.levels.trans h.levels
  inside z := (k.inside z).trans (h.inside z)
  truckStops := k.truckStops.trans h.truckStops
  attn a := k.attn (h.attn a)

theorem rests_withPort (p : Port) (s : State) : Rests s (s.withPort p) :=
  ⟨rfl, rfl, levelsOf_withPort p s, fun _ => rfl, rfl, id⟩

theorem rests_withPending (is : List Instr) (s : State) : Rests s (s.withPending is) :=
  ⟨rfl, rfl, levelsOf_congr rfl rfl rfl rfl rfl rfl rfl rfl rfl rfl rfl rfl, fun _ => rfl, rfl, id⟩

/-- R210: a change of the notice unit alone, which ATTN follows. -/
theorem rests_driveAttn_withNotices (n : NoticeUnit) (s : State) : Rests s (driveAttn (s.withNotices n)) :=
  ⟨rfl, rfl, levelsOf_congr rfl rfl rfl rfl rfl rfl rfl rfl rfl rfl rfl rfl, fun _ => rfl, rfl, fun _ => rfl⟩

/-- R208: while the reset input is held every level is STOP. -/
theorem levelsOf_of_held {s : State} (h : s.clock.resetHeld = true) : levelsOf s = Levels.all .stop := by
  simp [levelsOf, levelOf, h, Levels.all]

theorem levelsOf_eq_of_held {s t : State} (hs : s.clock.resetHeld = true) (ht : t.clock = s.clock) : levelsOf t = levelsOf s := by
  rw [levelsOf_of_held hs, levelsOf_of_held (by rw [ht, hs])]

/-- R208: while the reset input is held the encoder pins move no position. -/
theorem rests_setLines {s : State} (hheld : s.clock.resetHeld = true) (axis : Axis) (a b : Bool) :
    Rests s (setLines axis a b s) where
  perm := rfl
  trucks := rfl
  levels := levelsOf_eq_of_held hheld rfl
  inside z := by cases axis <;> rfl
  truckStops := by cases axis <;> rfl
  attn := id

/-- R208: while the reset input is held only the pin follows a line fault. -/
theorem rests_updateLink {s : State} (hheld : s.clock.resetHeld = true) (f : Link → Link) : Rests s (updateLink f s) :=
  ⟨rfl, rfl, levelsOf_eq_of_held hheld rfl, fun _ => rfl, rfl, id⟩

/-! ### The step on an empty queue -/

/-- R79, R81: an offer does not read the age of its entry. -/
theorem entryOffer_age (s : State) (d : Dir) (e : Entry) (n : Nat) : entryOffer s d { e with age := n } = entryOffer s d e := by
  cases d <;> rfl

theorem offers_tick (s : State) (d : Dir) : offers (tick s) d = offers s d := by
  have hentries : s.table.tick.entries.map (entryOffer s d) = s.table.entries.map (entryOffer s d) := by
    simp only [NeighbourTable.tick, List.map_map]
    exact List.map_congr_left fun e _ => entryOffer_age s d e _
  refine congrArg₂ (· ++ ·) (congrArg₂ (· ++ ·) ?_ hentries) rfl
  cases d <;> rfl

/-- The internal tick moves no level: no offer reads a time (R64, R69, R81). -/
theorem rests_tick (s : State) : Rests s (tick s) where
  perm := rfl
  trucks := rfl
  levels := by
    have hlevel (d : Dir) : levelOf (tick s) d = levelOf s d := by
      simp only [levelOf, offers_tick]
      rfl
    simp only [levelsOf, hlevel]
  inside _ := rfl
  truckStops := rfl
  attn := id

theorem rests_post (rows : List Instr) (s : State) : Rests s (post rows s) :=
  ⟨rfl, rfl, by cases s; rfl, fun _ => rfl, rfl, id⟩

theorem rests_idle (s : State) : Rests s (idle s) := by
  unfold idle
  split_ifs
  · exact rests_refl s
  · exact (rests_tick s).trans (rests_post ..)
  · exact rests_post ..

/-! ### Transactions and requests that settle nothing -/

theorem rests_readRequest (f : State → Reply) (s : State) : Rests s (readRequest f s) := by
  unfold readRequest
  split
  · exact rests_refl s
  · exact rests_withPort ..

theorem rests_noticeRequest (body : NoticeUnit → NoticeUnit × Reply) (s : State) : Rests s (noticeRequest body s) := by
  unfold noticeRequest
  split
  · exact rests_refl s
  · exact (rests_driveAttn_withNotices ..).trans (rests_withPort ..)

theorem rests_chipSelectRise (bytes : List Byte) (partialByte : Bool) (s : State) :
    Rests s (chipSelectRise bytes partialByte s) := by
  unfold chipSelectRise
  split
  · exact rests_refl s
  · split
    · exact rests_withPort ..
    · unfold requestRises
      dsimp only
      split
      · exact rests_withPort ..
      · exact (rests_withPort ..).trans (rests_driveAttn_withNotices ..)

/-! ### The ways a command ends -/

/-- What the end of a step goes on from: the standing it began with, or one zone written (R87). -/
inductive Readied (s : State) : State → Prop
  | stands {b : State} (h : standingOf b = standingOf s) : Readied s b
  | zoneWritten (index : Nat) (e : ZoneEntry) : Readied s (setZone index e s)

/-- A command leaves the outputs as they are, or they are driven at its end (R74): after an evaluation that goes on from what the
command has made, with or without a reply, or under the reset input (R208). -/
inductive Ends (s : State) : State → Prop
  | rests {t : State} (h : Rests s t) : Ends s t
  | settles {b : State} (h : Readied s b) : Ends s (settle b)
  | accepts {b : State} (r : Reply) (h : Readied s b) : Ends s (respond r (settle b))
  | asserted : Ends s (assertReset s)

theorem Ends.event {body : State → State} {s : State} (h : standingOf (body s) = standingOf s) : Ends s (event body s) := by
  unfold Machine.event
  split
  · exact .rests (rests_refl s)
  · exact .settles (.stands h)

theorem Ends.unchanged {body : State → State × Reply} {r : Reply} {s : State} (h : body s = (s, r)) : Ends s (request body s) := by
  by_cases hheld : s.clock.resetHeld = true
  · rw [request_of_held body hheld]
    exact .rests (rests_refl s)
  · have hrun : Running s := by simpa using hheld
    by_cases hr : r.status = .ok
    · rw [request_of_ok body hrun (by rw [h, hr]), h]
      exact .accepts r (.stands rfl)
    · rw [request_of_answer hrun h hr]
      exact .rests (rests_withPort ..)

theorem Ends.accepted {body : State → State × Reply} {payload : List Byte} {s b : State} (h : body s = (b, .okWith payload))
    (hb : Readied s b) : Ends s (request body s) := by
  by_cases hheld : s.clock.resetHeld = true
  · rw [request_of_held body hheld]
    exact .rests (rests_refl s)
  · rw [request_of_acceptance (by simpa using hheld) h]
    exact .accepts _ hb

theorem Ends.request {body : State → State × Reply} {s : State} (h : Answered s (body s)) : Ends s (request body s) := by
  generalize hp : body s = p at h
  cases h with
  | unchanged r => exact .unchanged hp
  | of_standing payload h => exact .accepted hp (.stands h)

theorem exec_ends (c : Instr) (hc : c ≠ .pinResetRelease) (s : State) : ∃ t, exec c s = .next t ∧ Ends s t := by
  have hframe {sender : Nat} {wellFormed shared : Bool} {owner : State → State} (h : ∀ u, standingOf (owner u) = standingOf u) :
      Ends s (event (receiveFrame sender wellFormed shared owner) s) := .event (standingOf_receiveFrame h s)
  cases c with
  | pinResetAssert => exact ⟨_, rfl, .asserted⟩
  | pinResetRelease => exact absurd rfl hc
  | encoderTransition axis a b =>
    refine ⟨_, rfl, ?_⟩
    split
    next hheld => exact .rests (rests_setLines hheld axis a b)
    · exact .settles (.stands (standingOf_encoderStep axis a b s))
  | lineFault reported receiving =>
    refine ⟨_, rfl, ?_⟩
    split
    next hheld => exact .rests (rests_updateLink hheld _)
    · refine .settles (.stands ?_)
      split <;> simp
  | markEdge axis => exact ⟨_, rfl, .event (standingOf_markEdge axis s)⟩
  | positionSample => exact ⟨_, rfl, .event (standingOf_positionSample s)⟩
  | weighingCycle coarseA fineA coarseB fineB => exact ⟨_, rfl, .event (standingOf_weighingCycle coarseA fineA coarseB fineB s)⟩
  | frameStart => exact ⟨_, rfl, .event (standingOf_frameStart s)⟩
  | arbitrationLost => exact ⟨_, rfl, .event (standingOf_arbitrationLost s)⟩
  | frameSent => exact ⟨_, rfl, .event (standingOf_frameSent s)⟩
  | transmitError => exact ⟨_, rfl, .event (by split <;> simp)⟩
  | receiveError => exact ⟨_, rfl, .event (by simp)⟩
  | ownIdentifierFrame => exact ⟨_, rfl, .event (by simp)⟩
  | statusReceived sender r => exact ⟨_, rfl, hframe (standingOf_takeStatus sender r)⟩
  | farewellReceived sender r => exact ⟨_, rfl, hframe (standingOf_takeFarewell sender)⟩
  | claimReceived sender round priority entries => exact ⟨_, rfl, hframe (standingOf_takeClaim sender round priority entries)⟩
  | objectReceived sender claimant round ref => exact ⟨_, rfl, hframe fun u => by split <;> simp⟩
  | releaseReceived sender round refs => exact ⟨_, rfl, hframe (standingOf_takeRelease sender round refs)⟩
  | pickedReceived sender round ref coil => exact ⟨_, rfl, hframe (standingOf_takePicked sender round ref coil)⟩
  | placedReceived sender round ref coil weight width => exact ⟨_, rfl, hframe (standingOf_takePlaced sender round ref _)⟩
  | truckArriveReceived sender bay truckRef o x offsets =>
    exact ⟨_, rfl, hframe (standingOf_takeArrive sender bay truckRef o _ _)⟩
  | truckCloseReceived sender bay truckRef => exact ⟨_, rfl, hframe (standingOf_takeClose bay truckRef)⟩
  | truckDepartReceived sender bay truckRef => exact ⟨_, rfl, hframe (standingOf_takeDepart bay truckRef)⟩
  | beatExpiry => exact ⟨_, rfl, .event (standingOf_beatExpiry s)⟩
  | deferredStatusCompose => exact ⟨_, rfl, .event (standingOf_composeDeferred s)⟩
  | farewellCompose => exact ⟨_, rfl, .event (by split <;> simp)⟩
  | releaseRequestRetry => exact ⟨_, rfl, .event (by split <;> simp)⟩
  | bookingResumed => exact ⟨_, rfl, .event (standingOf_resumeBooking s)⟩
  | claimWindowExpiry => exact ⟨_, rfl, .event (standingOf_expireWindow s)⟩
  | peerReservationHeld ref => exact ⟨_, rfl, .event (standingOf_holdPeer ref s)⟩
  | entryStale id => exact ⟨_, rfl, .event (standingOf_becomeStale id s)⟩
  | neighbourLost id => exact ⟨_, rfl, .event (standingOf_becomeLost id s)⟩
  | untrackedClear => exact ⟨_, rfl, .event (by split <;> rfl)⟩
  | chipSelectRise bytes partialByte =>
    refine ⟨_, rfl, .rests ?_⟩
    split
    · exact rests_refl s
    · exact rests_chipSelectRise ..
  | readReply clocks =>
    refine ⟨_, rfl, .rests ?_⟩
    split
    · exact rests_refl s
    · exact rests_withPort ..
  | cfgWrite _ _ | cfgWriteStationId _ | cfgWriteBeat _ | cfgWriteGeometry _ | cfgWriteWeighing _ _ | cfgWriteBay _ _ _ _ =>
    exact ⟨_, rfl, .request (answered_cfgWriteBody _ _ s)⟩
  | zoneWrite index z =>
    refine ⟨_, rfl, ?_⟩
    obtain ⟨st, -, h⟩ | ⟨e, h⟩ := zoneWrite_cases index z s
    · exact .unchanged h
    · exact .accepted h (.zoneWritten index e)
  | zoneEnable change on => exact ⟨_, rfl, .request (answered_zoneEnable change on s)⟩
  | join => exact ⟨_, rfl, .request (answered_joinBody s)⟩
  | leave => exact ⟨_, rfl, .request (answered_leaveBody s)⟩
  | restart => exact ⟨_, rfl, .request (answered_restartBody s)⟩
  | posReference axis position => exact ⟨_, rfl, .request (answered_posReference axis position s)⟩
  | zeroSet => exact ⟨_, rfl, .request (answered_zeroSet s)⟩
  | mapWrite ref state coil weight width => exact ⟨_, rfl, .request (answered_mapWrite ref state coil weight width s)⟩
  | taskStart id kind source target coil priority =>
    exact ⟨_, rfl, .request (answered_taskStart id kind source target coil priority s)⟩
  | taskConfirm => exact ⟨_, rfl, .request (answered_taskConfirm s)⟩
  | taskCancel => exact ⟨_, rfl, .request (answered_taskCancel s)⟩
  | taskRetarget target => exact ⟨_, rfl, .request (answered_taskRetarget target s)⟩
  | truckArrive bay truckRef orientation x offsets =>
    exact ⟨_, rfl, .request (answered_truckArrive bay truckRef orientation x offsets s)⟩
  | truckClose bay => exact ⟨_, rfl, .request (answered_truckClose bay s)⟩
  | truckDepart bay => exact ⟨_, rfl, .request (answered_truckDepart bay s)⟩
  | neighbourDrop id => exact ⟨_, rfl, .request (answered_neighbourDrop id s)⟩
  | noticeRead | noticeClear _ | noticeEnable _ _ _ => exact ⟨_, rfl, .rests (rests_noticeRequest ..)⟩
  | unknownRequest | cfgRead _ | stateRead | mapRead _ | mapFind _ | taskRead | truckRead _ | neighbourRead _ =>
    exact ⟨_, rfl, .rests (rests_readRequest ..)⟩

end Sys2Proof.Machine
end

section
/-! PROOFS. The outputs after every step (R74, R75, R208, R210), the zones and the truck check as every command leaves them (R91, R191),
and the lines of the outputs. -/

namespace Sys2Proof.Machine

/-! ### Every step (R74, R208, R210) -/

theorem Rests.outputsFollow {s t : State} (h : Rests s t) (hs : OutputsFollow s) : OutputsFollow t := by
  obtain ⟨houtputs, hattn⟩ := hs
  exact ⟨by rw [h.perm, h.levels, houtputs], h.attn hattn⟩

theorem outputsFollow_drive (s : State) : OutputsFollow (driveAttn (driveOutputs s)) :=
  ⟨by rw [driveAttn_perm, levelsOf_driveAttn, driveOutputs_outputs], driveAttn_attn _⟩

theorem Ends.outputsFollow {s t : State} (h : Ends s t) (hs : OutputsFollow s) : OutputsFollow t := by
  cases h with
  | rests h => exact h.outputsFollow hs
  | settles _ => exact outputsFollow_settle _
  | accepts _ _ => exact outputsFollow_withPort _ (outputsFollow_settle _)
  | asserted => exact outputsFollow_drive _

/-- R54: in CONFIG the link state stops every output. -/
theorem levelsOf_of_config {s : State} (h : s.link.state = .config) : levelsOf s = Levels.all .stop := by
  have hstop (d : Dir) : levelOf s d = .stop :=
    Level.eq_stop_of_rank (levelOf_rank_le (o := .stop) (by simp [offers, linkOffer, h]))
  simp only [levelsOf, hstop, Levels.all]

theorem outputsFollow_releaseReset (s : State) : OutputsFollow (releaseReset s) :=
  ⟨(levelsOf_of_config rfl).symm, by rfl⟩

theorem exec_outputsFollow {c : Instr} {s t : State} (hexec : exec c s = .next t) (hs : OutputsFollow s) : OutputsFollow t := by
  by_cases hc : c = .pinResetRelease
  · subst hc
    obtain rfl := Host.Outcome.next.inj hexec
    exact outputsFollow_releaseReset s
  · obtain ⟨t', ht', hends⟩ := exec_ends c hc s
    obtain rfl := Host.Outcome.next.inj (ht'.symm.trans hexec)
    exact hends.outputsFollow hs

/-- Settles O8: an idle step moves no level, and a command drives the outputs or leaves what they depend on. -/
theorem stepKeepsOutputs : Obligations.StepKeepsOutputs := by
  intro s t hs hstep
  unfold step at hstep
  split at hstep
  · obtain rfl := Host.Outcome.next.inj hstep
    exact (rests_idle s).outputsFollow hs
  next c rest _ => exact exec_outputsFollow hstep ((rests_withPending rest s).outputsFollow hs)

end Sys2Proof.Machine
end

section
/-! PROOFS. What the end of a step evaluates (R74, R75, R78, R84 to R86, R90 to R94, R191): the held levels of the end limits and of the
zones, the truck check and the lines of the outputs, each read from the state that the step leaves; and the claims about the lowest offer
and the lines. -/

namespace Sys2Proof.Machine

/-! ### What an evaluation reads -/

/-- All that the evaluation of the end limits, the zones and the truck check reads of a state, but for the held levels; the rest is as at
a pin reset. -/
def seenOf (s : State) : State :=
  { State.reset with
    cfg := s.cfg
    pos := s.pos
    weigh := s.weigh
    perm := { PermissionUnit.reset with switches := s.perm.switches, hoistSpeed := s.perm.hoistSpeed }
    trucks := { TruckUnit.reset with bay0 := s.trucks.bay0, bay1 := s.trucks.bay1 } }

theorem seenOf_of_keeps {s t : State} (h : Keeps [] s t) : seenOf t = seenOf s := by
  obtain ⟨hswitches, -, -, hspeed, -⟩ := h.2 .perm (by simp)
  obtain ⟨hbay0, hbay1⟩ := h.2 .trucks (by simp)
  have hcfg : t.cfg = s.cfg := h.2 .cfg (by simp)
  have hpos : t.pos = s.pos := h.2 .pos (by simp)
  have hweigh : t.weigh = s.weigh := h.2 .weigh (by simp)
  simp only [seenOf, hcfg, hpos, hweigh, hswitches, hspeed, hbay0, hbay1]

section
variable {s t : State} (h : seenOf t = seenOf s)
include h

theorem zoneInside_of_seenOf (z : ZoneEntry) : zoneInside t z = zoneInside s z := by
  change zoneInside (seenOf t) z = zoneInside (seenOf s) z
  rw [h]

theorem axisOf_of_seenOf (d : Dir) : axisOf t d = axisOf s d := by
  change axisOf (seenOf t) d = axisOf (seenOf s) d
  rw [h]

theorem ownStopping_of_seenOf (d : Dir) : ownStopping t d = ownStopping s d := by
  change ownStopping (seenOf t) d = ownStopping (seenOf s) d
  rw [h]

theorem limitGap_of_seenOf (d : Dir) : limitGap t d = limitGap s d := by
  change limitGap (seenOf t) d = limitGap (seenOf s) d
  rw [h]

theorem evalZone_of_seenOf : evalZone t = evalZone s := by
  change evalZone (seenOf t) = evalZone (seenOf s)
  rw [h]

theorem truckStops_of_seenOf : truckStops t = truckStops s := by
  change truckStops (seenOf t) = truckStops (seenOf s)
  rw [h]

end

/-! ### The end of a step -/

theorem seenOf_settle (b : State) : seenOf (settle b) = seenOf b := seenOf_of_keeps (keeps_settle b)

theorem driveOutputs_zones (s : State) : (driveOutputs s).perm.zones = s.perm.zones := by
  unfold driveOutputs
  dsimp only
  split <;> rfl

theorem driveOutputs_limits (s : State) : (driveOutputs s).perm.limits = s.perm.limits := by
  unfold driveOutputs
  dsimp only
  split <;> rfl

/-- The evaluation of the zones changes them alone, of all that the permission unit holds. -/
theorem evalZones_perm (s : State) : (evalZones s).perm = { s.perm with zones := s.perm.zones.map (evalZone s) } := by
  unfold evalZones
  dsimp only
  split <;> rfl

theorem evalTruckCheck_checkStop (s : State) : (evalTruckCheck s).trucks.checkStop = truckStops s := by
  unfold evalTruckCheck
  dsimp only
  split <;> rfl

/-- R86, R91, R94: the zones that a step leaves are evaluated on the state it leaves. -/
theorem settle_zones (b : State) : (settle b).perm.zones = b.perm.zones.map (evalZone (settle b)) := by
  rw [evalZone_of_seenOf (seenOf_settle b), ← evalZone_of_seenOf (seenOf_of_keeps (keeps_evalLimits b))]
  simp only [settle, driveAttn_perm, driveOutputs_zones, evalTruckCheck_perm, evalZones_perm, evalLimits, State.withPerm_perm]

/-- R84, R85: the end limits that a step leaves are evaluated on the state it leaves. -/
theorem settle_limits (b : State) (d : Dir) : (settle b).perm.limits.get d =
    if (axisOf (settle b) d).state = .valid then
      heldStep (settle b).cfg (b.perm.limits.get d) (limitGap (settle b) d) (ownStopping (settle b) d)
    else .full := by
  have h := seenOf_settle b
  rw [axisOf_of_seenOf h, limitGap_of_seenOf h, ownStopping_of_seenOf h, settle_cfg]
  simp only [settle, driveAttn_perm, driveOutputs_limits, evalTruckCheck_perm, evalZones_perm]
  cases d <;> rfl

/-- R191: the truck check that a step leaves is the one of the state it leaves. -/
theorem settle_checkStop (b : State) : (settle b).trucks.checkStop = truckStops (settle b) := by
  have hkeeps := keeps_trans (keeps_evalTruckCheck (evalZones (evalLimits b)))
    (keeps_trans (keeps_driveOutputs _) (keeps_driveAttn _))
  rw [settle, truckStops_of_seenOf (seenOf_of_keeps hkeeps), driveAttn_trucks, driveOutputs_trucks, evalTruckCheck_checkStop]

theorem evaluated_settle (b : State) : Evaluated (settle b) := by
  refine ⟨fun z hz => ?_, settle_checkStop b⟩
  rw [settle_zones] at hz
  obtain ⟨old, -, rfl⟩ := List.mem_map.1 hz
  rfl

/-! ### The notices of an evaluation (R91, R191, R209) -/

theorem raisesOnly_drive (s : State) : RaisesOnly [] s (driveAttn (driveOutputs s)) :=
  raisesOnly_trans (a := []) (raisesOnly_of_eq (driveOutputs_notices s)) ⟨onlySets_refl _ _, onlySets_refl _ _, rfl, rfl, rfl⟩

theorem raised_of_notices_eq {n : Notice} {s t u : State} (h : Raised n t u) (hst : t.notices = s.notices) : Raised n s u := by
  rwa [Raised, ← hst]

/-- R91: a zone that comes to be inside raises ZONE_INSIDE. -/
theorem settle_raises_zoneInside {b : State} {i : Nat} {z z' : Zone} (hz : b.perm.zones[i]? = some z)
    (hz' : (settle b).perm.zones[i]? = some z') (hout : z.inside = false) (hin : z'.inside = true) :
    Raised .zoneInside b (settle b) := by
  have hentered : zoneEntered (evalLimits b) = true := by
    rw [settle_zones, List.getElem?_map, hz] at hz'
    obtain rfl := Option.some.inj hz'
    have hin' : zoneInside (evalLimits b) z.entry = true := by
      rw [zoneInside_of_seenOf (seenOf_of_keeps (keeps_evalLimits b)), ← zoneInside_of_seenOf (seenOf_settle b)]
      exact hin
    exact List.any_eq_true.2 ⟨z, List.mem_of_getElem? hz, by rw [hin', hout]; rfl⟩
  have hraised : Raised .zoneInside (evalLimits b) (evalZones (evalLimits b)) := by
    rw [evalZones, if_pos hentered]
    exact raise_raised ..
  exact raised_of_notices_eq
    (raised_trans hraised (raisesOnly_trans (raisesOnly_evalTruckCheck _) (raisesOnly_drive _))) (evalLimits_notices b)

/-- R191: a truck check that comes to stop the hoist raises LOAD_LIMIT. -/
theorem settle_raises_loadLimit {b : State} (hbefore : b.trucks.checkStop = false)
    (hafter : (settle b).trucks.checkStop = true) : Raised .loadLimit b (settle b) := by
  let u := evalZones (evalLimits b)
  have hseen : seenOf u = seenOf b := seenOf_of_keeps (keeps_trans (keeps_evalLimits b) (keeps_evalZones _))
  have hstops : truckStops u = true := by
    rw [truckStops_of_seenOf hseen, ← truckStops_of_seenOf (seenOf_settle b), ← settle_checkStop, hafter]
  have hclear : u.trucks.checkStop = false := by
    rw [evalZones_trucks, evalLimits_trucks, hbefore]
  have hraised : Raised .loadLimit u (evalTruckCheck u) := by
    rw [evalTruckCheck, if_pos (by rw [hstops, hclear]; rfl)]
    exact raise_raised ..
  exact raised_of_notices_eq (raised_before (raisesOnly_evalZones _) (raised_trans hraised (raisesOnly_drive _)))
    (evalLimits_notices b)

/-! ### The zones, the truck check and their notices after every command (R86, R91, R191) -/

theorem Readied.sourceEnable {s b : State} (h : Readied s b) : b.notices.sourceEnable = s.notices.sourceEnable := by
  cases h with
  | stands h => exact congrArg Standing.sourceEnable h
  | zoneWritten index e => rfl

theorem Readied.checkStop {s b : State} (h : Readied s b) : b.trucks.checkStop = s.trucks.checkStop := by
  cases h with
  | stands h => exact congrArg Standing.checkStop h
  | zoneWritten index e => rfl

/-- R94: a command that goes on to an evaluation brings no zone inside by itself: a zone written begins outside. -/
theorem Readied.zone_outside {s b : State} (h : Readied s b) {i : Nat} {z zb : Zone} (hz : s.perm.zones[i]? = some z)
    (hzb : b.perm.zones[i]? = some zb) (hout : z.inside = false) : zb.inside = false := by
  cases h with
  | stands h =>
    have hzones : b.perm.zones = s.perm.zones := congrArg Standing.zones h
    rw [hzones, hz] at hzb
    rwa [← Option.some.inj hzb]
  | zoneWritten index e =>
    have hset : (s.perm.zones.set index (Zone.fresh e))[i]? = some zb := hzb
    rw [List.getElem?_set] at hset
    split_ifs at hset
    · rw [← Option.some.inj hset]
      rfl
    · rw [hz] at hset
      rwa [← Option.some.inj hset]

theorem raised_of_sourceEnable {n : Notice} {s b t : State} (h : Raised n b t)
    (he : b.notices.sourceEnable = s.notices.sourceEnable) : Raised n s t :=
  ⟨h.1, fun hs => h.2 ((sourceEnabled_congr he).trans hs)⟩

/-- What a command leaves of the evaluation: the inside cases and the truck check as the state gives them, and the notice of each that
has come to hold. -/
structure LeavesEvaluated (s t : State) : Prop where
  evaluated : Evaluated t
  zoneInside (i : Nat) (z z' : Zone) : s.perm.zones[i]? = some z → t.perm.zones[i]? = some z' →
    z.inside = false → z'.inside = true → Raised .zoneInside s t
  loadLimit : s.trucks.checkStop = false → t.trucks.checkStop = true → Raised .loadLimit s t

theorem LeavesEvaluated.respond {s t : State} (h : LeavesEvaluated s t) (r : Reply) : LeavesEvaluated s (respond r t) :=
  ⟨h.evaluated, h.zoneInside, h.loadLimit⟩

theorem Readied.leavesEvaluated {s b : State} (h : Readied s b) : LeavesEvaluated s (settle b) where
  evaluated := evaluated_settle b
  zoneInside i z z' hz hz' hout hin := by
    have hb : ∃ zb, b.perm.zones[i]? = some zb := by
      rw [settle_zones, List.getElem?_map] at hz'
      obtain ⟨zb, hzb, -⟩ := Option.map_eq_some_iff.1 hz'
      exact ⟨zb, hzb⟩
    obtain ⟨zb, hzb⟩ := hb
    exact raised_of_sourceEnable (settle_raises_zoneInside hzb hz' (h.zone_outside hz hzb hout) hin) h.sourceEnable
  loadLimit hbefore hafter :=
    raised_of_sourceEnable (settle_raises_loadLimit (h.checkStop.trans hbefore) hafter) h.sourceEnable

/-- A step that leaves the zones and the truck check, and what they are read from. -/
theorem leavesEvaluated_of_same {s t : State} (hs : Evaluated s) (hzones : t.perm.zones = s.perm.zones)
    (hcheck : t.trucks.checkStop = s.trucks.checkStop) (hinside : ∀ z, zoneInside t z = zoneInside s z)
    (htruck : truckStops t = truckStops s) : LeavesEvaluated s t where
  evaluated := by
    obtain ⟨hevaluated, hstop⟩ := hs
    exact ⟨fun z hz => by rw [hinside, hevaluated z (hzones ▸ hz)], by rw [hcheck, htruck, hstop]⟩
  zoneInside i z z' hz hz' hout hin := by
    rw [hzones, hz] at hz'
    rw [← Option.some.inj hz', hout] at hin
    cases hin
  loadLimit hbefore hafter := by
    rw [hcheck, hbefore] at hafter
    cases hafter

/-- R208: the state as the reset input takes hold, before the outputs follow. -/
def resetEntered (s : State) : State :=
  (s.withClock { s.clock with resetHeld := true }).withPort { s.port with ready := false, request := none, dataOut := [] }

theorem assertReset_eq (s : State) : assertReset s = driveAttn (driveOutputs (resetEntered s)) := rfl

theorem assertReset_zones (s : State) : (assertReset s).perm.zones = s.perm.zones := by
  rw [assertReset_eq, driveAttn_perm, driveOutputs_zones, resetEntered, State.withPort_perm, State.withClock_perm]

theorem assertReset_trucks (s : State) : (assertReset s).trucks = s.trucks := by
  rw [assertReset_eq, driveAttn_trucks, driveOutputs_trucks, resetEntered, State.withPort_trucks, State.withClock_trucks]

/-- R208: the reset input changes nothing that an evaluation reads. -/
theorem seenOf_assertReset (s : State) : seenOf (assertReset s) = seenOf s := by
  rw [assertReset_eq, seenOf_of_keeps (keeps_trans (keeps_driveOutputs _) (keeps_driveAttn _))]
  rfl

theorem Ends.leavesEvaluated {s t : State} (h : Ends s t) (hs : Evaluated s) : LeavesEvaluated s t := by
  cases h with
  | rests h => exact leavesEvaluated_of_same hs (by rw [h.perm]) (by rw [h.trucks]) h.inside h.truckStops
  | settles h => exact h.leavesEvaluated
  | accepts r h => exact h.leavesEvaluated.respond r
  | asserted =>
    have hseen := seenOf_assertReset s
    exact leavesEvaluated_of_same hs (assertReset_zones s) (by rw [assertReset_trucks]) (zoneInside_of_seenOf hseen)
      (truckStops_of_seenOf hseen)

/-- R87, R194: right after a pin reset no zone is valid and no truck check stands. -/
theorem leavesEvaluated_releaseReset (s : State) : LeavesEvaluated s (releaseReset s) where
  evaluated := by
    refine ⟨fun z hz => ?_, rfl⟩
    rw [List.eq_of_mem_replicate hz]
    rfl
  zoneInside i z z' _ hz' _ hin := by
    rw [List.eq_of_mem_replicate (List.mem_of_getElem? hz')] at hin
    cases hin
  loadLimit _ hafter := by cases hafter

theorem exec_leavesEvaluated {c : Instr} {s t : State} (hexec : exec c s = .next t) (hs : Evaluated s) : LeavesEvaluated s t := by
  by_cases hc : c = .pinResetRelease
  · subst hc
    obtain rfl := Host.Outcome.next.inj hexec
    exact leavesEvaluated_releaseReset s
  · obtain ⟨t', ht', hends⟩ := exec_ends c hc s
    obtain rfl := Host.Outcome.next.inj (ht'.symm.trans hexec)
    exact hends.leavesEvaluated hs

/-! ### The lines of the outputs (R75) -/

/-- R75: the record of line changes of a step: that of before where no output changes, else the changes of the six pairs in order
(assumptions 8 and 54). -/
def LinesFollow (s t : State) : Prop :=
  t.perm.lineTrace = if t.perm.outputs = s.perm.outputs then s.perm.lineTrace
    else allDirs.flatMap fun d => (lineSteps (s.perm.outputs.get d) (t.perm.outputs.get d)).map fun p =>
      { dir := d, lineA := p.1, lineB := p.2 }

theorem linesFollow_driveOutputs (s : State) : LinesFollow s (driveOutputs s) := by
  unfold driveOutputs
  dsimp only
  split
  · exact (if_pos rfl).symm
  next h => exact (if_neg h).symm

/-- The lines follow where the permission unit has, before and after, the outputs and the record of another step that they follow. -/
theorem LinesFollow.congr {s t s' t' : State} (h : LinesFollow s t) (houtputs : s'.perm.outputs = s.perm.outputs)
    (htrace : s'.perm.lineTrace = s.perm.lineTrace) (hperm : t'.perm = t.perm) : LinesFollow s' t' := by
  rw [LinesFollow, hperm, houtputs, htrace]
  exact h

theorem Readied.linesFollow {s b : State} (h : Readied s b) : LinesFollow s (settle b) := by
  have hb : s.perm.outputs = b.perm.outputs ∧ s.perm.lineTrace = b.perm.lineTrace := by
    cases h with
    | stands h => exact ⟨(congrArg Standing.outputs h).symm, (congrArg Standing.lineTrace h).symm⟩
    | zoneWritten index e => exact ⟨rfl, rfl⟩
  refine (linesFollow_driveOutputs (evalTruckCheck (evalZones (evalLimits b)))).congr ?_ ?_ (driveAttn_perm _)
  · rw [hb.1, evalTruckCheck_perm, evalZones_perm]
    rfl
  · rw [hb.2, evalTruckCheck_perm, evalZones_perm]
    rfl

theorem Ends.linesFollow {s t : State} (h : Ends s t) : LinesFollow s t := by
  cases h with
  | rests h => rw [LinesFollow, h.perm, if_pos rfl]
  | settles h => exact h.linesFollow
  | accepts r h => exact h.linesFollow.congr rfl rfl rfl
  | asserted =>
    rw [assertReset_eq]
    exact (linesFollow_driveOutputs (resetEntered s)).congr rfl rfl (driveAttn_perm _)

/-! ### The lowest offer and the lines -/

theorem foldl_lower_mem (os : List Level) (l : Level) : os.foldl Level.lower l = l ∨ os.foldl Level.lower l ∈ os := by
  induction os generalizing l with
  | nil => exact .inl rfl
  | cons o os ih =>
    rw [List.foldl_cons, List.mem_cons]
    obtain h | h := ih (l.lower o)
    · rw [h]
      unfold Level.lower
      split <;> simp
    · exact .inr (.inr h)

/-- Settles O56: by the ways a command ends. -/
theorem outputIsLowestOffer : Obligations.OutputIsLowestOffer := by
  refine ⟨fun s hs hrun d => ⟨fun o ho => output_rank_le hs d ho le_rfl, ?_⟩, ?_, fun c s t hexec hs => ?_, fun c s t hexec hc => ?_⟩
  · have hlevel : levelOf s d = lowest (offers s d) := by simp [levelOf, hrun]
    rw [output_eq hs, hlevel]
    exact foldl_lower_mem (offers s d) .full
  · exact (leavesEvaluated_releaseReset State.reset).evaluated
  · obtain ⟨hevaluated, hzones, hload⟩ := exec_leavesEvaluated hexec hs
    exact ⟨hevaluated, hzones, hload⟩
  · obtain ⟨t', ht', hends⟩ := exec_ends c hc s
    obtain rfl := Host.Outcome.next.inj (ht'.symm.trans hexec)
    exact hends.linesFollow

/-- R75: between two levels an output passes through STOP, between CREEP and SLOW, or through CREEP, between STOP and FULL. -/
theorem mem_lineSteps {old new : Level} {p : Bool × Bool} (hp : p ∈ lineSteps old new) :
    p = new.lines ∨ p = Level.stop.lines ∨
      p = Level.creep.lines ∧ (Level.creep.rank ≤ old.rank ∨ Level.creep.rank ≤ new.rank) := by
  revert p
  cases old <;> cases new <;> decide

/-- Settles O57: by what a change of level passes through. -/
theorem linesNeverPassAHigherLevel : Obligations.LinesNeverPassAHigherLevel := by
  refine ⟨rfl, rfl, rfl, rfl, fun old new => ⟨fun p hp => ?_, fun hne => ?_, ?_⟩, rfl, rfl, rfl, rfl⟩
  · obtain rfl | rfl | ⟨rfl, h⟩ := mem_lineSteps hp
    · exact ⟨new, rfl, .inr le_rfl⟩
    · exact ⟨.stop, rfl, .inl (Nat.zero_le _)⟩
    · exact ⟨.creep, rfl, h⟩
  · unfold lineSteps
    rw [if_neg hne]
    split <;> rfl
  · cases old <;> cases new <;> decide

end Sys2Proof.Machine
end

section
/-! PROOFS. The zone table and the switches (R87, R88): which entry a ZONE_WRITE makes, and which switches a ZONE_ENABLE sets. -/

namespace Sys2Proof.Machine

/-! ### The entry of a ZONE_WRITE (R87) -/

theorem zoneKindOf_eq_none_iff (n : Nat) : zoneKindOf n = none ↔ 3 < n := by
  match n with
  | 0 | 1 | 2 | 3 => simp [zoneKindOf]
  | n + 4 => simp [zoneKindOf]

theorem code_of_zoneKindOf {n : Nat} {kind : ZoneKind} (h : zoneKindOf n = some kind) : kind.code = n := by
  unfold zoneKindOf at h
  split at h <;> cases h <;> rfl

theorem zoneCondOf_eq_none_iff (condition number : Nat) : zoneCondOf condition number = none ↔
    2 < condition ∨ (condition = 1 ∧ 7 < number) ∨ (condition = 2 ∧ 1 < number) := by
  match condition with
  | 0 => simp [zoneCondOf]
  | 1 | 2 => simp [zoneCondOf]
  | n + 3 => simp [zoneCondOf]

/-- The code of a zone's condition is the one sent, and its number but with ALWAYS (assumption 15). -/
theorem code_of_zoneCondOf {condition number : Nat} {cond : ZoneCond} (h : zoneCondOf condition number = some cond) :
    cond.code = (condition, if condition = 0 then 0 else number) := by
  unfold zoneCondOf at h
  split at h
  · cases h
    rfl
  · split at h <;> cases h
    rfl
  · split at h <;> cases h
    rfl
  · cases h

theorem clampNat_zero (hi v : Nat) : clampNat 0 hi v = min v hi := by
  rw [clampNat, Nat.zero_max, Nat.min_comm]

/-- The entry of a ZONE_WRITE of a good kind, condition and rectangle (assumptions 47 and 57). -/
def zoneWritten (z : ZoneArgs) (kind : ZoneKind) (cond : ZoneCond) : ZoneEntry where
  valid := decide (z.valid = 1)
  bridgeMin := min z.bridgeMin 400000
  bridgeMax := min z.bridgeMax 400000
  trolleyMin := min z.trolleyMin 60000
  trolleyMax := min z.trolleyMax 60000
  kind := kind
  clearance := if kind = .clearance then min z.clearance 40000 else 0
  cond := cond

/-- R87: why a ZONE_WRITE in CONFIG is refused for what its entry would be: its kind, its condition or its rectangle. -/
def ZoneRefused (z : ZoneArgs) : Prop :=
  3 < z.kind ∨ (2 < z.condition ∨ (z.condition = 1 ∧ 7 < z.number) ∨ (z.condition = 2 ∧ 1 < z.number)) ∨
    (z.bridgeMax < z.bridgeMin ∨ z.trolleyMax < z.trolleyMin)

theorem zoneOf_of_refused {z : ZoneArgs} (h : ZoneRefused z) : zoneOf z = none := by
  unfold zoneOf
  split
  next kind cond hk hc =>
    have hkind : ¬ 3 < z.kind := by simp [← zoneKindOf_eq_none_iff, hk]
    have hcond : zoneCondOf z.condition z.number ≠ none := by simp [hc]
    rw [Ne, zoneCondOf_eq_none_iff] at hcond
    exact if_pos ((h.resolve_left hkind).resolve_left hcond)
  · rfl

theorem zoneOf_of_good {z : ZoneArgs} (h : ¬ ZoneRefused z) : ∃ kind cond, zoneOf z = some (zoneWritten z kind cond) ∧
    kind.code = z.kind ∧ cond.code = (z.condition, if z.condition = 0 then 0 else z.number) := by
  obtain ⟨hkind, hrest⟩ := not_or.1 h
  obtain ⟨hcond, horder⟩ := not_or.1 hrest
  rw [← zoneKindOf_eq_none_iff] at hkind
  rw [← zoneCondOf_eq_none_iff] at hcond
  obtain ⟨kind, hk⟩ := Option.ne_none_iff_exists'.1 hkind
  obtain ⟨cond, hc⟩ := Option.ne_none_iff_exists'.1 hcond
  refine ⟨kind, cond, ?_, code_of_zoneKindOf hk, code_of_zoneCondOf hc⟩
  simp only [zoneOf, hk, hc, if_neg horder, zoneWritten, clampNat_zero]

/-! ### ZONE_WRITE and ZONE_ENABLE -/

theorem keeps_setZone (index : Nat) (e : ZoneEntry) (s : State) : Keeps [.perm] s (setZone index e s) := keeps_withPerm _ s

theorem entries_setZone (index : Nat) (e : ZoneEntry) (s : State) :
    (setZone index e s).perm.zones.map Zone.entry = (s.perm.zones.map Zone.entry).set index e := List.map_set

/-- A ZONE_WRITE that is accepted: the zone is replaced, and the end of the step evaluates it. -/
theorem zoneWrite_accepted {index : Nat} {z : ZoneArgs} {e : ZoneEntry} {s : State} (hvalid : ¬ 1 < z.valid)
    (hstate : s.link.state = .config) (hindex : ¬ 15 < index) (he : zoneOf z = some e) :
    zoneWrite index z s = (setZone index e s, .okWith []) := by
  simp [zoneWrite, hvalid, hstate, hindex, he]

theorem getLsbD_switchesAfter (switches change on : BitVec 8) (i : Nat) : (switchesAfter switches change on).getLsbD i =
    if change.getLsbD i then on.getLsbD i else switches.getLsbD i := by
  unfold switchesAfter
  by_cases hi : i < 8
  · simp only [BitVec.getLsbD_or, BitVec.getLsbD_and, BitVec.getLsbD_not, hi, decide_true, Bool.true_and]
    cases change.getLsbD i <;> simp
  · have hi' : 8 ≤ i := Nat.le_of_not_lt hi
    simp [BitVec.getLsbD_of_ge, hi']

/-- Settles O53: the checks of a ZONE_WRITE in their order, then the entry it makes; and the switches after a ZONE_ENABLE. -/
theorem zoneRequestsSetZonesAndSwitches : Obligations.ZoneRequestsSetZonesAndSwitches := by
  refine ⟨fun index z s hrun => ?_, fun change on s hrun => ?_⟩
  · have hrefused {r : Status} (hr : r ≠ .ok) (hbody : zoneWrite index z s = (s, .err r)) :
        Answers (.zoneWrite index z) (.err r) s := congrArg Host.Outcome.next (request_of_answer hrun hbody hr)
    dsimp only
    by_cases hvalid : 1 < z.valid
    · rw [if_pos hvalid]
      exact hrefused (by decide) (if_pos hvalid)
    rw [if_neg hvalid]
    by_cases hstate : s.link.state ≠ .config
    · rw [if_pos hstate]
      exact hrefused (by decide) ((if_neg hvalid).trans (if_pos hstate))
    rw [if_neg hstate]
    split
    next hbad =>
      refine hrefused (by decide) ((if_neg hvalid).trans ((if_neg hstate).trans ?_))
      split
      · rfl
      next hindex =>
        rw [zoneOf_of_refused (by simpa only [ZoneRefused, or_assoc] using hbad.resolve_left hindex)]
    next hgood =>
      obtain ⟨hindex, hgood⟩ := not_or.1 hgood
      obtain ⟨kind, cond, he, hkind, hcond⟩ := zoneOf_of_good (z := z) (by simpa only [ZoneRefused, or_assoc] using hgood)
      have hbody := zoneWrite_accepted hvalid (not_not.1 hstate) hindex he
      obtain ⟨hswitches, hnow, hprev, hspeed, hentries⟩ :=
        (keeps_settle (setZone index (zoneWritten z kind cond) s)).2 .perm (by simp)
      refine ⟨_, kind, cond, congrArg Host.Outcome.next (request_of_acceptance hrun hbody), hkind, hcond,
        hentries.trans (entries_setZone ..), hswitches, hnow, hprev, hspeed, ?_⟩
      exact accepts_settle (keeps_setZone ..) (notices_of_eq rfl) rfl
  · let b := s.withPerm { s.perm with switches := switchesAfter s.perm.switches change on }
    obtain ⟨hswitches, hnow, hprev, hspeed, hentries⟩ := (keeps_settle b).2 .perm (by simp)
    refine ⟨_, congrArg Host.Outcome.next (request_of_acceptance (t := b) hrun rfl), fun i => ?_, hentries, hnow, hprev, hspeed, ?_⟩
    · rw [respond_perm, hswitches]
      exact getLsbD_switchesAfter ..
    · rw [respond_perm, hswitches]
      exact accepts_settle (keeps_withPerm ..) (notices_of_eq rfl) rfl

end Sys2Proof.Machine
end

section
/-! PROOFS. The held levels (R76 to R82, R84 to R86, R90, R92, R94): the table of R78, the gap and the required distance of an entry, an
end limit and a zone as the statement writes them, and which commands evaluate the end limits and the zones. -/

namespace Sys2Proof.Machine

/-! ### The table of R78 -/

theorem heldStep_eq (c : Cfg) {held : Level} (gap required : Int) (hheld : held ≠ .creep) : heldStep c held gap required =
    if gap ≤ required then .stop
    else if gap ≤ required + c.slowBand then
      (if held = .stop then (if required + c.hysteresis < gap then .slow else .stop) else .slow)
    else if required + c.slowBand + c.hysteresis < gap then .full
    else if held = .stop then (if required + c.hysteresis < gap then .slow else .stop)
    else held := by
  by_cases hstop : gap ≤ required
  · have hplain : plainLevel c gap required = .stop := if_pos hstop
    rw [if_pos hstop]
    simp [heldStep, hplain, Level.rank]
  rw [if_neg hstop]
  by_cases hslow : gap ≤ required + c.slowBand
  · have hplain : plainLevel c gap required = .slow := (if_neg hstop).trans (if_pos hslow)
    have hfull : ¬ required + c.slowBand + c.hysteresis < gap := by omega
    rw [if_pos hslow]
    cases held <;> simp_all [heldStep, Level.rank]
  · have hplain : plainLevel c gap required = .full := (if_neg hstop).trans (if_neg hslow)
    rw [if_neg hslow]
    cases held <;> simp_all [heldStep, Level.rank]

theorem Level.rank_le_full (l : Level) : l.rank ≤ Level.full.rank := by cases l <;> decide

/-- R78: the held level does not lie above the plain level. -/
theorem heldStep_rank_le (c : Cfg) {held : Level} (gap required : Int) (hheld : held ≠ .creep) :
    (heldStep c held gap required).rank ≤ (plainLevel c gap required).rank := by
  rw [heldStep_eq c gap required hheld]
  unfold plainLevel
  split
  · exact le_rfl
  · split
    · split
      · split <;> decide
      · exact le_rfl
    · exact Level.rank_le_full _

/-! ### The evaluation of an entry (R79, R80, R82) -/

/-- R79, R80, R82: an evaluation writes the held level of the side of the entry, and sets the other to FULL. -/
theorem evalEntry_eq (s : State) (e : Entry) : evalEntry s e = { e with
    heldPlus := if onPlusSide s e then heldStep s.cfg e.heldPlus (entryGap s e) (entryRequired s e) else .full
    heldMinus := if onPlusSide s e then .full else heldStep s.cfg e.heldMinus (entryGap s e) (entryRequired s e) } := by
  unfold evalEntry
  split <;> rfl

theorem entryGap_eq (s : State) (e : Entry) : entryGap s e =
    (if onPlusSide s e then (e.report.bridgePos - e.report.minusExtent) - (s.pos.bridge.current + s.cfg.plusExtent)
      else (s.pos.bridge.current - s.cfg.minusExtent) - (e.report.bridgePos + e.report.plusExtent)) - drift s.cfg e := by
  unfold entryGap
  split <;> rfl

theorem peerSpeedToward_eq (s : State) (e : Entry) : peerSpeedToward s e =
    if e.state = .fresh then max 0 (if onPlusSide s e then -e.report.bridgeSpeed else e.report.bridgeSpeed) else s.cfg.vmax := by
  unfold peerSpeedToward
  split
  · split <;> rfl
  · rfl

theorem entryRequired_eq (s : State) (e : Entry) : entryRequired s e =
    ownStopping s (if onPlusSide s e then .bridgePlus else .bridgeMinus) +
      stoppingDistance s.cfg s.cfg.aBridge (peerSpeedToward s e) + s.cfg.margin := by
  unfold entryRequired ownSpeedToward
  split <;> rfl

/-! ### The evaluation of a zone (R86, R90, R92, R94) -/

theorem overlapsBridge_eq (s : State) (z : ZoneEntry) : overlapsBridge s z =
    decide (s.pos.bridge.current - radius s ≤ z.bridgeMax ∧ (z.bridgeMin : Int) ≤ s.pos.bridge.current + radius s) := by
  rw [overlapsBridge, Bool.decide_and]

theorem overlapsTrolley_eq (s : State) (z : ZoneEntry) : overlapsTrolley s z =
    decide (s.pos.trolley.current - radius s ≤ z.trolleyMax ∧ (z.trolleyMin : Int) ≤ s.pos.trolley.current + radius s) := by
  rw [overlapsTrolley, Bool.decide_and]

theorem zoneActs_eq (s : State) (z : ZoneEntry) : zoneActs s z = (zoneActive s z && match z.kind with
    | .keepOut => true
    | .loadedKeepOut => decide (s.weigh.load = .loaded)
    | .clearance => decide (s.weigh.load = .loaded ∧ clearanceHeight s < z.clearance)
    | .slowArea => false) := by
  unfold zoneActs
  cases z.kind
  case clearance => rw [Bool.decide_and]
  all_goals rfl

theorem zoneInside_eq (s : State) (z : ZoneEntry) :
    zoneInside s z = (zoneActs s z && overlapsBridge s z && overlapsTrolley s z) := by
  rw [zoneInside, overlaps, Bool.and_assoc]

/-- R90, R92, R94: the held level of a direction of a zone: FULL inside and while the direction is not under test. -/
theorem zoneHeld_eq (s : State) (z : ZoneEntry) (d : Dir) (held : Level) : zoneHeld s z d held =
    let test (beside : Bool) (gap : Int) : Level :=
      if zoneActs s z && beside && decide (0 < gap) then heldStep s.cfg held gap (ownStopping s d + s.cfg.margin) else .full
    if zoneInside s z then .full
    else
      match d with
      | .bridgePlus => test (overlapsTrolley s z) (z.bridgeMin - (s.pos.bridge.current + radius s))
      | .bridgeMinus => test (overlapsTrolley s z) ((s.pos.bridge.current - radius s) - z.bridgeMax)
      | .trolleyPlus => test (overlapsBridge s z) (z.trolleyMin - (s.pos.trolley.current + radius s))
      | .trolleyMinus => test (overlapsBridge s z) ((s.pos.trolley.current - radius s) - z.trolleyMax)
      | .hoistUp => .full
      | .hoistDown =>
        if zoneActive s z && decide (z.kind = .clearance ∧ s.weigh.load = .loaded) && overlaps s z then
          heldStep s.cfg held (clearanceHeight s - z.clearance) (ownStopping s .hoistDown + s.cfg.margin)
        else .full := by
  have htest {p : Prop} [Decidable p] {b : Bool} (gap : Int) (h : b = true ↔ p) :
      (match (if p then some gap else none) with
        | none => Level.full
        | some gap => heldStep s.cfg held gap (ownStopping s d + s.cfg.margin)) =
      if b then heldStep s.cfg held gap (ownStopping s d + s.cfg.margin) else .full := by
    by_cases hp : p <;> simp [h, hp]
  unfold zoneHeld zoneGap
  dsimp only
  by_cases hinside : zoneInside s z = true
  · rw [if_pos hinside, if_pos hinside]
  rw [if_neg hinside, if_neg hinside]
  cases d with
  | hoistUp => rfl
  | bridgePlus | bridgeMinus | trolleyPlus | trolleyMinus => exact htest _ (by simp [and_assoc])
  | hoistDown => exact htest _ (by simp [and_assoc])

/-! ### The commands that evaluate the end limits and the zones (R76, R84, R86, R88, R89, R94) -/

/-- The end limits and the zones of a step that evaluates them on the state it leaves, from those it began with; the zones named by
`fresh` are written anew and start from FULL. -/
structure EvaluatedFrom (fresh : Nat → Bool) (s t : State) : Prop where
  limits (d : Dir) : t.perm.limits.get d = if (axisOf t d).state = .valid then
    heldStep t.cfg (s.perm.limits.get d) (limitGap t d) (ownStopping t d) else .full
  length : t.perm.zones.length = s.perm.zones.length
  zone (i : Nat) (old z : Zone) : s.perm.zones[i]? = some old → t.perm.zones[i]? = some z →
    ∃ start, z = evalZone t start ∧ if fresh i then start = Zone.fresh start.entry else start = old

theorem EvaluatedFrom.respond {fresh : Nat → Bool} {s t : State} (h : EvaluatedFrom fresh s t) (r : Reply) :
    EvaluatedFrom fresh s (respond r t) := ⟨h.limits, h.length, h.zone⟩

theorem evaluatedFrom_settle {s b : State} (h : standingOf b = standingOf s) : EvaluatedFrom (fun _ => false) s (settle b) where
  limits d := by
    have hlimits : b.perm.limits = s.perm.limits := congrArg Standing.limits h
    rw [settle_limits, hlimits]
  length := by
    have hzones : b.perm.zones = s.perm.zones := congrArg Standing.zones h
    rw [settle_zones, List.length_map, hzones]
  zone i old z hold hz := by
    have hzones : b.perm.zones = s.perm.zones := congrArg Standing.zones h
    rw [settle_zones, List.getElem?_map, hzones, hold] at hz
    exact ⟨old, (Option.some.inj hz).symm, rfl⟩

/-- R87, R94: the zone written starts from FULL, and every other keeps its entry. -/
theorem evaluatedFrom_setZone (index : Nat) (e : ZoneEntry) (s : State) :
    EvaluatedFrom (fun i => decide (index = i)) s (settle (setZone index e s)) where
  limits d := by rw [settle_limits]; rfl
  length := by rw [settle_zones, List.length_map]; exact List.length_set
  zone i old z hold hz := by
    have hset : (setZone index e s).perm.zones = s.perm.zones.set index (Zone.fresh e) := rfl
    have hlength : i < s.perm.zones.length := (List.getElem?_eq_some_iff.1 hold).1
    rw [settle_zones, List.getElem?_map, hset, List.getElem?_set] at hz
    by_cases hi : index = i
    · rw [if_pos hi, if_pos (hi ▸ hlength)] at hz
      exact ⟨Zone.fresh e, (Option.some.inj hz).symm, by rw [if_pos (decide_eq_true hi)]; rfl⟩
    · rw [if_neg hi, hold] at hz
      exact ⟨old, (Option.some.inj hz).symm, by rw [if_neg (by simpa using hi)]⟩

/-- The reply held is OK. -/
def replyOk (t : State) : Bool := t.port.reply.any fun r => r.status == .ok

theorem status_of_replyOk {body : State → State × Reply} {s : State} (hrun : Running s) (hok : replyOk (request body s) = true) :
    (body s).2.status = .ok := by
  simpa [replyOk, request, hrun, Machine.respond] using hok

theorem evaluatedFrom_request {body : State → State × Reply} {s : State} (h : Answered s (body s)) (hrun : Running s)
    (hok : replyOk (request body s) = true) : EvaluatedFrom (fun _ => false) s (request body s) := by
  rw [request_of_ok body hrun (status_of_replyOk hrun hok)]
  refine (evaluatedFrom_settle ?_).respond _
  generalize body s = p at h
  cases h with
  | unchanged r => rfl
  | of_standing payload h => exact h

theorem evaluatedFrom_zoneWrite {index : Nat} {z : ZoneArgs} {s : State} (hrun : Running s)
    (hok : replyOk (request (zoneWrite index z) s) = true) :
    EvaluatedFrom (fun i => decide (index = i)) s (request (zoneWrite index z) s) := by
  have hstatus := status_of_replyOk hrun hok
  obtain ⟨st, hst, h⟩ | ⟨e, h⟩ := zoneWrite_cases index z s
  · rw [h] at hstatus
    exact absurd hstatus hst
  · rw [request_of_acceptance hrun h]
    exact (evaluatedFrom_setZone index e s).respond _

theorem evaluatedFrom_event {body : State → State} {s : State} (hrun : Running s) (h : standingOf (body s) = standingOf s) :
    EvaluatedFrom (fun _ => false) s (event body s) := by
  rw [event_of_running body hrun]
  exact evaluatedFrom_settle h

/-- The zones that a command writes anew. -/
def zonesWritten (c : Instr) (i : Nat) : Bool :=
  match c with
  | .zoneWrite index _ => decide (index = i)
  | _ => false

/-- The commands that evaluate the end limits and the zones, by whether they are accepted. -/
def Evaluates (c : Instr) (accepted : Bool) : Prop :=
  match c with
  | .positionSample | .markEdge _ | .weighingCycle _ _ _ _ | .truckArriveReceived _ _ _ _ _ _
  | .truckDepartReceived _ _ _ => True
  | .posReference _ _ | .zoneEnable _ _ | .zoneWrite _ _ | .truckArrive _ _ _ _ _ | .truckDepart _ => accepted = true
  | _ => (cfgItem c).isSome = true ∧ accepted = true

theorem exec_evaluatedFrom (c : Instr) {s : State} (hrun : Running s) :
    ∃ t, exec c s = .next t ∧ (Evaluates c (replyOk t) → EvaluatedFrom (zonesWritten c) s t) := by
  have hevent {body : State → State} (h : standingOf (body s) = standingOf s) :=
    evaluatedFrom_event hrun h
  cases c
  case positionSample => exact ⟨_, rfl, fun _ => hevent (standingOf_positionSample s)⟩
  case markEdge m => exact ⟨_, rfl, fun _ => hevent (standingOf_markEdge m s)⟩
  case weighingCycle coarseA fineA coarseB fineB =>
    exact ⟨_, rfl, fun _ => hevent (standingOf_weighingCycle coarseA fineA coarseB fineB s)⟩
  case truckArriveReceived sender bay truckRef o x offsets =>
    exact ⟨_, rfl, fun _ => hevent (standingOf_receiveFrame (standingOf_takeArrive sender bay truckRef o _ _) s)⟩
  case truckDepartReceived sender bay truckRef =>
    exact ⟨_, rfl, fun _ => hevent (standingOf_receiveFrame (standingOf_takeDepart bay truckRef) s)⟩
  case posReference axis position => exact ⟨_, rfl, evaluatedFrom_request (answered_posReference axis position s) hrun⟩
  case zoneEnable change on => exact ⟨_, rfl, evaluatedFrom_request (answered_zoneEnable change on s) hrun⟩
  case zoneWrite index z => exact ⟨_, rfl, evaluatedFrom_zoneWrite hrun⟩
  case truckArrive bay truckRef orientation x offsets =>
    exact ⟨_, rfl, evaluatedFrom_request (answered_truckArrive bay truckRef orientation x offsets s) hrun⟩
  case truckDepart bay => exact ⟨_, rfl, evaluatedFrom_request (answered_truckDepart bay s) hrun⟩
  case cfgWrite | cfgWriteStationId | cfgWriteBeat | cfgWriteGeometry | cfgWriteWeighing | cfgWriteBay =>
    exact ⟨_, rfl, fun hc => evaluatedFrom_request (answered_cfgWriteBody _ _ s) hrun hc.2⟩
  all_goals exact ⟨_, rfl, fun hc => by cases hc.1⟩

/-- Settles O58: the table of R78, the evaluation of an entry, and the end limits and zones after the commands that evaluate them. -/
theorem heldLevelFollowsTheGap : Obligations.HeldLevelFollowsTheGap := by
  refine ⟨fun c held gap required hheld => ⟨rfl, heldStep_eq c gap required hheld, heldStep_rank_le c gap required hheld⟩, ?_⟩
  intro t c up stopping B T toward ownStop endGap R H overBridge overTrolley acts zoneLevel
  have hR : R = radius t := (radius_eq t).symm
  have hstop (d : Dir) : ownStop d = ownStopping t d := by cases d <;> rfl
  have hend (d : Dir) : endGap d = limitGap t d := by cases d <;> rfl
  have hbridge (z : ZoneEntry) : overBridge z = overlapsBridge t z := by
    rw [overlapsBridge_eq, ← hR]
  have htrolley (z : ZoneEntry) : overTrolley z = overlapsTrolley t z := by
    rw [overlapsTrolley_eq, ← hR]
  have hacts (z : ZoneEntry) : acts z = zoneActs t z := by
    rw [zoneActs_eq]
    rfl
  have hlevel (z : ZoneEntry) (d : Dir) (held : Level) : zoneLevel z d held = zoneHeld t z d held := by
    rw [zoneHeld_eq]
    simp only [zoneLevel, hacts, hbridge, htrolley, hstop, hR, zoneInside_eq, overlaps, Bool.and_assoc]
    cases d <;> rfl
  refine ⟨fun e => ?_, ?_⟩
  · rw [evalEntry_eq, entryGap_eq, entryRequired_eq, peerSpeedToward_eq, ← hstop]
    rfl
  · intro c' s hrun hexec accepted hc fresh
    obtain ⟨t', ht', hevaluated⟩ := exec_evaluatedFrom c' hrun
    obtain rfl : t' = t := Host.Outcome.next.inj (ht'.symm.trans hexec)
    obtain ⟨hlimits, hlength, hzone⟩ := hevaluated hc
    refine ⟨fun d => ?_, hlength, ?_⟩
    · rw [hend, hstop]
      exact hlimits d
    · intro i old z hold hz before
      obtain ⟨start, rfl, hstart⟩ := hzone i old z hold hz
      have hfresh : fresh i = zonesWritten c' i := rfl
      simp only [before, hlevel, hacts, hbridge, htrolley, hfresh, ← zoneInside_eq]
      cases hw : zonesWritten c' i with
      | true =>
        rw [if_pos hw] at hstart
        rw [hstart]
        exact ⟨fun h => absurd h (by decide), rfl⟩
      | false =>
        obtain rfl : start = old := by simpa [hw] using hstart
        exact ⟨fun _ => rfl, rfl⟩

end Sys2Proof.Machine
end

section
/-! PROOFS. START and RETARGET rounds begun by a request (R131 to R133, R152, R167): the tests of a claim as the statements list
them, what a started round leaves, and the claims about TASK_START and TASK_RETARGET. -/

namespace Sys2Proof.Machine

/-! ### The tests of a claim (R108 to R110, R131, R132, R190) -/

theorem firstFailing_nil : firstFailing [] = none := rfl

/-- The first test of a list decides, or the rest do. -/
theorem firstFailing_cons (b : Bool) (r : Reply) (rest : List (Bool × Reply)) :
    firstFailing ((b, r) :: rest) = if b then some r else firstFailing rest := by
  cases b <;> rfl

theorem isUpper_eq_false_iff (column : Nat) : isUpper column = false ↔ column % 2 = 0 := by
  simp only [isUpper, decide_eq_false_iff_not]
  omega

/-- A reference outside the geometry counts as EMPTY (R102). -/
theorem contentAt_of_columns_le {s : State} {g : Geometry} {row column : Nat} (hg : s.cfg.geometry = some g)
    (h : columns g ≤ column) : contentAt s row column = .empty := by
  have hindex : slotIndex g row column = none := by
    rw [slotIndex, if_neg]
    omega
  simp [contentAt, slotAt, hg, hindex]

/-- R108: what lies on a lower slot, as the statements ask it. -/
theorem mayPick_eq {s : State} {row column : Nat} (h : isSlot s row column) : mayPick s row column =
    !(decide (column % 2 = 0) && (decide (0 < column ∧ contentAt s row (column - 1) ≠ .empty) ||
      decide (contentAt s row (column + 1) ≠ .empty))) := by
  obtain ⟨r, hr⟩ := Option.isSome_iff_exists.1 h
  obtain ⟨g, i, hg, -, -⟩ := slotAt_eq_some_iff.1 hr
  simp only [mayPick, hg]
  cases hupper : isUpper column with
  | true =>
    have hodd : ¬ column % 2 = 0 := by simpa [isUpper] using hupper
    simp [hodd]
  | false =>
    have heven := (isUpper_eq_false_iff column).1 hupper
    have hright : column + 1 < columns g ∨ contentAt s row (column + 1) = .empty :=
      (Nat.lt_or_ge (column + 1) (columns g)).imp id (contentAt_of_columns_le hg)
    rcases Nat.eq_zero_or_pos column with rfl | hpos
    · rcases hright with hlt | hempty
      · simp_all [uppersOn, isUpper]
      · by_cases hlt : 0 + 1 < columns g <;> simp_all [uppersOn, isUpper]
    · have hne : column ≠ 0 := by omega
      rcases hright with hlt | hempty
      · simp_all [uppersOn]
      · by_cases hlt : column + 1 < columns g <;> simp_all [uppersOn]

/-- R131: the tests of a source, as a list. -/
theorem sourceRefusal_eq (s : State) (source : Ref) (coil : CoilId) :
    sourceRefusal s source coil = firstFailing (sourceTests s source coil) := by
  cases source with
  | cradle => rfl
  | slot row column =>
    simp only [sourceRefusal, sourceTests, firstFailing_cons, firstFailing_nil]
    cases hr : slotAt s row column with
    | none => simp
    | some r =>
      have hpick := mayPick_eq (s := s) (row := row) (column := column) (by rw [isSlot, hr]; rfl)
      rw [contentAt_of_slotAt hr]
      obtain ⟨content, source⟩ := r
      cases content with
      | occupied c =>
        by_cases hcoil : c.coil = coil
        · simp only [isOccupied, isReservedOut, slotCoil, hcoil, hpick]
          cases decide (column % 2 = 0) && (decide (0 < column ∧ contentAt s row (column - 1) ≠ .empty) ||
            decide (contentAt s row (column + 1) ≠ .empty)) <;> simp [hcoil]
        · simp [isOccupied, isReservedOut, slotCoil, hcoil]
      | _ => simp [isOccupied, isReservedOut]

theorem lowerBears_eq (c : SlotContent) (W : Nat) :
    lowerBears c W = ((slotCoil c).bind CoilInfo.weight).any fun v => decide (W ≤ v) := by
  unfold lowerBears
  cases slotCoil c with
  | none => rfl
  | some i => cases hw : i.weight <;> simp [hw]

theorem lowerFits_eq (c : SlotContent) (w : Nat) :
    lowerFits c w = ((slotCoil c).bind CoilInfo.width).any fun v => decide (v ≤ w + 1 ∧ w ≤ v + 1) := by
  unfold lowerFits
  cases slotCoil c with
  | none => rfl
  | some i => cases hw : i.width <;> simp [hw]

/-- R110: the weight part, as the statements ask it. -/
theorem weightRulePasses_eq (s : State) (row column : Nat) (weight : Option Nat) : weightRulePasses s row column weight =
    lowersPass s row column CoilInfo.weight (fun W v => decide (W ≤ v)) weight := by
  cases weight with
  | none => rfl
  | some W => simp only [weightRulePasses, lowersPass, lowerPasses, lowerBears_eq]

/-- R110: the width part, as the statements ask it. -/
theorem widthRulePasses_eq (s : State) (row column : Nat) (width : Option Nat) : widthRulePasses s row column width =
    lowersPass s row column CoilInfo.width (fun w v => decide (v ≤ w + 1 ∧ w ≤ v + 1)) width := by
  cases width with
  | none => rfl
  | some w => simp only [widthRulePasses, lowersPass, lowerPasses, lowerFits_eq]

/-- R132: the tests of a target, as a list. -/
theorem targetRefusal_eq (s : State) (source target : Ref) (weight width : Option Nat) :
    targetRefusal s source target weight width = firstFailing (targetTests s source target weight width) := by
  cases target with
  | slot row column =>
    simp only [targetRefusal, targetTests, firstFailing_cons, firstFailing_nil, weightRulePasses_eq, widthRulePasses_eq]
    cases hr : slotAt s row column with
    | none => simp
    | some r =>
      rw [contentAt_of_slotAt hr]
      obtain ⟨content, source⟩ := r
      cases content with
      | empty =>
        by_cases hupper : column % 2 = 1 <;>
          simp [hupper, isUpper, holdsNothing, restsOn, bothLowersOccupied, Bool.decide_or]
      | _ => simp [holdsNothing]
  | cradle bay index =>
    simp only [targetRefusal, targetTests, firstFailing_cons, firstFailing_nil, cradleAt]
    by_cases hrange : 1 < bay ∨ 5 < index
    · simp [hrange]
    · cases hb : bayRecord s bay with
      | none => simp [hrange]
      | some b =>
        cases hclosed : b.closed with
        | true => simp [hrange, hclosed]
        | false =>
          cases hk : b.cradles[index]? with
          | none => simp [hrange, hclosed, hk]
          | some k =>
            cases hc : k.content with
            | free =>
              cases weight with
              | none => simp [hrange, hclosed, hk, hc, CradleContent.code]
              | some W => cases hfits : plannedFits b k W <;> simp [hrange, hclosed, hk, hc, CradleContent.code, plannedPasses_eq, hfits]
            | _ => simp [hrange, hclosed, hk, hc, CradleContent.code]

/-- A target that a round may reserve: an EMPTY slot, or a FREE cradle of a LOADING record. -/
def TargetFree (s : State) : Ref → Prop
  | .slot row column => isSlot s row column ∧ contentAt s row column = .empty
  | .cradle bay index => cradleContent s bay index = some .free ∧ bayLoading s bay = true

/-- R132: a target that passes its tests is free. -/
theorem targetFree_of_passes {s : State} {source target : Ref} {weight width : Option Nat}
    (h : targetRefusal s source target weight width = none) : TargetFree s target := by
  unfold targetRefusal at h
  cases target with
  | slot row column =>
    cases hr : slotAt s row column with
    | none => simp [hr] at h
    | some r =>
      obtain ⟨content, source⟩ := r
      refine ⟨by rw [isSlot, hr]; rfl, ?_⟩
      rw [contentAt_of_slotAt hr]
      cases content with
      | empty => rfl
      | _ => simp [hr] at h
  | cradle bay index =>
    dsimp only at h
    split at h
    · cases h
    · cases hb : bayRecord s bay with
      | none => simp [hb] at h
      | some b =>
        cases hclosed : b.closed with
        | true => simp [hb, hclosed] at h
        | false =>
          refine ⟨?_, by simp [bayLoading, hb, hclosed]⟩
          cases hk : b.cradles[index]? with
          | none => simp [hb, hclosed, hk] at h
          | some k =>
            rw [cradleContent_of_bayRecord hb hk]
            obtain ⟨offset, content⟩ := k
            cases content with
            | free => rfl
            | _ => simp [hb, hclosed, hk] at h

/-- R131: a source that passes its tests is an OCCUPIED slot that holds the coil. -/
theorem occupied_of_passes {s : State} {row column : Nat} {coil : CoilId}
    (h : sourceRefusal s (.slot row column) coil = none) :
    isSlot s row column ∧ ∃ i, contentAt s row column = .occupied i ∧ i.coil = coil := by
  unfold sourceRefusal at h
  cases hr : slotAt s row column with
  | none => simp [hr] at h
  | some r =>
    obtain ⟨content, source⟩ := r
    refine ⟨by rw [isSlot, hr]; rfl, ?_⟩
    rw [contentAt_of_slotAt hr]
    cases content with
    | occupied i =>
      refine ⟨i, rfl, ?_⟩
      by_contra hcoil
      simp [hr, hcoil] at h
    | _ => simp [hr] at h

/-! ### The reservations of a round (R133) -/

/-- A reference that a round may reserve: not reserved, and a cradle in a LOADING record and inward. -/
def Claimable (s : State) (e : ClaimEntry) : Prop :=
  resvAt s e.ref = none ∧ ∀ bay index, e.ref = .cradle bay index → e.dir = .inward ∧ bayLoading s bay = true

/-- R133: an own reservation is made as a peer's claim of a free reference is recorded. -/
theorem recorded_reserveRef {v : Reservation} {source : ChangeSource} {e : ClaimEntry} {s : State} (h : Claimable s e) :
    Recorded v source [e] s (reserveRef e.dir v source e.ref s) := by
  obtain ⟨hnone, hcradle⟩ := h
  cases href : e.ref with
  | slot row column =>
    suffices hform : reserveRef e.dir v source (.slot row column) s = claimSlot v source e.dir row column s from
      hform ▸ recorded_claimSlot href
    rw [href, resvAt_slot] at hnone
    unfold reserveRef claimSlot
    cases hr : slotAt s row column with
    | none =>
      have hempty : contentAt s row column = .empty := by simp [contentAt, hr]
      simp only [hempty]
      cases e.dir with
      | inward => exact setSlot_of_not_isSlot _ hr
      | outward => rfl
    | some r =>
      have hself : setSlot row column r s = s := setSlot_self hr
      rw [contentAt_of_slotAt hr] at hnone
      simp only [contentAt_of_slotAt hr]
      obtain ⟨content, src⟩ := r
      cases content with
      | reservedIn w | reservedOut _ w => exact absurd hnone (by simp [slotResv])
      | empty | occupied _ => cases e.dir <;> simp [slotResv, SlotRecord.claimed, SlotContent.claimed, hself]
      | _ => simp [slotResv, SlotRecord.claimed, SlotContent.claimed, hself]
  | cradle bay index =>
    obtain ⟨hdir, hloading⟩ := hcradle bay index href
    suffices hform : reserveRef e.dir v source (.cradle bay index) s = claimCradle v bay index s from
      hform ▸ recorded_claimCradle href
    rw [href, resvAt_cradle] at hnone
    unfold reserveRef claimCradle
    cases hk : cradleAt s bay index with
    | none => simp [hk]
    | some k =>
      have hself : setCradle bay index k.content s = s := setCradle_self hk
      obtain ⟨offset, content⟩ := k
      simp only [hk, Option.bind_some] at hnone
      cases content with
      | reserved w => exact absurd hnone (by simp [cradleResv])
      | free => simp [hk, hdir, hloading, CradleContent.claimed]
      | occupied _ _ _ => simp [hk, hdir, CradleContent.claimed, hself]

theorem claimable_of_recorded {v : Reservation} {source : ChangeSource} {e x : ClaimEntry} {s t : State}
    (h : Recorded v source [e] s t) (hne : x.ref ≠ e.ref) (hx : Claimable s x) : Claimable t x := by
  obtain ⟨hnone, hcradle⟩ := hx
  refine ⟨?_, fun bay index href => ?_⟩
  · rw [← hnone]
    cases href : x.ref with
    | slot row column =>
      rw [resvAt_slot, resvAt_slot, h.otherContent (by simpa [href] using hne)]
    | cradle bay index =>
      rw [resvAt_cradle, resvAt_cradle, h.otherCradle bay index (by simpa [href] using hne)]
  · rw [h.facts.bayLoading]
    exact hcradle bay index href

/-- R133: the references of a round, reserved one after the other. -/
theorem recorded_reserveRefs {v : Reservation} {source : ChangeSource} {entries : List ClaimEntry} {s : State}
    (h : ∀ e ∈ entries, Claimable s e) (hdistinct : (entries.map ClaimEntry.ref).Nodup) :
    Recorded v source entries s (entries.foldl (fun s e => reserveRef e.dir v source e.ref s) s) := by
  induction entries generalizing s with
  | nil => exact .nil s
  | cons e es ih =>
    obtain ⟨hhead, htail⟩ := List.nodup_cons.1 hdistinct
    have hfirst : Recorded v source [e] s (reserveRef e.dir v source e.ref s) :=
      recorded_reserveRef (h e (List.mem_cons_self ..))
    refine hfirst.cons (ih (fun x hx => ?_) htail) hhead
    exact claimable_of_recorded hfirst (fun hsame => hhead (hsame ▸ List.mem_map_of_mem hx)) (h x (List.mem_cons_of_mem _ hx))

/-- The claim engine after a round has been started (R133). -/
def startedClaims (purpose : Purpose) (priority : Nat) (entries : List ClaimEntry) (s : State) : ClaimEngine :=
  { s.claims with
    counter := nextRound s
    round := some { number := nextRound s, purpose := purpose, priority := priority, entries := entries,
                    stage := .queued, windowTime := 0 } }

/-- The link record with the CLAIM of a started round queued (R133). -/
def startedLink (priority : Nat) (entries : List ClaimEntry) (s : State) : Link :=
  { s.link with
    boxes := { s.link.boxes with claim := some { round := nextRound s, priority := priority, entries := entries } } }

/-- R133: a round started on claimable references. -/
theorem startRound_spec {purpose : Purpose} {priority : Nat} {entries : List ClaimEntry} {s : State}
    (h : ∀ e ∈ entries, Claimable s e) (hdistinct : (entries.map ClaimEntry.ref).Nodup) :
    let t := startRound purpose priority entries s
    ClaimsRecorded (newReservation s priority) .own entries s t ∧ t.claims = startedClaims purpose priority entries s ∧
      t.link = startedLink priority entries s ∧ t.tracker = s.tracker ∧ t.notices = s.notices ∧
      Keeps [.map, .trucks, .claims, .link] s t := by
  have hrecorded := recorded_reserveRefs (v := newReservation s priority) (source := .own) h hdistinct
  have hform : startRound purpose priority entries s = queueRound purpose priority entries
    (entries.foldl (fun u e => reserveRef e.dir (newReservation s priority) .own e.ref u) s) := rfl
  rw [hform]
  generalize entries.foldl (fun u e => reserveRef e.dir (newReservation s priority) .own e.ref u) s = u at hrecorded ⊢
  have hclaims : u.claims = s.claims := hrecorded.keeps.2 .claims (by simp)
  have hlink : u.link = s.link := hrecorded.keeps.2 .link (by simp)
  have hnext : nextRound u = nextRound s := by rw [nextRound, hclaims]; rfl
  have hqueued : Keeps [.claims, .link] u (queueRound purpose priority entries u) :=
    ⟨rfl, fun b hb => by cases b <;> simp_all [SameBlock, queueRound]⟩
  refine ⟨hrecorded.toClaimsRecorded.between rfl rfl ?_ (bayRecord_of_keeps hqueued), ?_, ?_, ?_, ?_,
    hrecorded.keeps.andThen hqueued⟩
  · exact slotAt_congr (hqueued.2 .cfg (by simp)) (hqueued.2 .map (by simp))
  · simp only [startedClaims, ← hnext, ← hclaims]
    rfl
  · simp only [startedLink, ← hnext, ← hlink]
    rfl
  · exact (hqueued.2 .tracker (by simp)).trans (hrecorded.keeps.2 .tracker (by simp))
  · exact hrecorded.notices

/-! ### A target reserved (R105, R133) -/

/-- R105, R133: the target of a round is reserved, and what was free of it. -/
def TargetReserved (v : Reservation) (s t : State) : Ref → Prop
  | .slot r k => contentAt s r k = .empty ∧ contentAt t r k = .reservedIn v ∧ sourceAt t r k = some .own
  | .cradle bay index => cradleContent s bay index = some .free ∧ cradleContent t bay index = some (.reserved v)

theorem claimable_of_targetFree {s : State} {target : Ref} (h : TargetFree s target) :
    Claimable s { ref := target, dir := .inward } := by
  refine ⟨?_, ?_⟩
  · cases target with
    | slot row column => simp only [resvAt_slot, h.2, slotResv]
    | cradle bay index =>
      obtain ⟨k, hk, hc⟩ := Option.map_eq_some_iff.1 h.1
      simp [resvAt_cradle, hk, hc, cradleResv]
  · rintro bay index rfl
    exact ⟨rfl, h.2⟩

theorem targetReserved_of_recorded {v : Reservation} {entries : List ClaimEntry} {s t : State} {target : Ref}
    (h : ClaimsRecorded v .own entries s t) (hmem : { ref := target, dir := .inward } ∈ entries)
    (hfree : TargetFree s target) : TargetReserved v s t target := by
  cases target with
  | slot row column =>
    obtain ⟨hslot, hempty⟩ := hfree
    have hcontent : contentAt t row column = .reservedIn v := by
      rw [h.contentAt hmem rfl hslot, hempty]
      rfl
    refine ⟨hempty, hcontent, ?_⟩
    rw [h.sourceAt, hcontent, hempty]
    rfl
  | cradle bay index =>
    obtain ⟨hcontent, hloading⟩ := hfree
    refine ⟨hcontent, ?_⟩
    rw [h.cradleContent hmem rfl, hcontent, hloading]
    rfl

theorem sourceReserved_of_recorded {v : Reservation} {entries : List ClaimEntry} {s t : State} {row column : Nat} {coil : CoilId}
    {i : CoilInfo} (h : ClaimsRecorded v .own entries s t)
    (hmem : { ref := .slot row column, dir := .outward coil } ∈ entries) (hslot : isSlot s row column)
    (hi : contentAt s row column = .occupied i) :
    contentAt t row column = .reservedOut i v ∧ sourceAt t row column = some .own := by
  have hcontent : contentAt t row column = .reservedOut i v := by
    rw [h.contentAt hmem rfl hslot, hi]
    rfl
  refine ⟨hcontent, ?_⟩
  rw [h.sourceAt, hcontent, hi]
  rfl

/-- A slot that no entry names keeps its content and its source. -/
theorem ClaimsRecorded.slotKept {v : Reservation} {source : ChangeSource} {entries : List ClaimEntry} {s t : State}
    (h : ClaimsRecorded v source entries s t) {row column : Nat} (hne : .slot row column ∉ entries.map ClaimEntry.ref) :
    Machine.contentAt t row column = Machine.contentAt s row column ∧
      Machine.sourceAt t row column = Machine.sourceAt s row column :=
  ⟨h.otherContent hne, sourceAt_congr (h.otherSlot row column hne)⟩

/-! ### The engine's readiness for a round (R129, R131) -/

theorem engineBusy_iff (s : State) : engineBusy s = true ↔
    s.link.boxes.claim.isSome ∨ s.claims.heldRequests ≠ [] ∨ s.claims.round.isSome := by
  simp [engineBusy, or_assoc]

theorem status_of_firstFailing_targetTests {s : State} {source target : Ref} {weight width : Option Nat} {r : Reply}
    (h : firstFailing (targetTests s source target weight width) = some r) : r.status ≠ .ok := by
  obtain ⟨p, hp, rfl⟩ := Option.map_eq_some_iff.1 h
  have hmem := List.mem_of_find?_eq_some hp
  cases target <;> simp only [targetTests, List.mem_cons, List.not_mem_nil, or_false] at hmem <;>
    rcases hmem with rfl | rfl | rfl | rfl | rfl | rfl <;> exact nofun

theorem status_of_firstFailing_sourceTests {s : State} {source : Ref} {coil : CoilId} {r : Reply}
    (h : firstFailing (sourceTests s source coil) = some r) : r.status ≠ .ok := by
  obtain ⟨p, hp, rfl⟩ := Option.map_eq_some_iff.1 h
  have hmem := List.mem_of_find?_eq_some hp
  cases source with
  | slot row column =>
    simp only [sourceTests, List.mem_cons, List.not_mem_nil, or_false] at hmem
    rcases hmem with rfl | rfl | rfl | rfl | rfl <;> exact nofun
  | cradle =>
    obtain rfl := List.mem_singleton.1 hmem
    exact nofun

/-- R133, R153, R167: a request that starts a round on claimable references and sets the tracker, once accepted. -/
theorem startedRound_accepted {purpose : Purpose} {priority : Nat} {entries : List ClaimEntry} {s : State} (x : Tracker)
    (h : ∀ e ∈ entries, Claimable s e) (hdistinct : (entries.map ClaimEntry.ref).Nodup) :
    let b := (startRound purpose priority entries s).withTracker x
    let t := respond (.okWith (be 1 (nextRound s))) (settle b)
    ClaimsRecorded (newReservation s priority) .own entries s t ∧ t.claims = startedClaims purpose priority entries s ∧
      t.link = startedLink priority entries s ∧ t.tracker = x ∧ Accepts lossBlocks [] [] (be 1 (nextRound s)) s t := by
  obtain ⟨hrecorded, hclaims, hlink, -, hnotices, hkeeps⟩ := startRound_spec (purpose := purpose) (priority := priority) h hdistinct
  have hbody := hkeeps.andThen (ds := lossBlocks) (keeps_withTracker x _) (by simp [lossBlocks]) (by simp [lossBlocks])
  have halike := alike_respond_settle (.okWith (be 1 (nextRound s))) ((startRound purpose priority entries s).withTracker x)
  exact ⟨hrecorded.between rfl rfl halike.slotAt halike.bayRecord, halike.claims.trans hclaims, halike.link.trans hlink,
    settle_tracker _, accepts_settle hbody (notices_of_eq hnotices) (hbody.2 .port (by simp [lossBlocks]))⟩

/-! ### TASK_RETARGET (R167) -/

/-- R200: a refused TASK_RETARGET is answered and does nothing else. -/
theorem taskRetarget_answers {target : Ref} {r : Reply} {s : State} (hrun : Running s)
    (h : taskRetarget target s = (s, r)) (hr : r.status ≠ .ok) : Answers (.taskRetarget target) r s := by
  rw [Answers, exec, execTaskRetarget, request_of_answer hrun h hr]

/-- R149, R167: the task record of an accepted TASK_RETARGET. -/
def retargetedTracker (k : Task) (target : Ref) (s : State) : Tracker :=
  { s.tracker with
    task := some { k with
      target := some target, kind := if refIsCradle target then .load else .move, state := .retargeting
      round := nextRound s } }

/-- Settles O48: the checks one after the other, and the RETARGET round on a free target. -/
theorem taskRetargetChecksAndClaims : Obligations.TaskRetargetChecksAndClaims := by
  intro target s hrun c
  cases hk : s.tracker.task with
  | none => exact taskRetarget_answers hrun (by simp only [taskRetarget, hk]) nofun
  | some k =>
    dsimp only
    by_cases hw : k.waiting.isSome = true
    · rw [if_pos hw]
      exact taskRetarget_answers hrun (by simp only [taskRetarget, hk, if_pos hw]) nofun
    by_cases hst : k.state ≠ .targetLost
    · rw [if_neg hw, if_pos hst]
      exact taskRetarget_answers hrun (by simp only [taskRetarget, hk, if_neg hw, if_pos hst]) nofun
    by_cases hactive : s.link.state ≠ .active
    · rw [if_neg hw, if_neg hst, if_pos hactive]
      exact taskRetarget_answers hrun (by simp only [taskRetarget, hk, if_neg hw, if_neg hst, if_pos hactive]) nofun
    rw [if_neg hw, if_neg hst, if_neg hactive]
    refine iteInduction (motive := fun P : Prop => P) (fun hout => ?_) fun hin => ?_
    · have href : refOnLine target = false := by
        cases target <;> simpa [refOnLine, imp_iff_not_or, Nat.not_le] using hout
      exact taskRetarget_answers hrun
        (by simp only [taskRetarget, hk, if_neg hw, if_neg hst, if_neg hactive, if_pos href]) nofun
    have href : ¬ refOnLine target = false := by
      cases target <;> simpa [refOnLine, imp_iff_not_or, Nat.not_le] using hin
    by_cases hbusy : engineBusy s = true
    · rw [if_pos ((engineBusy_iff s).1 hbusy)]
      exact taskRetarget_answers hrun
        (by simp only [taskRetarget, hk, if_neg hw, if_neg hst, if_neg hactive, if_neg href, if_pos hbusy]) nofun
    rw [if_neg (mt (engineBusy_iff s).2 hbusy)]
    have htests := targetRefusal_eq s k.source target k.weight k.width
    cases hrefusal : targetRefusal s k.source target k.weight k.width with
    | some r =>
      rw [← htests, hrefusal]
      exact taskRetarget_answers hrun (by simp only [taskRetarget, hk, if_neg hw, if_neg hst, if_neg hactive, if_neg href,
        if_neg hbusy, hrefusal]) (status_of_firstFailing_targetTests (htests.symm.trans hrefusal))
    | none =>
      rw [← htests, hrefusal]
      have hfree := targetFree_of_passes hrefusal
      have hbody : taskRetarget target s = (beginRetarget k target s, .okWith (be 1 (nextRound s))) := by
        simp only [taskRetarget, hk, if_neg hw, if_neg hst, if_neg hactive, if_neg href, if_neg hbusy, hrefusal]
      obtain ⟨hrecorded, hclaims, hlink, htracker, haccepts⟩ := startedRound_accepted (s := s) (purpose := .retarget)
        (priority := k.priority) (entries := [{ ref := target, dir := .inward }]) (retargetedTracker k target s)
        (by simpa using claimable_of_targetFree hfree) (by simp)
      have hform : beginRetarget k target s = (startRound .retarget k.priority [{ ref := target, dir := .inward }] s).withTracker
          (retargetedTracker k target s) := by
        obtain ⟨-, -, -, hkept, -⟩ := startRound_spec (s := s) (purpose := .retarget) (priority := k.priority)
          (entries := [{ ref := target, dir := .inward }]) (by simpa using claimable_of_targetFree hfree) (by simp)
        simp only [beginRetarget, updateTask, hkept, hk, Option.map_some, retargetedTracker, kindOfTarget]
      rw [hform] at hbody
      refine ⟨_, ?_, ?_, fun r col hne => hrecorded.slotKept (by simpa using hne),
        fun bay index hne => hrecorded.otherCradleContent (by simpa using hne), hrecorded.facts, hclaims, hlink, htracker,
        haccepts⟩
      · rw [exec, execTaskRetarget, request_of_acceptance hrun hbody]
      · have htaken := targetReserved_of_recorded hrecorded (List.mem_singleton_self _) hfree
        cases target <;> exact htaken

/-! ### TASK_START (R152, R153) -/

/-- R200: a refused TASK_START is answered and does nothing else. -/
theorem taskStart_answers {id kind : Nat} {source target : Ref} {coil : CoilId} {priority : Nat} {r : Reply} {s : State}
    (hrun : Running s) (h : taskStart id kind source target coil priority s = (s, r)) (hr : r.status ≠ .ok) :
    Answers (.taskStart id kind source target coil priority) r s := by
  rw [Answers, exec, execTaskStart, request_of_answer hrun h hr]

theorem taskKindOf_eq_none_iff (kind : Nat) : taskKindOf kind = none ↔ 1 < kind := by
  match kind with
  | 0 | 1 => simp [taskKindOf]
  | n + 2 => simp [taskKindOf]

theorem taskKindOf_of_le {kind : Nat} (h : ¬ 1 < kind) :
    taskKindOf kind = some (if kind = 1 then .load else .move) := by
  match kind with
  | 0 | 1 => rfl
  | n + 2 => omega

/-- R152: the kind named fits the target where the statement says so, and is then the kind of the target. -/
theorem kindFits_iff {kind : Nat} (target : Ref) :
    kindFits (if kind = 1 then .load else .move) target = false ↔ refIsCradle target ≠ decide (kind = 1) := by
  by_cases h : kind = 1 <;> simp [kindFits, h]

section
variable {id kind : Nat} {k : TaskKind} {target : Ref} {coil : CoilId} {priority : Nat} {s : State} {r : Reply}
  (hkind : taskKindOf kind = some k) (hrunning : ¬ taskRunning s = true)
  (hactive : ¬ (s.link.state ≠ .active ∨ s.link.leaving = true)) (hload : ¬ s.weigh.load = .loaded)
  (hargs : ¬ (kindFits k target = false ∨ 7 < priority)) (hbusy : ¬ engineBusy s = true)
include hkind hrunning hactive hload hargs hbusy

/-- R152: the source of a TASK_START that has passed the checks before it is refused. -/
theorem taskStart_of_sourceRefusal {source : Ref} (hsource : sourceRefusal s source coil = some r) :
    taskStart id kind source target coil priority s = (s, r) := by
  simp only [taskStart, hkind, if_neg hrunning, if_neg hactive, if_neg hload, if_neg hargs, if_neg hbusy, hsource]

section
variable {row column : Nat} (hsource : sourceRefusal s (.slot row column) coil = none)
include hsource

/-- R152: the target of a TASK_START whose source has passed is refused. -/
theorem taskStart_of_targetRefusal
    (htarget : targetRefusal s (.slot row column) target ((slotCoil (contentAt s row column)).bind CoilInfo.weight)
      ((slotCoil (contentAt s row column)).bind CoilInfo.width) = some r) :
    taskStart id kind (.slot row column) target coil priority s = (s, r) := by
  simp only [taskStart, hkind, if_neg hrunning, if_neg hactive, if_neg hload, if_neg hargs, if_neg hbusy, hsource, sourceCoil,
    htarget]

/-- R153: a TASK_START that passes every check begins its task. -/
theorem taskStart_of_passes
    (htarget : targetRefusal s (.slot row column) target ((slotCoil (contentAt s row column)).bind CoilInfo.weight)
      ((slotCoil (contentAt s row column)).bind CoilInfo.width) = none) :
    taskStart id kind (.slot row column) target coil priority s =
      (beginTask id k row column target coil priority ((slotCoil (contentAt s row column)).bind CoilInfo.weight)
        ((slotCoil (contentAt s row column)).bind CoilInfo.width) s, .okWith (be 1 (nextRound s))) := by
  simp only [taskStart, hkind, if_neg hrunning, if_neg hactive, if_neg hload, if_neg hargs, if_neg hbusy, hsource, sourceCoil,
    htarget]

end
end

/-- R153: the entries of a START round. -/
def startEntries (row column : Nat) (target : Ref) (coil : CoilId) : List ClaimEntry :=
  [{ ref := .slot row column, dir := .outward coil }, { ref := target, dir := .inward }]

/-- R153: the tracker after an accepted TASK_START. -/
def startedTracker (id row column : Nat) (target : Ref) (coil : CoilId) (priority : Nat) (info : Option CoilInfo) (s : State) :
    Tracker :=
  { s.tracker with
    task := some { id := id, kind := if refIsCradle target then .load else .move, sourceRow := row, sourceColumn := column,
                   target := some target, coil := coil, weight := info.bind CoilInfo.weight,
                   width := info.bind CoilInfo.width, priority := priority, state := .claiming, measured := none,
                   reason := none, round := nextRound s, waiting := none } }

/-- R152, R153: the task and its round begun on a claimable source and target, the kind being that of the target. -/
theorem beginTask_eq {id : Nat} {kind : TaskKind} {row column : Nat} {target : Ref} {coil : CoilId} {priority : Nat}
    {info : Option CoilInfo} {s : State} (hkind : kind = if refIsCradle target then .load else .move)
    (h : ∀ e ∈ startEntries row column target coil, Claimable s e)
    (hdistinct : ((startEntries row column target coil).map ClaimEntry.ref).Nodup) :
    beginTask id kind row column target coil priority (info.bind CoilInfo.weight) (info.bind CoilInfo.width) s =
      (startRound .start priority (startEntries row column target coil) s).withTracker
        (startedTracker id row column target coil priority info s) := by
  obtain ⟨-, -, -, htracker, -⟩ := startRound_spec (purpose := .start) (priority := priority) h hdistinct
  simp only [startEntries] at htracker
  simp only [beginTask, startedTracker, startEntries, htracker, hkind]

/-- Settles O45: the checks one after the other, and the START round on an OCCUPIED source and a free target. -/
theorem taskStartChecksAndClaims : Obligations.TaskStartChecksAndClaims := by
  intro id kind source target coil priority s hrun c
  by_cases hkind : 1 < kind
  · rw [if_pos hkind]
    exact taskStart_answers hrun (by rw [taskStart, (taskKindOf_eq_none_iff kind).2 hkind]) nofun
  have hkindOf := taskKindOf_of_le hkind
  rw [if_neg hkind]
  by_cases hrunning : taskRunning s = true
  · rw [if_pos hrunning]
    exact taskStart_answers hrun (by simp only [taskStart, hkindOf, if_pos hrunning]) nofun
  by_cases hactive : s.link.state ≠ .active ∨ s.link.leaving = true
  · rw [if_neg hrunning, if_pos hactive]
    exact taskStart_answers hrun (by simp only [taskStart, hkindOf, if_neg hrunning, if_pos hactive]) nofun
  by_cases hload : s.weigh.load = .loaded
  · rw [if_neg hrunning, if_neg hactive, if_pos hload]
    exact taskStart_answers hrun (by simp only [taskStart, hkindOf, if_neg hrunning, if_neg hactive, if_pos hload]) nofun
  rw [if_neg hrunning, if_neg hactive, if_neg hload]
  by_cases hargs : kindFits (if kind = 1 then .load else .move) target = false ∨ 7 < priority
  · rw [if_pos (hargs.imp_left (kindFits_iff target).1)]
    exact taskStart_answers hrun
      (by simp only [taskStart, hkindOf, if_neg hrunning, if_neg hactive, if_neg hload, if_pos hargs]) nofun
  rw [if_neg (mt (Or.imp_left (kindFits_iff target).2) hargs)]
  by_cases hbusy : engineBusy s = true
  · rw [if_pos ((engineBusy_iff s).1 hbusy)]
    exact taskStart_answers hrun (by simp only [taskStart, hkindOf, if_neg hrunning, if_neg hactive, if_neg hload,
      if_neg hargs, if_pos hbusy]) nofun
  rw [if_neg (mt (engineBusy_iff s).2 hbusy)]
  have hsource := sourceRefusal_eq s source coil
  cases hrefusal : sourceRefusal s source coil with
  | some r =>
    rw [← hsource, hrefusal]
    exact taskStart_answers hrun (taskStart_of_sourceRefusal hkindOf hrunning hactive hload hargs hbusy hrefusal)
      (status_of_firstFailing_sourceTests (hsource.symm.trans hrefusal))
  | none =>
    rw [← hsource, hrefusal]
    cases source with
    | cradle => cases hrefusal
    | slot row column =>
      dsimp only
      rw [← targetRefusal_eq]
      cases htarget : targetRefusal s (.slot row column) target ((slotCoil (contentAt s row column)).bind CoilInfo.weight)
          ((slotCoil (contentAt s row column)).bind CoilInfo.width) with
      | some r =>
        exact taskStart_answers hrun (taskStart_of_targetRefusal hkindOf hrunning hactive hload hargs hbusy hrefusal htarget)
          (status_of_firstFailing_targetTests ((targetRefusal_eq ..).symm.trans htarget))
      | none =>
        have hbody := taskStart_of_passes (id := id) hkindOf hrunning hactive hload hargs hbusy hrefusal htarget
        obtain ⟨hslot, i, hi, hcoil⟩ := occupied_of_passes hrefusal
        have hfree := targetFree_of_passes htarget
        have hne : target ≠ .slot row column := by
          rintro rfl
          exact absurd (hi.symm.trans hfree.2) nofun
        have hclaimable : ∀ e ∈ startEntries row column target coil, Claimable s e := by
          intro e he
          rcases List.mem_cons.1 he with rfl | he
          · exact ⟨by rw [resvAt_slot, hi]; rfl, nofun⟩
          · obtain rfl := List.mem_singleton.1 he
            exact claimable_of_targetFree hfree
        have hdistinct : ((startEntries row column target coil).map ClaimEntry.ref).Nodup := by
          simpa [startEntries] using hne.symm
        obtain ⟨hrecorded, hclaims, hlink, htracker, haccepts⟩ := startedRound_accepted (purpose := .start)
          (priority := priority) (startedTracker id row column target coil priority (slotCoil (contentAt s row column)) s) hclaimable hdistinct
        have hfits : (if kind = 1 then TaskKind.load else .move) = if refIsCradle target then .load else .move := by
          have hcradle : refIsCradle target = decide (kind = 1) := by
            by_contra hwrong
            exact hargs (.inl ((kindFits_iff target).2 hwrong))
          rw [hcradle]
          simp only [decide_eq_true_eq]
        rw [beginTask_eq hfits hclaimable hdistinct] at hbody
        obtain ⟨hreserved, hsourced⟩ := sourceReserved_of_recorded hrecorded (List.mem_cons_self ..) hslot hi
        have hunnamed {ref : Ref} (h1 : ref ≠ .slot row column) (h2 : ref ≠ target) :
            ref ∉ (startEntries row column target coil).map ClaimEntry.ref := by
          simpa [startEntries] using ⟨h1, h2⟩
        refine ⟨_, ?_, ⟨i, hi, hcoil, hreserved⟩, hsourced, ?_, fun r k h1 h2 => hrecorded.slotKept (hunnamed h1 h2),
          fun bay index h2 => hrecorded.otherCradleContent (hunnamed nofun h2), hrecorded.facts, hclaims, hlink, htracker,
          haccepts⟩
        · rw [exec, execTaskStart, request_of_acceptance hrun hbody]
        · have htaken := targetReserved_of_recorded hrecorded (.tail _ (List.mem_singleton_self _)) hfree
          cases target <;> exact htaken

end Sys2Proof.Machine
end

section
/-! PROOFS. What stays absent through losses and bookings: the hook record, the target of the task and the round, with the CLAIM
mailbox of a round that has ended (R136, R149, R150, R159, R160). -/

namespace Sys2Proof.Machine

/-! ### Steps that bring nothing back -/

/-- An empty hook, a task without a target and a claim engine without a round stay so, and where no round runs neither the CLAIM
mailbox nor a withdrawal changes. -/
structure StaysAbsent (s t : State) : Prop where
  hook : s.tracker.hook = none → t.tracker.hook = none
  target : s.tracker.task.bind Task.target = none → t.tracker.task.bind Task.target = none
  round : s.claims.round = none → t.claims.round = none ∧ ClaimBoxKept s t

theorem ClaimBoxKept.trans {s t u : State} (h : ClaimBoxKept s t) (k : ClaimBoxKept t u) : ClaimBoxKept s u :=
  ⟨k.1.trans h.1, k.2.trans h.2⟩

theorem StaysAbsent.refl (s : State) : StaysAbsent s s := ⟨id, id, fun h => ⟨h, rfl, rfl⟩⟩

theorem StaysAbsent.trans {s t u : State} (h : StaysAbsent s t) (k : StaysAbsent t u) : StaysAbsent s u where
  hook hs := k.hook (h.hook hs)
  target hs := k.target (h.target hs)
  round hs := by
    obtain ⟨ht, hbox⟩ := h.round hs
    obtain ⟨hu, hbox'⟩ := k.round ht
    exact ⟨hu, hbox.trans hbox'⟩

theorem staysAbsent_of_tracker {s t : State} (htracker : t.tracker = s.tracker)
    (hround : s.claims.round = none → t.claims.round = none ∧ ClaimBoxKept s t) : StaysAbsent s t :=
  ⟨by simp [htracker], by simp [htracker], hround⟩

theorem staysAbsent_of_keeps {bs : List Block} {s t : State} (h : Keeps bs s t)
    (hbs : ∀ b ∈ [Block.link, .claims, .tracker], b ∉ bs := by simp) : StaysAbsent s t := by
  have hlink : t.link = s.link := h.2 .link (hbs _ (by simp))
  have hclaims : t.claims = s.claims := h.2 .claims (hbs _ (by simp))
  exact staysAbsent_of_tracker (h.2 .tracker (hbs _ (by simp))) fun hround =>
    ⟨by rw [hclaims, hround], by rw [hlink], by rw [hlink]⟩

theorem staysAbsent_raise (n : Notice) (s : State) : StaysAbsent s (raise n s) := staysAbsent_of_keeps (keeps_raise n s)

theorem staysAbsent_setSlot (row column : Nat) (r : SlotRecord) (s : State) : StaysAbsent s (setSlot row column r s) :=
  staysAbsent_of_keeps (keeps_setSlot row column r s)

theorem staysAbsent_queueBook (f : BookFrame) (s : State) : StaysAbsent s (queueBook f s) :=
  staysAbsent_of_tracker rfl fun h => ⟨h, rfl, rfl⟩

theorem staysAbsent_askRelease (f : ReleaseFrame) (s : State) : StaysAbsent s (askRelease f s) := by
  obtain ⟨hlink, hclaims, -⟩ := askRelease_spec f s
  exact staysAbsent_of_tracker ((keeps_askRelease f s).2 .tracker (by simp)) fun h =>
    ⟨by rw [hclaims]; exact h, by rw [hlink], by rw [hlink]⟩

theorem staysAbsent_releaseAllOwn (extra : List ReleaseFrame) (s : State) : StaysAbsent s (releaseAllOwn extra s) :=
  staysAbsent_of_tracker (releaseAllOwn_tracker extra s) (releaseAllOwn_of_no_round extra)

theorem staysAbsent_dropFromRound (ref : Ref) (s : State) : StaysAbsent s (dropFromRound ref s) :=
  staysAbsent_of_tracker ((keeps_dropFromRound ref s).2 .tracker (by simp)) fun h => by
    simp only [dropFromRound, h]
    exact ⟨trivial, rfl, rfl⟩

theorem staysAbsent_updateTask {f : Task → Task} (h : ∀ k, (f k).target = k.target ∨ (f k).target = none) (s : State) :
    StaysAbsent s (updateTask f s) where
  hook := id
  target hs := by
    cases hk : s.tracker.task with
    | none => simp [updateTask, hk]
    | some k =>
      have hnone : k.target = none := by simpa [hk] using hs
      simpa [updateTask, hk, hnone] using h k
  round h := ⟨h, rfl, rfl⟩

theorem staysAbsent_enterTerminal (st : TaskState) (reason : Option Reason) (notice : Notice) (s : State) :
    StaysAbsent s (enterTerminal st reason notice s) := by
  unfold enterTerminal
  refine .trans (.trans (staysAbsent_updateTask (fun _ => ?_) s) (staysAbsent_raise ..)) (staysAbsent_releaseAllOwn ..)
  exact .inl rfl

theorem staysAbsent_hookUnknown (s : State) : StaysAbsent s (hookUnknown s) :=
  ⟨fun h => by simp [hookUnknown, setHook, h], id, fun h => ⟨h, rfl, rfl⟩⟩

theorem staysAbsent_endClaimLost (reason : Reason) (k : Task) (s : State) : StaysAbsent s (endClaimLost reason k s) := by
  unfold endClaimLost
  dsimp only
  split
  · exact (staysAbsent_hookUnknown s).trans (staysAbsent_enterTerminal ..)
  · exact staysAbsent_enterTerminal ..

theorem staysAbsent_tellClaimLost (reason : Reason) (s : State) : StaysAbsent s (tellClaimLost reason s) := by
  unfold tellClaimLost
  split
  · exact .refl s
  · split
    · exact staysAbsent_endClaimLost ..
    · exact staysAbsent_endClaimLost ..
    · exact .refl s

theorem staysAbsent_tellTargetLost (s : State) : StaysAbsent s (tellTargetLost s) := by
  unfold tellTargetLost
  split
  · exact .refl s
  · split
    · exact (staysAbsent_updateTask (fun _ => .inr rfl) s).trans (staysAbsent_endClaimLost ..)
    iterate 4 exact (staysAbsent_updateTask (fun _ => .inr rfl) s).trans (staysAbsent_raise ..)
    · exact .refl s

/-- A round that runs is lost with the tracker told; with none nothing changes. -/
theorem staysAbsent_loseRound (cause : Reason) (s : State) : StaysAbsent s (loseRound cause s) := by
  unfold loseRound
  split
  · exact .refl s
  next r hr =>
    have hclosed : StaysAbsent s (closeRound r s) :=
      staysAbsent_of_tracker (closeRound_tracker r s) fun h => by simp [hr] at h
    split
    · exact hclosed.trans (staysAbsent_tellClaimLost ..)
    · exact hclosed.trans (staysAbsent_tellTargetLost ..)
    · exact .refl s

theorem staysAbsent_reservationRemoved (round : Nat) (ref : Ref) (s : State) :
    StaysAbsent s (reservationRemoved round ref s) := by
  unfold reservationRemoved
  split
  · exact .refl s
  · split
    · split
      · exact (staysAbsent_releaseAllOwn ..).trans (staysAbsent_tellClaimLost ..)
      · exact staysAbsent_askRelease ..
    · split
      · split
        · exact (staysAbsent_askRelease ..).trans (staysAbsent_tellTargetLost _)
        · exact staysAbsent_askRelease ..
      · exact staysAbsent_askRelease ..

theorem staysAbsent_ownRemoved (ref : Ref) (v : Reservation) (s : State) : StaysAbsent s (ownRemoved ref v s) := by
  unfold ownRemoved
  split
  · exact staysAbsent_reservationRemoved ..
  · split
    · split
      · exact (staysAbsent_dropFromRound ref s).trans (staysAbsent_reservationRemoved ..)
      · exact staysAbsent_loseRound ..
    · exact staysAbsent_reservationRemoved ..

theorem staysAbsent_makeDisputed (source : ChangeSource) (row column : Nat) (s : State) :
    StaysAbsent s (makeDisputed source row column s) := by
  unfold makeDisputed
  split
  · exact .refl s
  · split
    · exact .refl s
    · have hmade := (staysAbsent_setSlot row column { content := .disputed, source := source } s).trans
        (staysAbsent_raise .disputed _)
      dsimp only
      split
      · exact hmade
      · split
        · exact hmade.trans (staysAbsent_ownRemoved ..)
        · exact hmade

/-! ### Bookings that bring nothing back -/

theorem staysAbsent_putInSlot (row column : Nat) (c : CoilInfo) (s : State) : StaysAbsent s (putInSlot row column c s) := by
  unfold putInSlot
  split
  · exact (staysAbsent_setSlot ..).trans (staysAbsent_dropFromRound ..)
  · exact staysAbsent_setSlot ..
  · exact staysAbsent_makeDisputed ..

theorem staysAbsent_placeInCradle (bay index : Nat) (coil : CoilId) (weight : Nat) (placer : Holder) (s : State) :
    StaysAbsent s (placeInCradle bay index coil weight placer s) := by
  unfold placeInCradle
  split
  · have hbay := staysAbsent_of_keeps (keeps_setBay bay (some (Truck.place ‹_› index ‹Cradle›.offset coil weight placer)) s)
    dsimp only
    split
    · exact hbay.trans (staysAbsent_raise ..)
    · exact hbay
  · exact .refl s

theorem staysAbsent_ownPlacement (bay index : Nat) (coil : CoilId) (weight : Nat) (s : State) :
    StaysAbsent s (ownPlacement bay index coil weight s) := by
  have hplaced := staysAbsent_placeInCradle bay index coil weight .own s
  unfold ownPlacement
  split
  · exact staysAbsent_raise ..
  · split
    · exact staysAbsent_raise ..
    · exact hplaced.trans (staysAbsent_raise ..)
    · split
      · exact hplaced.trans (staysAbsent_dropFromRound ..)
      · exact hplaced.trans (staysAbsent_raise ..)

theorem staysAbsent_putInAt (k : Task) (ref : Ref) (s : State) : StaysAbsent s (putInAt k ref s) := by
  cases ref with
  | slot => exact staysAbsent_putInSlot ..
  | cradle => exact staysAbsent_ownPlacement ..

theorem staysAbsent_returnIn (k : Task) (s : State) : StaysAbsent s (returnIn k s) :=
  ((staysAbsent_queueBook _ s).trans (staysAbsent_putInSlot ..)).trans (staysAbsent_enterTerminal ..)

end Sys2Proof.Machine
end

section
/-! PROOFS. What the task tracker makes of a SET_DOWN (R150, R151, R156, R158, R160, R163, R164): the target freed before a return,
bookings where the hook is empty, and the claim about the SET_DOWN. -/

namespace Sys2Proof.Machine

/-! ### Reservations ended one by one (R136, R145) -/

/-- The own reservations that a test names are ended, and every other slot and cradle is as it was. -/
structure RefsFreed (p : Ref → Reservation → Prop) (s u : State) : Prop where
  freed : ∀ ref v, ownResvAt s ref = some v → p ref v → ownResvAt u ref = none
  slots : ∀ row column, (∀ v, ownResvAt s (.slot row column) = some v → ¬ p (.slot row column) v) →
    slotAt u row column = slotAt s row column
  cradles : ∀ bay index, (∀ v, ownResvAt s (.cradle bay index) = some v → ¬ p (.cradle bay index) v) →
    cradleAt u bay index = cradleAt s bay index
  facts : SameTruckFacts s u

section
variable {p q : Ref → Reservation → Prop} {s t u : State}

theorem SameTruckFacts.refl (s : State) : SameTruckFacts s s := fun _ => rfl

theorem refsFreed_of_not (s : State) (h : ∀ ref v, ownResvAt s ref = some v → ¬ p ref v) : RefsFreed p s s :=
  ⟨fun ref v hv hp => absurd hp (h ref v hv), fun _ _ _ => rfl, fun _ _ _ => rfl, .refl s⟩

/-- A reference that the test does not name keeps its own reservation. -/
theorem RefsFreed.kept (h : RefsFreed p s u) {ref : Ref} (hnot : ∀ v, ownResvAt s ref = some v → ¬ p ref v) :
    ownResvAt u ref = ownResvAt s ref := by
  refine ownResvAt_congr ?_
  cases ref with
  | slot row column => rw [resvAt_slot, resvAt_slot, contentAt_congr (h.slots row column hnot)]
  | cradle bay index => rw [resvAt_cradle, resvAt_cradle, h.cradles bay index hnot]

/-- A reference is freed, or as it was. -/
theorem RefsFreed.own (h : RefsFreed p s u) (ref : Ref) : ownResvAt u ref = none ∨ ownResvAt u ref = ownResvAt s ref := by
  by_cases hfreed : ∃ v, ownResvAt s ref = some v ∧ p ref v
  · obtain ⟨v, hv, hp⟩ := hfreed
    exact .inl (h.freed ref v hv hp)
  · exact .inr (h.kept fun v hv hp => hfreed ⟨v, hv, hp⟩)

theorem RefsFreed.trans (h : RefsFreed p s u) (k : RefsFreed q u t) : RefsFreed (fun ref v => p ref v ∨ q ref v) s t where
  freed ref v hv hpq := by
    obtain hu | hu := h.own ref
    · obtain ht | ht := k.own ref
      · exact ht
      · rw [ht, hu]
    · by_cases hp : p ref v
      · rw [h.freed ref v hv hp] at hu
        simp [hv] at hu
      · exact k.freed ref v (hu.trans hv) (hpq.resolve_left hp)
  slots row column hnot := by
    have hfirst : ∀ v, ownResvAt s (.slot row column) = some v → ¬ p (.slot row column) v := fun v hv hp => hnot v hv (.inl hp)
    rw [k.slots row column fun v hv hq => hnot v ((h.kept hfirst).symm.trans hv) (.inr hq), h.slots row column hfirst]
  cradles bay index hnot := by
    have hfirst : ∀ v, ownResvAt s (.cradle bay index) = some v → ¬ p (.cradle bay index) v := fun v hv hp => hnot v hv (.inl hp)
    rw [k.cradles bay index fun v hv hq => hnot v ((h.kept hfirst).symm.trans hv) (.inr hq), h.cradles bay index hfirst]
  facts := h.facts.trans k.facts

theorem RefsFreed.congr (h : RefsFreed p s u) (hpq : ∀ ref v, ownResvAt s ref = some v → (p ref v ↔ q ref v)) : RefsFreed q s u where
  freed ref v hv hq := h.freed ref v hv ((hpq ref v hv).2 hq)
  slots row column hnot := h.slots row column fun v hv hp => hnot v hv ((hpq _ v hv).1 hp)
  cradles bay index hnot := h.cradles bay index fun v hv hp => hnot v hv ((hpq _ v hv).1 hp)
  facts := h.facts

theorem RefsFreed.then_keeps {bs : List Block} (h : RefsFreed p s u) (k : Keeps bs u t)
    (hbs : ∀ b ∈ [Block.cfg, .map, .trucks], b ∉ bs := by simp) : RefsFreed p s t := by
  have hslots : slotAt t = slotAt u := slotAt_congr (k.2 .cfg (hbs _ (by simp))) (k.2 .map (hbs _ (by simp)))
  have hbays : bayRecord t = bayRecord u := bayRecord_of_keeps k (hbs _ (by simp))
  exact ⟨fun ref v hv hp => by rw [ownResvAt_of_keeps k hbs, h.freed ref v hv hp],
    fun row column hnot => by rw [hslots, h.slots row column hnot],
    fun bay index hnot => by rw [cradleAt_congr hbays, h.cradles bay index hnot],
    h.facts.trans (sameTruckFacts_of_keeps k (hbs _ (by simp)))⟩

end

theorem sameTruckFacts_releaseRef (p : Reservation → Bool) (source : ChangeSource) (ref : Ref) (s : State) :
    SameTruckFacts s (releaseRef p source ref s) := by
  unfold releaseRef
  split
  · split
    · exact .refl s
    · exact sameTruckFacts_of_keeps (keeps_setSlot ..)
  · split
    · exact .refl s
    · exact fun bay => sameTruckFacts_setCradle _ _ _ s bay

/-- A record that has no reservation the test names is as it was after the release. -/
theorem SlotRecord.releaseIf_of_not {p : Reservation → Bool} {source : ChangeSource} {r : SlotRecord}
    (h : ∀ v, slotResv r.content = some v → p v = false) : r.releaseIf p source = r := by
  unfold SlotRecord.releaseIf
  split
  · rfl
  next v hv => simp [h v hv]

theorem CradleContent.releaseIf_of_not {p : Reservation → Bool} {c : CradleContent}
    (h : ∀ v, cradleResv c = some v → p v = false) : c.releaseIf p = c := by
  unfold CradleContent.releaseIf
  split
  · rfl
  next v hv => simp [h v hv]

/-- A reference without a reservation that the test names is as it was. -/
theorem releaseRef_of_not {p : Reservation → Bool} {source : ChangeSource} {ref : Ref} {s : State}
    (h : ∀ v, resvAt s ref = some v → p v = false) : releaseRef p source ref s = s := by
  unfold releaseRef
  split
  next row column =>
    split
    · rfl
    next r hr =>
      rw [SlotRecord.releaseIf_of_not fun v hv => h v (by rw [resvAt_slot, contentAt_of_slotAt hr, hv]), setSlot_self hr]
  next bay index =>
    split
    · rfl
    next k hk =>
      rw [CradleContent.releaseIf_of_not fun v hv => h v (by rw [resvAt_cradle, hk]; exact hv), setCradle_self hk]

/-- The release of one reference ends its own reservation where the test names it, and nothing else. -/
theorem refsFreed_releaseRef {p : Reservation → Bool} (hp : ∀ v, p v = true → v.isOwn = true) (ref : Ref) (s : State) :
    RefsFreed (fun x v => x = ref ∧ p v = true) s (releaseRef p .own ref s) := by
  by_cases hnone : ∀ v, resvAt s ref = some v → p v = false
  · rw [releaseRef_of_not hnone]
    refine refsFreed_of_not s ?_
    rintro _ v hv ⟨rfl, hpv⟩
    simp [hnone v (ownResvAt_eq_some_iff.1 hv).1] at hpv
  · push Not at hnone
    obtain ⟨v, hv, hpv⟩ := hnone
    have hpv : p v = true := by simpa using hpv
    have hown : ownResvAt s ref = some v := ownResvAt_eq_some_iff.2 ⟨hv, hp v hpv⟩
    refine ⟨?_, fun row column hnot => slotAt_releaseRef_ne _ _ s ?_, fun bay index hnot => cradleAt_releaseRef_ne _ _ s ?_,
      fun bay => sameTruckFacts_releaseRef _ _ ref s bay⟩
    · rintro _ w hw ⟨rfl, hpw⟩
      refine Option.eq_none_iff_forall_ne_some.2 fun x hx => ?_
      have hx := (ownResvAt_eq_some_iff.1 hx).1
      rw [resvAt_releaseRef_same, hv, Option.filter_eq_some_iff] at hx
      simp [← Option.some.inj hx.1, hpv] at hx
    · rintro rfl
      exact hnot v hown ⟨rfl, hpv⟩
    · rintro rfl
      exact hnot v hown ⟨rfl, hpv⟩

theorem refsFreed_releaseEntries (n : Nat) (entries : List ClaimEntry) (s : State) :
    RefsFreed (fun x v => v.round = n ∧ x ∈ entries.map ClaimEntry.ref) s (releaseEntries n entries s) := by
  induction entries generalizing s with
  | nil => exact refsFreed_of_not s fun _ _ _ h => List.not_mem_nil h.2
  | cons e entries ih =>
    have hfirst := refsFreed_releaseRef (p := Reservation.isOwnUnder n) (by simp +contextual [Reservation.isOwnUnder]) e.ref s
    refine (hfirst.trans (ih _)).congr fun ref v hv => ?_
    have hown := (ownResvAt_eq_some_iff.1 hv).2
    simp only [Reservation.isOwnUnder, hown, Bool.true_and, decide_eq_true_eq, List.map_cons, List.mem_cons]
    tauto

/-- R136: a round that is closed ends the reservations it holds, and nothing else of the records changes. -/
theorem refsFreed_closeRound (r : Round) (s : State) :
    RefsFreed (fun x v => v.round = r.number ∧ x ∈ r.entries.map ClaimEntry.ref) s (closeRound r s) := by
  have hrecalled (u : State) : Keeps [.link, .claims] u (recallClaim r u) := by
    unfold recallClaim
    split
    · exact keeps_withdrawClaim ..
    · exact keeps_askRelease ..
  rw [closeRound_eq]
  obtain ⟨hfreed, hslots, hcradles, hfacts⟩ :=
    (refsFreed_releaseEntries r.number r.entries (s.withClaims { s.claims with round := none })).then_keeps (hrecalled _)
  exact ⟨hfreed, hslots, hcradles, hfacts⟩

/-- R145: a reference released is freed, and nothing else of the records changes. -/
theorem refsFreed_releaseOwn (ref : Ref) (s : State) : RefsFreed (fun x _ => x = ref) s (releaseOwn ref s) := by
  unfold releaseOwn
  split
  next hnone => exact refsFreed_of_not s (by rintro _ v hv rfl; simp [hnone] at hv)
  next v hv =>
    have hkeeps : Keeps [.link, .claims] (releaseRef Reservation.isOwn .own ref s)
        (askRelease { round := v.round, refs := [ref] } (dropFromRound ref (releaseRef Reservation.isOwn .own ref s))) :=
      keeps_trans (keeps_dropFromRound ..) (keeps_askRelease ..)
    refine ((refsFreed_releaseRef (fun _ h => h) ref s).then_keeps hkeeps).congr fun x w hw => ?_
    simp [(ownResvAt_eq_some_iff.1 hw).2]

/-! ### What a return frees first (R137, R160) -/

/-- R160: the own reservations that a return ends before the coil is put back: in RETARGETING those of the round abandoned, else
that of the target. -/
def FreedForReturn (k : Task) (s : State) (ref : Ref) (v : Reservation) : Prop :=
  if k.state = .retargeting then InRound s ref v else k.target = some ref

/-- R137, R160: the round abandoned or the target released, before a return. -/
def freeForReturn (k : Task) (s : State) : State := if k.state = .retargeting then abandonRound s else releaseTarget s

theorem refsFreed_abandonRound (s : State) : RefsFreed (InRound s) s (abandonRound s) := by
  cases hr : s.claims.round with
  | none =>
    rw [show abandonRound s = s by simp [abandonRound, hr]]
    exact refsFreed_of_not s fun ref v _ => not_inRound_of_none hr ref v
  | some r =>
    by_cases hpurpose : r.purpose = .reassert
    · rw [show abandonRound s = s by simp [abandonRound, hr, hpurpose]]
      refine refsFreed_of_not s ?_
      rintro ref v - ⟨x, hx, hne, -⟩
      obtain rfl : r = x := Option.some.inj (hr.symm.trans hx)
      exact hne hpurpose
    · rw [abandonRound_eq hr hpurpose]
      refine (refsFreed_closeRound r s).congr fun ref v _ => ⟨fun ⟨hround, href⟩ => ⟨r, hr, hpurpose, hround, href⟩, ?_⟩
      rintro ⟨x, hx, -, hround, href⟩
      obtain rfl : r = x := Option.some.inj (hr.symm.trans hx)
      exact ⟨hround, href⟩

theorem releaseTarget_tracker (s : State) : (releaseTarget s).tracker = s.tracker := by
  unfold releaseTarget
  split
  · rfl
  · split
    · rfl
    · exact (keeps_releaseOwn ..).2 .tracker (by simp)

/-- What is freed before a return: the reservations named end, a RELEASE asked for that of a target, and nothing else of the
records changes. -/
theorem freeForReturn_spec {k : Task} {s : State} (hk : s.tracker.task = some k) : let u := freeForReturn k s
    Loses [] s u ∧ u.tracker = s.tracker ∧ RefsFreed (FreedForReturn k s) s u ∧
      ∀ ref v, ownResvAt s ref = some v → FreedForReturn k s ref v → k.state ≠ .retargeting → ReleaseAsked v.round ref u := by
  unfold freeForReturn
  by_cases hst : k.state = .retargeting
  · rw [if_pos hst]
    refine ⟨loses_abandonRound s, abandonRound_tracker s, (refsFreed_abandonRound s).congr fun ref v _ => ?_,
      fun _ _ _ _ h => absurd hst h⟩
    rw [FreedForReturn, if_pos hst]
  · rw [if_neg hst]
    refine ⟨loses_releaseTarget s, releaseTarget_tracker s, ?_⟩
    have hfreed (ref : Ref) (v : Reservation) : FreedForReturn k s ref v ↔ k.target = some ref := by
      rw [FreedForReturn, if_neg hst]
    simp only [hfreed]
    cases ht : k.target with
    | none =>
      rw [show releaseTarget s = s by simp [releaseTarget, hk, ht]]
      exact ⟨refsFreed_of_not s fun ref v _ h => by simp [(hfreed ref v).1 h] at ht, by simp⟩
    | some target =>
      rw [show releaseTarget s = releaseOwn target s by simp [releaseTarget, hk, ht]]
      obtain ⟨-, hasked, -⟩ := releaseOwn_spec target s
      refine ⟨(refsFreed_releaseOwn target s).congr fun ref v _ => ?_, ?_⟩
      · rw [hfreed, ht, Option.some.injEq, eq_comm]
      · rintro ref v hv heq -
        obtain rfl := Option.some.inj heq
        exact hasked v hv

/-- R160: a return has begun: what it frees is freed, and the target is absent. -/
def returnBegun (k : Task) (s : State) : State := updateTask (fun t => { t with target := none }) (freeForReturn k s)

theorem startReturn_eq (k : Task) (s : State) : startReturn k s =
    if bookFull (returnBegun k s) then
      updateTask (fun t => { t with state := .placePending, waiting := some .returnIn }) (returnBegun k s)
    else returnIn k (returnBegun k s) := rfl

theorem bookFull_returnBegun {k : Task} {s : State} (hk : s.tracker.task = some k) :
    bookFull (returnBegun k s) = s.link.boxes.book.isSome := by
  obtain ⟨hloses, -⟩ := freeForReturn_spec hk
  have hbook : (freeForReturn k s).link.boxes.book = s.link.boxes.book := by rw [hloses.link]
  exact congrArg Option.isSome hbook

theorem returnBegun_tracker {k : Task} {s : State} (hk : s.tracker.task = some k) :
    (returnBegun k s).tracker = { s.tracker with task := some { k with target := none } } := by
  obtain ⟨-, htracker, -⟩ := freeForReturn_spec hk
  simp [returnBegun, updateTask, htracker, hk]

/-! ### Records that differ in own reservations alone, slot by slot -/

theorem slotAt_of_freedAlike {s t : State} (hcfg : t.cfg = s.cfg) (h : FreedAlike s t) (row column : Nat) :
    (slotAt t row column).map (SlotRecord.without ofStation .own) =
      (slotAt s row column).map (SlotRecord.without ofStation .own) := by
  unfold slotAt
  rw [hcfg]
  split
  · rfl
  · split
    · rfl
    next i _ => rw [← List.getElem?_map, ← List.getElem?_map, h.1]

theorem contentAt_of_freedAlike {s t : State} (hcfg : t.cfg = s.cfg) (h : FreedAlike s t) (row column : Nat) :
    (contentAt t row column).without ofStation = (contentAt s row column).without ofStation := by
  have hcontent (x : State) : (contentAt x row column).without ofStation =
      (((slotAt x row column).map (SlotRecord.without ofStation .own)).map SlotRecord.content).getD .empty := by
    unfold contentAt
    cases slotAt x row column <;> rfl
  rw [hcontent, hcontent, slotAt_of_freedAlike hcfg h]

theorem bayRecord_of_freedAlike {s t : State} (h : FreedAlike s t) (bay : Nat) :
    (bayRecord t bay).map (Truck.without ofStation) = (bayRecord s bay).map (Truck.without ofStation) := by
  match bay with
  | 0 => exact h.2.1
  | 1 => exact h.2.2
  | _ + 2 => rfl

theorem cradleContent_of_freedAlike {s t : State} (h : FreedAlike s t) (bay index : Nat) :
    (cradleContent t bay index).map (CradleContent.without ofStation) =
      (cradleContent s bay index).map (CradleContent.without ofStation) := by
  have hcontent (x : State) : (cradleContent x bay index).map (CradleContent.without ofStation) =
      ((bayRecord x bay).map (Truck.without ofStation)).bind fun b => b.cradles[index]?.map Cradle.content := by
    unfold cradleContent cradleAt
    cases bayRecord x bay with
    | none => rfl
    | some b => simp [Truck.without, Option.map_map, Function.comp_def]
  rw [hcontent, hcontent, bayRecord_of_freedAlike h]

theorem SlotContent.without_eq_disputed_iff {p : Reservation → Bool} {c : SlotContent} :
    c.without p = .disputed ↔ c = .disputed := by
  cases c with
  | reservedIn v | reservedOut _ v => cases hv : p v <;> simp [SlotContent.without, hv]
  | _ => simp [SlotContent.without]

end Sys2Proof.Machine
end

section
/-! PROOFS. A SET_DOWN judged by the task state and the hook point (R150, R156, R158, R160, R163, R164): bookings where the hook is
empty, the return, the wrong set-down, and the claim. -/

namespace Sys2Proof.Machine

/-- R170: no own reservation is left where a task has ended. -/
theorem ownResvAt_enterTerminal (st : TaskState) (reason : Option Reason) (notice : Notice) (s : State) (ref : Ref) :
    ownResvAt (enterTerminal st reason notice s) ref = none := by
  have hkeeps : Keeps lossBlocks s (enterTerminal st reason notice s) :=
    (loses_enterTerminal (ns := [notice]) (List.mem_singleton_self _) st reason s).keeps
  obtain ⟨hreleased, -⟩ := enterTerminal_spec st reason notice s
  exact ownResvAt_of_allReleased (hkeeps.2 .cfg (by simp [lossBlocks])) hreleased ref

/-! ### Bookings where the hook is empty (R159, R160) -/

/-- What a booking says of the tracker and the records, without its place: its frame is queued, every other own reservation is
released and the task has ended. -/
structure BookingEnds (frame : BookFrame) (place : Ref) (k : Task) (st : TaskState) (reason : Option Reason) (notice : Notice)
    (s t : State) : Prop where
  link : LinkKeeps (some frame) s t
  others : OthersReleased place s t
  task : t.tracker.task.map (fun y => { y with target := k.target }) =
    some { k with state := st, reason := reason, waiting := none }
  hook : t.tracker.hook = s.tracker.hook
  raised : Raised notice s t
  noOwn : NoOwn t
  asked : ∀ n ref, ReleaseAsked n ref s → ReleaseAsked n ref t

section
variable {place : Ref} {frame : BookFrame} {s u x : State} {k : Task} {notice : Notice}
  (hk : s.tracker.task = some k) (hhook : s.tracker.hook = none) (hfilled : Filled place (queueBook frame s) u)
  (hloses : Loses bookingNotices u x) (habsent : StaysAbsent s x) (hn : notice ∈ bookingNotices) (st : TaskState)
  (reason : Option Reason)
include hk hhook hfilled hloses habsent hn

/-- A booking with an empty hook, whatever waits: the hook stays empty. -/
theorem bookingEnds_of_filled : let t := enterTerminal st reason notice x
    BookingEnds frame place k st reason notice s t ∧ AllReleased ofStation .own u t ∧ RaisesOnly bookingNotices x t ∧
      t.cfg = s.cfg := by
  have hend : Loses bookingNotices x (enterTerminal st reason notice x) := loses_enterTerminal hn st reason x
  have hempty := (habsent.trans (staysAbsent_enterTerminal st reason notice x)).hook hhook
  obtain ⟨hreleased, hraised, htracker⟩ := enterTerminal_spec st reason notice x
  generalize enterTerminal st reason notice x = t at *
  have hall : Loses bookingNotices u t := hloses.trans hend
  have hreleased' : AllReleased ofStation .own u t := .of_freedAlike hloses.freed hreleased
  obtain ⟨-, -, hlink⟩ := keeps_of_filled hfilled hall
  obtain ⟨hcfg, hcfg'⟩ := cfg_of_filled hfilled hall
  have hothers : OthersReleased place (queueBook frame s) t := othersReleased_of_filled hfilled hall hreleased'
  have hbefore : RaisesOnly bookingNotices s x := (keeps_of_filled hfilled hloses).2.1
  have hkept (n : Nat) (ref : Ref) (h : ReleaseAsked n ref s) : ReleaseAsked n ref u := by
    have hlink' : u.link = (queueBook frame s).link := hfilled.keeps.2 .link (by simp)
    have hclaims' : u.claims = (queueBook frame s).claims := hfilled.keeps.2 .claims (by simp)
    rw [ReleaseAsked, hlink', hclaims']
    exact h
  refine ⟨⟨?_, hothers, ?_, by rw [hempty, hhook], raised_before hbefore hraised, noOwn_of_allReleased hreleased',
    fun n ref h => hall.asked n ref (hkept n ref h)⟩, hreleased', hend.notices, hcfg.trans hcfg'⟩
  · obtain ⟨c, r, w, hlink⟩ := linkKeeps_iff.1 hlink
    exact linkKeeps_iff.2 ⟨c, r, w, hlink⟩
  · have hfixed : x.tracker.task.map Task.fixed = some k.fixed := by
      have htracker' : u.tracker = s.tracker := hfilled.keeps.2 .tracker (by simp)
      rw [hloses.task, htracker', hk]
      rfl
    obtain ⟨k', hk', hfixed⟩ := Option.map_eq_some_iff.1 hfixed
    rw [htracker, hk', task_eq_of_fixed hfixed]
    rfl

end

section
variable {k : Task} {s : State} (hk : s.tracker.task = some k) (hhook : s.tracker.hook = none)
include hk hhook

/-- R159: the put-in of the running task, the hook being empty. -/
theorem putsIn_putIn_of_no_hook {ref : Ref} (ht : k.target = some ref) : PutsIn k ref s (putIn k s) := by
  obtain ⟨u, hfilled, hloses, hplace⟩ :=
    putInAt_spec ref k (queueBook (.placed (placedRound k ref s) ref k.coil k.measuredWeight k.width) s)
  have habsent := (staysAbsent_queueBook (.placed (placedRound k ref s) ref k.coil k.measuredWeight k.width) s).trans
    (staysAbsent_putInAt k ref _)
  obtain ⟨hends, hreleased, hraises, hcfg⟩ :=
    bookingEnds_of_filled hk hhook hfilled hloses habsent (notice := .taskDone) (by decide) .done none
  have hput := hplace _ hcfg hreleased hraises
  simp only [putIn, ht]
  rw [placedRound_eq] at *
  refine ⟨hends.link, ?_, hends.others, hends.task, hends.hook, hends.raised, hends.noOwn⟩
  cases ref <;> exact hput

/-- R160: the return of the running task, the hook being empty. -/
theorem returns_returnIn_of_no_hook : Returns (ownResvAt s k.source) k s (returnIn k s) ∧
    ∀ n ref, ReleaseAsked n ref s → ReleaseAsked n ref (returnIn k s) := by
  obtain ⟨u, hfilled, hloses, hplace⟩ := putInSlot_place k.sourceRow k.sourceColumn k
    (queueBook (.placed (placedRound k k.source s) k.source k.coil k.measuredWeight k.width) s)
  have habsent := (staysAbsent_queueBook (.placed (placedRound k k.source s) k.source k.coil k.measuredWeight k.width) s).trans
    (staysAbsent_putInSlot k.sourceRow k.sourceColumn
      { coil := k.coil, weight := some k.measuredWeight, width := k.width } _)
  obtain ⟨hends, hreleased, hraises, hcfg⟩ :=
    bookingEnds_of_filled hk hhook hfilled hloses habsent (notice := .cancelled) (by decide) .cancelled (some .returned)
  have hput := hplace _ hcfg hreleased hraises
  simp only [returnIn]
  rw [placedRound_eq] at *
  exact ⟨⟨hends.link, hput, hends.others, hends.task, hends.hook, hends.raised, hends.noOwn⟩, hends.asked⟩

end

/-! ### The return, seen from before what it frees (R137, R160) -/

section
variable {s u : State} (hloses : Loses [] s u)
include hloses

theorem LinkKeeps.of_loses {book : Option BookFrame} {t : State} (h : LinkKeeps book u t) : LinkKeeps book s t := by
  obtain ⟨c, r, w, hlink⟩ := linkKeeps_iff.1 hloses.link
  obtain ⟨c', r', w', hlink'⟩ := linkKeeps_iff.1 h
  exact linkKeeps_iff.2 ⟨c', r', w', by rw [hlink', hlink]⟩

theorem OthersReleased.of_loses {place : Ref} {t : State} (h : OthersReleased place u t)
    (hkept : ∀ n ref, ReleaseAsked n ref u → ReleaseAsked n ref t) : OthersReleased place s t := by
  obtain ⟨hslots, hcradles, hasked⟩ := h
  have hcfg : u.cfg = s.cfg := hloses.keeps.2 .cfg (by simp [lossBlocks])
  refine ⟨fun row column hne => ?_, fun bay index hne => ?_, fun ref hne v hv hround => ?_⟩
  · rw [hslots row column hne, contentAt_of_freedAlike hcfg hloses.freed]
  · rw [hcradles bay index hne, cradleContent_of_freedAlike hloses.freed]
  · obtain hin | hown | hdone := hloses.own ref v hv
    · exact absurd hin hround
    · exact hasked ref hne v hown (mt (hloses.inRound ref v) hround)
    · exact hkept _ _ hdone

/-- A put-in into a slot after own reservations have been freed, seen from before. -/
theorem PutsInSlot.of_freed {p : Ref → Reservation → Prop} (hfreed : RefsFreed p s u) {row column : Nat} {k : Task} {t : State}
    (h : PutsInSlot row column (ownResvAt u (.slot row column)) k u t) :
    PutsInSlot row column (ownResvAt u (.slot row column)) k s t := by
  obtain ⟨hsource, hcontent⟩ := h
  refine ⟨hsource, ?_⟩
  have hcfg : u.cfg = s.cfg := hloses.keeps.2 .cfg (by simp [lossBlocks])
  cases hv : ownResvAt u (.slot row column) with
  | none =>
    rw [hv] at hcontent
    refine ⟨hcontent.1, fun hne => raised_before hloses.notices (hcontent.2 fun hu => hne ?_)⟩
    have halike := contentAt_of_freedAlike hcfg hloses.freed row column
    rw [hu] at halike
    exact SlotContent.without_eq_disputed_iff.1 halike.symm
  | some v =>
    have hkept : slotAt u row column = slotAt s row column := hfreed.slots row column fun w hw hp => by
      simp [hfreed.freed _ w hw hp] at hv
    rw [hv, contentAt_congr hkept] at hcontent
    cases hc : contentAt s row column with
    | reservedIn w =>
      rw [hc] at hcontent
      exact hcontent
    | _ =>
      rw [hc] at hcontent
      exact ⟨hcontent.1, fun hne => raised_before hloses.notices (hcontent.2 hne)⟩

end

/-- A return after own reservations have been freed, seen from before: its source stood, or was freed too and is then taken for
one that is not held. -/
theorem Returns.of_freed {p : Ref → Reservation → Prop} {k : Task} {s u t : State} (hloses : Loses [] s u)
    (hfreed : RefsFreed p s u) (htracker : u.tracker = s.tracker)
    (h : Returns (ownResvAt u k.source) { k with target := none } (updateTask (fun t => { t with target := none }) u) t)
    (hkept : ∀ n ref, ReleaseAsked n ref u → ReleaseAsked n ref t) :
    (∃ v, ownResvAt s k.source = some v ∧ ¬ p k.source v ∧ Returns (some v) k s t) ∨
      ((∀ v, ownResvAt s k.source = some v → p k.source v) ∧ Returns none k s t) := by
  have hseen : Returns (ownResvAt u k.source) k s t := by
    obtain ⟨hlink, hput, hothers, htask, hhook, hraised, hnone⟩ := h
    refine ⟨LinkKeeps.of_loses hloses hlink, fun hslot => ?_, OthersReleased.of_loses hloses hothers hkept, ?_, ?_, ?_, hnone⟩
    · refine PutsInSlot.of_freed hloses hfreed (hput ?_)
      have halike := slotAt_of_freedAlike (hloses.keeps.2 .cfg (by simp [lossBlocks])) hloses.freed k.sourceRow k.sourceColumn
      have hsome := congrArg Option.isSome halike
      rw [Option.isSome_map, Option.isSome_map] at hsome
      exact hsome.trans hslot
    · have hboth := congrArg (Option.map fun y : Task => { y with target := k.target }) htask
      rw [Option.map_map] at hboth
      exact hboth
    · rw [hhook, ← htracker]
      rfl
    · exact raised_before hloses.notices hraised
  by_cases hsource : ∃ v, ownResvAt s k.source = some v ∧ ¬ p k.source v
  · obtain ⟨v, hv, hnot⟩ := hsource
    have hkept : ownResvAt u k.source = some v := (hfreed.kept fun w hw => by
      obtain rfl := Option.some.inj (hv.symm.trans hw)
      exact hnot).trans hv
    exact .inl ⟨v, hv, hnot, hkept ▸ hseen⟩
  · push Not at hsource
    have hnone : ownResvAt u k.source = none := by
      cases hv : ownResvAt s k.source with
      | none => exact (hfreed.own k.source).elim id fun h => h.trans hv
      | some v => exact hfreed.freed k.source v hv (hsource v hv)
    exact .inr ⟨hsource, hnone ▸ hseen⟩


/-! ### The task state after a SET_DOWN -/

/-- R163: a wrong set-down, the hook being empty: the task is ABORTED, its own reservations released, and the round of a
RETARGETING task closed. -/
theorem wrongSetDown_spec {k : Task} {s : State} (hk : s.tracker.task = some k) : let t := wrongSetDown k s
    t.tracker = { s.tracker with
      task := some { k with state := .aborted, reason := some .wrongSetdown, waiting := none } } ∧
    LinkKeeps s.link.boxes.book s t ∧ OwnReleased s t ∧ Raised .aborted s t ∧ Keeps lossBlocks s t ∧ RaisesOnly [.aborted] s t ∧
    (k.state = .retargeting → ∀ r ∈ s.claims.round, r.purpose ≠ .reassert → RoundClosed r s t) := by
  let u := if k.state = .retargeting then abandonRound s else s
  have hu : Loses [.aborted] s u ∧ u.tracker = s.tracker := by
    unfold u
    split
    · exact ⟨loses_abandonRound s, abandonRound_tracker s⟩
    · exact ⟨.refl s, rfl⟩
  obtain ⟨hloses, htracker⟩ := hu
  have hend : Loses [.aborted] u (wrongSetDown k s) := loses_enterTerminal (by simp) ..
  have hall := hloses.trans hend
  obtain ⟨hreleased, hraised, htask⟩ := enterTerminal_spec .aborted (some .wrongSetdown) .aborted u
  refine ⟨?_, hall.link, hall.ownReleased (.of_freedAlike hloses.freed hreleased), raised_before hloses.notices hraised, hall.keeps,
    hall.notices, fun hst r hr hpurpose => ?_⟩
  · exact htask.trans (by rw [htracker, hk]; rfl)
  · have hclosed : u = closeRound r s := by
      rw [← abandonRound_eq hr hpurpose]
      exact if_pos hst
    have habsent : StaysAbsent u (wrongSetDown k s) := staysAbsent_enterTerminal ..
    rw [hclosed] at habsent hend
    obtain ⟨hround, hbox⟩ := habsent.round (closeRound_spec r s).1
    exact roundClosed_of_closeRound hround hbox hend.asked
      (ownResvAt_of_allReleased (hend.keeps.2 .cfg (by simp [lossBlocks])) (hclosed ▸ hreleased))

/-- R136: a round that is closed leaves what the statements say of it. -/
theorem roundClosed_closeRound (r : Round) (s : State) : RoundClosed r s (closeRound r s) := by
  obtain ⟨hround, hclosed⟩ := closeRound_spec r s
  refine ⟨hround, fun x hx w hw => round_ne_of_closeRound hx hw, ?_⟩
  cases hstage : r.stage with
  | queued => simpa only [hstage] using hclosed
  | opened =>
    simp only [hstage] at hclosed ⊢
    exact fun _ => hclosed

/-- R160, R169: a return that waits for the BOOK mailbox. -/
theorem startReturn_of_full {k : Task} {s : State} (hk : s.tracker.task = some k) (hfull : s.link.boxes.book.isSome = true) :
    let t := startReturn k s
    t.tracker = { s.tracker with
      task := some { k with target := none, state := .placePending, waiting := some .returnIn } } ∧
    LinkKeeps s.link.boxes.book s t ∧ RefsFreed (FreedForReturn k s) s t ∧ Keeps lossBlocks s t ∧ RaisesOnly [] s t ∧
    (∀ ref v, ownResvAt s ref = some v → FreedForReturn k s ref v → k.state ≠ .retargeting → ReleaseAsked v.round ref t) ∧
    (k.state = .retargeting → ∀ r ∈ s.claims.round, r.purpose ≠ .reassert → RoundClosed r s t) := by
  obtain ⟨hloses, htracker, hfreed, hasked⟩ := freeForReturn_spec hk
  rw [startReturn_eq, if_pos (by rw [bookFull_returnBegun hk, hfull])]
  have htasked : Keeps [.tracker] (freeForReturn k s)
      (updateTask (fun t => { t with state := .placePending, waiting := some .returnIn }) (returnBegun k s)) :=
    (keeps_updateTask ..).andThen (keeps_updateTask ..)
  refine ⟨?_, hloses.link, hfreed.then_keeps htasked, hloses.keeps.andThen htasked (by simp) (by simp [lossBlocks]), hloses.notices,
    hasked, fun hst r hr hpurpose => ?_⟩
  · simp [updateTask, returnBegun_tracker hk]
  · have hclosed : freeForReturn k s = closeRound r s := by
      rw [← abandonRound_eq hr hpurpose]
      exact if_pos hst
    rw [returnBegun, hclosed]
    exact roundClosed_closeRound r s

/-- R160: a return that is booked at once, the hook being empty. -/
theorem startReturn_of_empty {k : Task} {s : State} (hk : s.tracker.task = some k) (hhook : s.tracker.hook = none)
    (hempty : ¬ s.link.boxes.book.isSome = true) : let t := startReturn k s
    ((∃ v, ownResvAt s k.source = some v ∧ ¬ FreedForReturn k s k.source v ∧ Returns (some v) k s t) ∨
      ((∀ v, ownResvAt s k.source = some v → FreedForReturn k s k.source v) ∧ Returns none k s t)) ∧
    t.tracker.task.bind Task.target = none ∧ (∀ ref, ownResvAt t ref = none) ∧
    (∀ ref v, ownResvAt s ref = some v → FreedForReturn k s ref v → k.state ≠ .retargeting → ReleaseAsked v.round ref t) ∧
    (k.state = .retargeting → ∀ r ∈ s.claims.round, r.purpose ≠ .reassert → RoundClosed r s t) := by
  obtain ⟨hloses, htracker, hfreed, hasked⟩ := freeForReturn_spec hk
  rw [startReturn_eq, if_neg (by rwa [bookFull_returnBegun hk])]
  have hbegun := returnBegun_tracker hk
  obtain ⟨hreturns, hkept⟩ := returns_returnIn_of_no_hook (k := { k with target := none }) (s := returnBegun k s) (by rw [hbegun])
    (by rw [hbegun, hhook])
  have habsent : StaysAbsent (returnBegun k s) (returnIn k (returnBegun k s)) := staysAbsent_returnIn ..
  have hnone : ∀ ref, ownResvAt (returnIn k (returnBegun k s)) ref = none := fun ref => ownResvAt_enterTerminal _ _ _ _ ref
  refine ⟨Returns.of_freed hloses hfreed htracker hreturns hkept, habsent.target (by rw [hbegun]; rfl), hnone,
    fun ref v hv hp hst => hkept _ _ (hasked ref v hv hp hst), fun hst r hr hpurpose => ?_⟩
  have hclosed : freeForReturn k s = closeRound r s := by
    rw [← abandonRound_eq hr hpurpose]
    exact if_pos hst
  have hround : (returnBegun k s).claims.round = none := by
    show (freeForReturn k s).claims.round = none
    rw [hclosed, (closeRound_spec r s).1]
  obtain ⟨hround, hbox⟩ := habsent.round hround
  exact roundClosed_of_closeRound hround (hclosed ▸ hbox) (hclosed ▸ hkept) hnone

/-! ### A SET_DOWN, seen from before the cycle -/

/-- A cycle that makes a load state UNLOADED has a SET_DOWN. -/
theorem exec_of_setDown {coarseA fineA coarseB fineB : Int} {s t : State} (hrun : Running s) (hloaded : s.weigh.load = .loaded)
    (hexec : exec (.weighingCycle coarseA fineA coarseB fineB) s = .next t) (hunloaded : t.weigh.load = .unloaded) :
    t = settle (onSetDown (cycleMeasured coarseA fineA coarseB fineB s)) := by
  obtain ⟨-, -, -, -, -, -, -, -, hload, -⟩ := weighStep_spec s.cfg coarseA fineA coarseB fineB s.weigh
  rw [exec_weighingCycle hrun] at hexec
  obtain rfl := Host.Outcome.next.inj hexec
  rw [weighingCycle_weigh] at hunloaded
  rw [weighingCycle_eq]
  generalize weighStep s.cfg coarseA fineA coarseB fineB s.weigh = v at *
  rw [hloaded] at hload
  have hevent : loadAfter (loadEvent s.cfg.liftThreshold s.cfg.releaseThreshold v) v.load = .unloaded := hunloaded
  simp only [loadEvent, hload] at hevent ⊢
  cases hstable : v.stableNet with
  | none => simp [hstable, loadAfter] at hevent
  | some n =>
    simp only [hstable] at hevent ⊢
    split at hevent
    next h => rw [if_pos h]; rfl
    next h => exact absurd hevent (by simp [loadAfter])

/-- R150: the state with an empty hook. -/
def unhooked (s : State) : State := s.withTracker { s.tracker with hook := none }

/-- R164: a SET_DOWN that no running task takes. -/
def strangeSetDown (s : State) : State :=
  if s.tracker.hook.map Hook.origin = some .unknown then raise .hookUnknown (unhooked s) else unhooked s

section
variable {s u : State} (h : Measured s u)
include h

theorem Measured.alike_unhooked : Alike (unhooked s) (unhooked u) := { h.alike with }

theorem Measured.unhooked_tracker : (unhooked u).tracker = (unhooked s).tracker := by
  rw [unhooked, unhooked, h.tracker]
  rfl

/-- What a step from the empty hook on changes, seen from the state before the cycle. -/
theorem Measured.acts_unhooked {b : State} {touched : List Block} {must may : List Notice} (hkeeps : Keeps touched (unhooked u) b)
    (htouched : Block.tracker ∈ touched) (hnotices : Notices must may (unhooked u) b) :
    Acts (.weigh :: touched) must (measureNotices ++ may) s (settle b) :=
  h.acts ((keeps_withTracker _ u).andThen hkeeps (by simpa using htouched) (by simp)) (notices_of_eq_trans rfl hnotices)

/-- A SET_DOWN that changes the tracker alone. -/
theorem Measured.setDown_withTracker (x : Tracker) : let t := settle ((unhooked u).withTracker x)
    t.tracker = x ∧ Acts [.weigh, .tracker] [] measureNotices s t :=
  ⟨settle_tracker _, h.acts_unhooked (touched := [.tracker]) (keeps_withTracker x _) (by simp) (notices_of_eq rfl)⟩

/-- R164: a SET_DOWN that no task takes: HOOK_UNKNOWN is raised where an unknown coil hung on the hook. -/
theorem Measured.setDown_strange : let t := settle (strangeSetDown u)
    t.tracker = (unhooked s).tracker ∧ Acts [.weigh, .tracker]
      (if s.tracker.hook.map Hook.origin = some .unknown then [.hookUnknown] else []) measureNotices s t := by
  rw [strangeSetDown, h.tracker]
  split
  · exact ⟨(settle_tracker _).trans h.unhooked_tracker,
      h.acts_unhooked (touched := [.tracker]) (keeps_mono (by simp) (keeps_raise ..)) (by simp) (notices_raise ..)⟩
  · exact ⟨(settle_tracker _).trans h.unhooked_tracker,
      h.acts_unhooked (touched := [.tracker]) (keeps_refl ..) (by simp) (notices_refl ..)⟩

section
variable {k : Task} (hk : s.tracker.task = some k)
include hk

theorem Measured.unhooked_task : (unhooked u).tracker.task = some k := by rw [h.unhooked_tracker]; exact hk

/-- R156, R169: a SET_DOWN at the source before the take-out is booked. -/
theorem Measured.setDown_undone : let t := settle (undoLift (unhooked u))
    t.tracker = { task := some { k with state := .toSource, measured := none, waiting := none }, hook := none } ∧
      Acts [.weigh, .tracker] [] measureNotices s t := by
  have hform : undoLift (unhooked u) = (unhooked u).withTracker
      { task := some { k with state := .toSource, measured := none, waiting := none }, hook := none } := by
    rw [undoLift, updateTask, h.unhooked_task hk]
    rfl
  rw [hform]
  exact h.setDown_withTracker _

/-- R163: a SET_DOWN outside the windows. -/
theorem Measured.setDown_wrong : let t := settle (wrongSetDown k (unhooked u))
    t.tracker = { task := some { k with state := .aborted, reason := some .wrongSetdown, waiting := none }, hook := none } ∧
      LinkKeeps s.link.boxes.book s t ∧ OwnReleased s t ∧
      (k.state = .retargeting → ∀ r ∈ s.claims.round, r.purpose ≠ .reassert → RoundClosed r s t) ∧
      Acts (.weigh :: lossBlocks) [.aborted] measureNotices s t := by
  obtain ⟨htracker, hlink, hreleased, hraised, hkeeps, hraises, hclosed⟩ := wrongSetDown_spec (h.unhooked_task hk)
  have hl : Alike s (unhooked u) := { h.alike with }
  have hr := alike_settle (wrongSetDown k (unhooked u))
  exact ⟨(settle_tracker _).trans htracker, (hl.link ▸ hlink).alike hl hr, hreleased.alike hl hr,
    fun hst r hround hpurpose => (hclosed hst r (hl.claims ▸ hround) hpurpose).alike hl hr,
    h.acts_unhooked (may := []) hkeeps (by simp [lossBlocks]) ⟨by simpa using hraised, by simpa using hraises⟩⟩

/-- R137, R160: a SET_DOWN at the source while the coil is carried. -/
theorem Measured.setDown_returned : let t := settle (startReturn k (unhooked u))
    (∀ ref v, ownResvAt s ref = some v → FreedForReturn k s ref v →
      ownResvAt t ref = none ∧ (k.state ≠ .retargeting → ReleaseAsked v.round ref t)) ∧
    (k.state = .retargeting → ∀ r ∈ s.claims.round, r.purpose ≠ .reassert → RoundClosed r s t) ∧
    if s.link.boxes.book.isSome then
      t.tracker = { task := some { k with target := none, state := .placePending, waiting := some .returnIn }, hook := none } ∧
      LinkKeeps s.link.boxes.book s t ∧
      (∀ r c, (∀ v, ownResvAt s (.slot r c) = some v → ¬ FreedForReturn k s (.slot r c) v) → contentAt t r c = contentAt s r c) ∧
      (∀ b i, (∀ v, ownResvAt s (.cradle b i) = some v → ¬ FreedForReturn k s (.cradle b i) v) →
        cradleContent t b i = cradleContent s b i) ∧
      SameTruckFacts s t ∧ Acts (.weigh :: lossBlocks) [] measureNotices s t
    else
      ((∃ v, ownResvAt s k.source = some v ∧ ¬ FreedForReturn k s k.source v ∧ Returns (some v) k (unhooked s) t) ∨
        ((∀ v, ownResvAt s k.source = some v → FreedForReturn k s k.source v) ∧ Returns none k (unhooked s) t)) ∧
      t.tracker.task.bind Task.target = none ∧ Acts (.weigh :: lossBlocks) [] (measureNotices ++ bookingNotices) s t := by
  have hl : Alike s (unhooked u) := { h.alike with }
  have hl' : Alike (unhooked s) (unhooked u) := h.alike_unhooked
  have hr := alike_settle (startReturn k (unhooked u))
  have htask := h.unhooked_task hk
  have hfreedIff (ref : Ref) (v : Reservation) : FreedForReturn k (unhooked u) ref v ↔ FreedForReturn k s ref v := by
    unfold FreedForReturn
    rw [inRound_congr (s := s) (by rw [hl.claims])]
  have hbook : (unhooked u).link.boxes.book = s.link.boxes.book := by rw [hl.link]
  by_cases hfull : s.link.boxes.book.isSome = true
  · obtain ⟨htracker, hlink, hfreed, hkeeps, hraises, hasked, hclosed⟩ := startReturn_of_full htask (by rwa [hbook])
    refine ⟨fun ref v hv hp => ?_, fun hst r hround hpurpose => (hclosed hst r (hl.claims ▸ hround) hpurpose).alike hl hr, ?_⟩
    · rw [← hl.ownResvAt] at hv
      rw [← hfreedIff] at hp
      exact ⟨by rw [hr.ownResvAt, hfreed.freed ref v hv hp], fun hst => (hr.releaseAsked_iff ..).2 (hasked ref v hv hp hst)⟩
    · rw [if_pos hfull]
      refine ⟨(settle_tracker _).trans htracker, (hl.link ▸ hlink).alike hl hr, fun r c hnot => ?_, fun b i hnot => ?_,
        fun bay => ?_, h.acts_unhooked (may := []) hkeeps (by simp [lossBlocks]) (notices_of_raisesOnly hraises)⟩
      · rw [hr.contentAt, contentAt_congr (hfreed.slots r c fun v hv hp => hnot v (hl.ownResvAt ▸ hv) ((hfreedIff ..).1 hp)),
          hl.contentAt]
      · rw [cradleContent, hr.cradleAt,
          hfreed.cradles b i fun v hv hp => hnot v (hl.ownResvAt ▸ hv) ((hfreedIff ..).1 hp), hl.cradleAt, cradleContent]
      · rw [hr.bayRecord, hfreed.facts bay, hl.bayRecord]
  · obtain ⟨hreturns, htarget, hnone, hasked, hclosed⟩ := startReturn_of_empty htask rfl (by rwa [hbook])
    refine ⟨fun ref v hv hp => ?_, fun hst r hround hpurpose => (hclosed hst r (hl.claims ▸ hround) hpurpose).alike hl hr, ?_⟩
    · rw [← hl.ownResvAt] at hv
      rw [← hfreedIff] at hp
      exact ⟨by rw [hr.ownResvAt, hnone], fun hst => (hr.releaseAsked_iff ..).2 (hasked ref v hv hp hst)⟩
    · rw [if_neg hfull]
      obtain ⟨hkeeps, hraises⟩ := within_startReturn k (unhooked u)
      refine ⟨?_, by rwa [settle_tracker], h.acts_unhooked hkeeps (by simp [lossBlocks]) (notices_of_raisesOnly hraises)⟩
      simp only [hl.ownResvAt, hfreedIff] at hreturns
      exact hreturns.imp
        (fun ⟨v, hv, hnot, hreturned⟩ => ⟨v, hv, hnot, hreturned.alike hl' h.unhooked_tracker hr (settle_tracker _)⟩)
        fun ⟨hall, hreturned⟩ => ⟨hall, hreturned.alike hl' h.unhooked_tracker hr (settle_tracker _)⟩

/-- R158, R159: a SET_DOWN at the target. -/
theorem Measured.setDown_atTarget {ref : Ref} (ht : k.target = some ref) : let t := settle (setDownAtTarget s.cfg.bookMode k (unhooked u))
    match (generalizing := false) s.cfg.bookMode with
    | .manual => t.tracker = { task := some { k with target := some ref, state := .placePending }, hook := none } ∧
        Acts [.weigh, .tracker] [.placePending] measureNotices s t
    | .auto =>
      if s.link.boxes.book.isSome then
        t.tracker = { task := some { k with target := some ref, state := .placePending, waiting := some .putIn }, hook := none } ∧
          Acts [.weigh, .tracker] [] measureNotices s t
      else PutsIn k ref (unhooked s) t ∧ Acts (.weigh :: lossBlocks) [] (measureNotices ++ bookingNotices) s t := by
  have htask := h.unhooked_task hk
  have hbook : bookFull (unhooked u) = s.link.boxes.book.isSome := by
    rw [bookFull, h.alike_unhooked.link]
    rfl
  cases s.cfg.bookMode with
  | manual =>
    have hform : updateTask (fun t => { t with state := .placePending }) (unhooked u) =
        (unhooked u).withTracker { task := some { k with target := some ref, state := .placePending }, hook := none } := by
      rw [updateTask, htask, ← ht]
      rfl
    simp only [setDownAtTarget, hform]
    exact ⟨settle_tracker _, h.acts_unhooked (touched := [.tracker]) ((keeps_withTracker ..).andThen (keeps_raise ..)) (by simp)
      (notices_of_eq_trans rfl (notices_raise .placePending ((unhooked u).withTracker _)))⟩
  | auto =>
    have hform : updateTask (fun t => { t with state := .placePending, waiting := some .putIn }) (unhooked u) =
        (unhooked u).withTracker { task := some { k with target := some ref, state := .placePending, waiting := some .putIn }, hook := none } := by
      rw [updateTask, htask, ← ht]
      rfl
    simp only [setDownAtTarget, bookPutIn, hbook]
    split
    · rw [hform]
      exact h.setDown_withTracker _
    · obtain ⟨hkeeps, hraises⟩ := within_putIn k (unhooked u)
      exact ⟨(putsIn_putIn_of_no_hook htask rfl ht).alike h.alike_unhooked h.unhooked_tracker (alike_settle _) (settle_tracker _),
        h.acts_unhooked hkeeps (by simp [lossBlocks]) (notices_of_raisesOnly hraises)⟩

end

end

/-! ### The SET_DOWN by the task state -/

/-- Settles O20: a SET_DOWN by the task state, seen from the state before the cycle. -/
theorem setDownIsJudgedByTask : Obligations.SetDownIsJudgedByTask := by
  intro coarseA fineA coarseB fineB s t hrun hloaded hexec hunloaded
  have ht := exec_of_setDown hrun hloaded hexec hunloaded
  have h := measured_cycleMeasured coarseA fineA coarseB fineB s
  clear hexec hunloaded
  generalize cycleMeasured coarseA fineA coarseB fineB s = u at ht h
  intro emptied cycle only strange closed wrong undone returned
  have hover : hookOver (setHook none u) = hookOver s := h.hookOver
  have hmode : (setHook none u).cfg.bookMode = s.cfg.bookMode := by rw [setHook_cfg, h.alike.cfg]
  cases hk : s.tracker.task with
  | none =>
    have hk' : (setHook none u).tracker.task = none := (congrArg Tracker.task h.unhooked_tracker).trans hk
    have hform : onSetDown u = strangeSetDown u := by
      unfold onSetDown
      simp only [hk']
      rfl
    rw [hform] at ht
    subst ht
    exact h.setDown_strange
  | some k =>
    have hk' : (setHook none u).tracker.task = some k := h.unhooked_task hk
    have hundone (hform : onSetDown u = if hookOver s k.source then undoLift (unhooked u) else wrongSetDown k (unhooked u)) :
        if hookOver s k.source then undone k else wrong k := by
      split at hform
      next hsource =>
        rw [hform] at ht
        subst ht
        rw [if_pos hsource]
        exact h.setDown_undone hk
      next hsource =>
        rw [hform] at ht
        subst ht
        rw [if_neg hsource]
        exact h.setDown_wrong hk
    have hreturned (hform : onSetDown u = if hookOver s k.source then startReturn k (unhooked u) else wrongSetDown k (unhooked u)) :
        if hookOver s k.source then returned k else wrong k := by
      split at hform
      next hsource =>
        rw [hform] at ht
        subst ht
        rw [if_pos hsource]
        exact h.setDown_returned hk
      next hsource =>
        rw [hform] at ht
        subst ht
        rw [if_neg hsource]
        exact h.setDown_wrong hk
    have hnothing (hform : onSetDown u = unhooked u) : t.tracker = emptied.tracker ∧ only [] := by
      rw [hform] at ht
      subst ht
      exact ⟨(settle_tracker _).trans h.unhooked_tracker,
        h.acts_unhooked (touched := [.tracker]) (keeps_refl ..) (by simp) (notices_refl ..)⟩
    cases hst : k.state with
    | done | cancelled | claimLost | aborted =>
      have hform : onSetDown u = strangeSetDown u := by
        unfold onSetDown
        simp only [hk', hst]
        rfl
      rw [hform] at ht
      subst ht
      simp only [hst]
      exact h.setDown_strange
    | liftPending =>
      simp only [hst]
      exact hundone (by unfold onSetDown; simp only [hk', hst, hover]; rfl)
    | toSource =>
      simp only [hst]
      by_cases hw : k.waiting = some .takeOut
      · rw [if_pos hw]
        exact hundone (by unfold onSetDown; simp only [hk', hst, hover, if_pos hw]; rfl)
      · rw [if_neg hw]
        exact hnothing (by unfold onSetDown; simp only [hk', hst, if_neg hw]; rfl)
    | verifyHold | targetLost | retargeting | returning =>
      simp only [hst]
      exact hreturned (by unfold onSetDown; simp only [hk', hst, hover]; rfl)
    | toTarget =>
      simp only [hst]
      cases htarget : k.target with
      | none => exact hreturned (by unfold onSetDown hookOverTarget; simp only [hk', hst, hover, htarget]; rfl)
      | some ref =>
        by_cases hat : hookOver s ref = true
        · have hform : onSetDown u = setDownAtTarget s.cfg.bookMode k (unhooked u) := by
            unfold onSetDown hookOverTarget
            simp only [hk', hst, hover, htarget, hmode, if_pos hat]
            rfl
          rw [hform] at ht
          subst ht
          simp only [if_pos hat]
          exact h.setDown_atTarget hk htarget
        · simp only [if_neg hat]
          exact hreturned (by unfold onSetDown hookOverTarget; simp only [hk', hst, hover, htarget, if_neg hat]; rfl)
    | claiming | placePending =>
      simp only [hst]
      exact hnothing (by unfold onSetDown; simp only [hk', hst]; rfl)

end Sys2Proof.Machine
end

section
/-! PROOFS. Own reservations released (R136, R142, R145): every operation by which the claim engine ends own reservations leaves
each reference as it was or freed of the station's reservation, and nothing else of the records changed. -/

namespace Sys2Proof.Machine

/-! ### Records freed of own reservations -/

/-- A cradle freed of the station's reservation. -/
def Cradle.freed (k : Cradle) : Cradle := { k with content := k.content.without ofStation }

/-- Every slot and every cradle is as it was, or was held by the station and has been freed of it (R105, R136). -/
structure Frees (s t : State) : Prop where
  slot : ∀ row column, slotAt t row column = slotAt s row column ∨ (ownResvAt s (.slot row column)).isSome = true ∧
    slotAt t row column = (slotAt s row column).map (SlotRecord.without ofStation .own)
  cradle : ∀ bay index, cradleAt t bay index = cradleAt s bay index ∨ (ownResvAt s (.cradle bay index)).isSome = true ∧
    cradleAt t bay index = (cradleAt s bay index).map Cradle.freed
  facts : SameTruckFacts s t

section
variable {s t u : State}

theorem Frees.refl (s : State) : Frees s s := ⟨fun _ _ => .inl rfl, fun _ _ => .inl rfl, .refl s⟩

theorem frees_of_keeps {bs : List Block} (h : Keeps bs s t) (hbs : ∀ b ∈ [Block.cfg, .map, .trucks], b ∉ bs := by simp) :
    Frees s t where
  slot row column := by
    rw [slotAt_congr (h.2 .cfg (hbs _ (by simp))) (h.2 .map (hbs _ (by simp)))]
    exact .inl rfl
  cradle bay index := by
    rw [cradleAt_congr (bayRecord_of_keeps h (hbs _ (by simp)))]
    exact .inl rfl
  facts := sameTruckFacts_of_keeps h (hbs _ (by simp))

theorem ownResvAt_slot_congr {row column : Nat} (h : slotAt t row column = slotAt s row column) :
    ownResvAt t (.slot row column) = ownResvAt s (.slot row column) :=
  ownResvAt_congr (by rw [resvAt_slot, resvAt_slot, contentAt_congr h])

theorem ownResvAt_cradle_congr {bay index : Nat} (h : cradleAt t bay index = cradleAt s bay index) :
    ownResvAt t (.cradle bay index) = ownResvAt s (.cradle bay index) :=
  ownResvAt_congr (by rw [resvAt_cradle, resvAt_cradle, h])

theorem isOwn_iff_ofStation (v : Reservation) : v.isOwn = ofStation v := rfl

theorem contentAt_of_without {row column : Nat}
    (h : slotAt t row column = (slotAt s row column).map (SlotRecord.without ofStation .own)) :
    contentAt t row column = (contentAt s row column).without ofStation := by
  unfold contentAt
  rw [h]
  cases slotAt s row column <;> rfl

/-- A slot freed of the station's reservation is not held by it. -/
theorem ownResvAt_of_slot_without {row column : Nat}
    (h : slotAt t row column = (slotAt s row column).map (SlotRecord.without ofStation .own)) :
    ownResvAt t (.slot row column) = none := by
  refine Option.eq_none_iff_forall_ne_some.2 fun w hw => ?_
  obtain ⟨hw, hown⟩ := ownResvAt_eq_some_iff.1 hw
  rw [resvAt_slot, contentAt_of_without h, slotResv_without, Option.filter_eq_some_iff] at hw
  simp [← isOwn_iff_ofStation, hown] at hw

theorem ownResvAt_of_cradle_freed {bay index : Nat} (h : cradleAt t bay index = (cradleAt s bay index).map Cradle.freed) :
    ownResvAt t (.cradle bay index) = none := by
  refine Option.eq_none_iff_forall_ne_some.2 fun w hw => ?_
  obtain ⟨hw, hown⟩ := ownResvAt_eq_some_iff.1 hw
  rw [resvAt_cradle, h] at hw
  obtain ⟨k, hk, hw⟩ := Option.bind_eq_some_iff.1 hw
  obtain ⟨k', -, rfl⟩ := Option.map_eq_some_iff.1 hk
  rw [Cradle.freed, cradleResv_without, Option.filter_eq_some_iff] at hw
  simp [← isOwn_iff_ofStation, hown] at hw

/-- A reference keeps its own reservation, or has none left. -/
theorem Frees.own (h : Frees s t) (ref : Ref) : ownResvAt t ref = ownResvAt s ref ∨ ownResvAt t ref = none := by
  cases ref with
  | slot row column => exact (h.slot row column).imp ownResvAt_slot_congr fun hfreed => ownResvAt_of_slot_without hfreed.2
  | cradle bay index => exact (h.cradle bay index).imp ownResvAt_cradle_congr fun hfreed => ownResvAt_of_cradle_freed hfreed.2

theorem Frees.own_none (h : Frees s t) {ref : Ref} (hnone : ownResvAt s ref = none) : ownResvAt t ref = none :=
  (h.own ref).elim (fun heq => heq.trans hnone) id

theorem Frees.own_some (h : Frees s t) {ref : Ref} {v : Reservation} (hv : ownResvAt t ref = some v) : ownResvAt s ref = some v :=
  (h.own ref).elim (fun heq => heq.symm.trans hv) fun hnone => by simp [hnone] at hv

theorem Frees.trans (h : Frees s t) (k : Frees t u) : Frees s u where
  slot row column := by
    obtain hk | ⟨hown, hk⟩ := k.slot row column
    · rw [hk]
      exact h.slot row column
    · obtain hh | ⟨-, hh⟩ := h.slot row column
      · rw [ownResvAt_slot_congr hh] at hown
        exact .inr ⟨hown, by rw [hk, hh]⟩
      · rw [ownResvAt_of_slot_without hh] at hown
        cases hown
  cradle bay index := by
    obtain hk | ⟨hown, hk⟩ := k.cradle bay index
    · rw [hk]
      exact h.cradle bay index
    · obtain hh | ⟨-, hh⟩ := h.cradle bay index
      · rw [ownResvAt_cradle_congr hh] at hown
        exact .inr ⟨hown, by rw [hk, hh]⟩
      · rw [ownResvAt_of_cradle_freed hh] at hown
        cases hown
  facts := h.facts.trans k.facts

/-- A slot that the station does not hold is as it was. -/
theorem Frees.slot_of_none (h : Frees s t) {row column : Nat} (hnone : ownResvAt s (.slot row column) = none) :
    slotAt t row column = slotAt s row column :=
  (h.slot row column).resolve_right fun hfreed => by simp [hnone] at hfreed

theorem cradleContent_of_cradleAt {bay index : Nat} (h : cradleAt t bay index = cradleAt s bay index) :
    cradleContent t bay index = cradleContent s bay index := by rw [cradleContent, cradleContent, h]

/-- A reference is as it was, or was held by the station and is freed, with own as the source of a slot. -/
theorem Frees.kept_or_freed (h : Frees s t) (ref : Ref) : RefKept s t ref ∨ (ownResvAt s ref).isSome = true ∧ RefFreed s t ref := by
  cases ref with
  | slot row column =>
    refine (h.slot row column).imp id fun ⟨hown, hfreed⟩ => ⟨hown, contentAt_of_without hfreed, ?_⟩
    obtain ⟨v, hv⟩ := Option.isSome_iff_exists.1 hown
    obtain ⟨hresv, hisown⟩ := ownResvAt_eq_some_iff.1 hv
    obtain ⟨r, hr, hcontent⟩ := slotAt_of_contentAt (s := s) (row := row) (column := column) rfl
      (by intro hempty; simp [resvAt_slot, hempty, slotResv] at hresv)
    have hheld : slotResv r.content = some v := by rw [hcontent]; exact hresv
    have hheld' : ofStation v = true := hisown
    simp [sourceAt, hfreed, hr, SlotRecord.without, hheld, hheld']
  | cradle bay index =>
    refine (h.cradle bay index).imp cradleContent_of_cradleAt fun ⟨hown, hfreed⟩ => ⟨hown, ?_⟩
    rw [RefFreed, cradleContent, cradleContent, hfreed, Option.map_map, Option.map_map]
    rfl

/-- A reference that is still held by the station is as it was. -/
theorem Frees.kept_of_own (h : Frees s t) {ref : Ref} (hown : (ownResvAt t ref).isSome = true) : RefKept s t ref := by
  cases ref with
  | slot row column =>
    exact (h.slot row column).resolve_right fun hfreed => by simp [ownResvAt_of_slot_without hfreed.2] at hown
  | cradle bay index =>
    exact cradleContent_of_cradleAt
      ((h.cradle bay index).resolve_right fun hfreed => by simp [ownResvAt_of_cradle_freed hfreed.2] at hown)

/-- A reference that the station held and no longer holds is freed. -/
theorem Frees.freed_of_none (h : Frees s t) {ref : Ref} (hown : (ownResvAt s ref).isSome = true) (hnone : ownResvAt t ref = none) :
    RefFreed s t ref := by
  obtain hkept | ⟨-, hfreed⟩ := h.kept_or_freed ref
  · have hsame : ownResvAt t ref = ownResvAt s ref := by
      cases ref with
      | slot row column => exact ownResvAt_slot_congr hkept
      | cradle bay index =>
        have hcontent (x : State) : resvAt x (.cradle bay index) = (cradleContent x bay index).bind cradleResv := by
          rw [resvAt_cradle, cradleContent, Option.bind_map]
          rfl
        exact ownResvAt_congr (by rw [hcontent, hcontent, hkept])
    rw [← hsame, hnone] at hown
    cases hown
  · exact hfreed

end

/-! ### Operations that free own reservations -/

theorem Truck.without_getElem? (p : Reservation → Bool) (b : Truck) (index : Nat) :
    (b.without p).cradles[index]? = b.cradles[index]?.map fun k => { k with content := k.content.without p } := by
  simp [Truck.without]

theorem Truck.bare_without (p : Reservation → Bool) (b : Truck) : (b.without p).bare = b.bare := by
  simp [Truck.bare, Truck.without, Function.comp_def]

theorem ownResvAt_isSome_of_slotResv {s : State} {row column : Nat} {r : SlotRecord} {v : Reservation}
    (hr : slotAt s row column = some r) (hv : slotResv r.content = some v) (hown : v.isOwn = true) :
    (ownResvAt s (.slot row column)).isSome = true := by
  rw [ownResvAt_eq_some_iff.2 ⟨by rw [resvAt_slot, contentAt_of_slotAt hr, hv], hown⟩]
  rfl

/-- Every own reservation released (R145, R170). -/
theorem frees_of_allReleased {s t : State} (hcfg : t.cfg = s.cfg) (h : AllReleased ofStation .own s t) : Frees s t where
  slot row column := by
    rw [slotAt_of_allReleased hcfg h]
    by_cases hown : (ownResvAt s (.slot row column)).isSome = true
    · exact .inr ⟨hown, rfl⟩
    · refine .inl ?_
      cases hr : slotAt s row column with
      | none => rfl
      | some r =>
        refine congrArg some (SlotRecord.without_of_not_own (fun v hv => ?_) .own)
        by_contra hisown
        exact hown (ownResvAt_isSome_of_slotResv hr hv (by simpa using hisown))
  cradle bay index := by
    have hcradle : cradleAt t bay index = (cradleAt s bay index).map Cradle.freed := by
      unfold cradleAt
      rw [bayRecord_of_allReleased h]
      cases bayRecord s bay with
      | none => rfl
      | some b => exact Truck.without_getElem? ..
    rw [hcradle]
    by_cases hown : (ownResvAt s (.cradle bay index)).isSome = true
    · exact .inr ⟨hown, rfl⟩
    · refine .inl ?_
      cases hk : cradleAt s bay index with
      | none => rfl
      | some k =>
        obtain ⟨offset, content⟩ := k
        refine congrArg some ?_
        cases content with
        | reserved v =>
          have hother : ofStation v = false := by
            by_contra hisown
            refine hown ?_
            have hown' : v.isOwn = true := by
              rw [isOwn_iff_ofStation]
              simpa using hisown
            have hresv := ownResvAt_eq_some_iff.2 ⟨(show resvAt s (.cradle bay index) = some v by rw [resvAt_cradle, hk]; rfl), hown'⟩
            rw [hresv]
            rfl
          simp [Cradle.freed, CradleContent.without, hother]
        | _ => rfl
  facts bay := by
    rw [bayRecord_of_allReleased h]
    cases bayRecord s bay with
    | none => rfl
    | some b => exact congrArg some (Truck.bare_without ..)

theorem SlotRecord.releaseIf_of_own {p : Reservation → Bool} {r : SlotRecord} {v : Reservation} (hv : slotResv r.content = some v)
    (hown : v.isOwn = true) (hp : p v = true) : r.releaseIf p .own = r.without ofStation .own := by
  have hstation : ofStation v = true := hown
  obtain ⟨content, source⟩ := r
  cases content with
  | reservedIn w | reservedOut _ w =>
    obtain rfl : w = v := Option.some.inj hv
    simp [SlotRecord.releaseIf, SlotRecord.without, slotResv, hp, hstation, SlotContent.release, SlotContent.without]
  | _ => cases hv

theorem CradleContent.releaseIf_of_own {p : Reservation → Bool} {c : CradleContent} {v : Reservation} (hv : cradleResv c = some v)
    (hown : v.isOwn = true) (hp : p v = true) : c.releaseIf p = c.without ofStation := by
  have hstation : ofStation v = true := hown
  cases c with
  | reserved w =>
    obtain rfl : w = v := Option.some.inj hv
    simp [CradleContent.releaseIf, cradleResv, hp, hstation, CradleContent.release, CradleContent.without]
  | _ => cases hv

/-- One own reservation released where a test names it (R136). -/
theorem frees_releaseRef {p : Reservation → Bool} (hp : ∀ v, p v = true → v.isOwn = true) (ref : Ref) (s : State) :
    Frees s (releaseRef p .own ref s) := by
  by_cases hnone : ∀ v, resvAt s ref = some v → p v = false
  · rw [releaseRef_of_not hnone]
    exact .refl s
  push Not at hnone
  obtain ⟨v, hv, hpv⟩ := hnone
  have hpv : p v = true := by simpa using hpv
  have hown : (ownResvAt s ref).isSome = true := by
    rw [ownResvAt_eq_some_iff.2 ⟨hv, hp v hpv⟩]
    rfl
  refine ⟨fun row column => ?_, fun bay index => ?_, sameTruckFacts_releaseRef p .own ref s⟩
  · by_cases hne : .slot row column = ref
    · subst hne
      refine .inr ⟨hown, ?_⟩
      cases hr : slotAt s row column with
      | none => simp [resvAt_slot, contentAt, hr, slotResv] at hv
      | some r =>
        rw [resvAt_slot, contentAt_of_slotAt hr] at hv
        simp only [releaseRef, hr]
        rw [slotAt_setSlot_same _ (by rw [isSlot, hr]; rfl), SlotRecord.releaseIf_of_own hv (hp v hpv) hpv]
        rfl
    · exact .inl (slotAt_releaseRef_ne p .own s hne)
  · by_cases hne : .cradle bay index = ref
    · subst hne
      refine .inr ⟨hown, ?_⟩
      cases hk : cradleAt s bay index with
      | none => simp [resvAt_cradle, hk] at hv
      | some k =>
        rw [resvAt_cradle, hk] at hv
        simp only [releaseRef, hk]
        rw [cradleAt_setCradle_same _ hk, CradleContent.releaseIf_of_own hv (hp v hpv) hpv]
        rfl
    · exact .inl (cradleAt_releaseRef_ne p .own s hne)

section
variable (s : State)

theorem frees_askRelease (f : ReleaseFrame) : Frees s (askRelease f s) := frees_of_keeps (keeps_askRelease f s)

theorem frees_dropFromRound (ref : Ref) : Frees s (dropFromRound ref s) := frees_of_keeps (keeps_dropFromRound ref s)

theorem frees_releaseAllOwn (extra : List ReleaseFrame) : Frees s (releaseAllOwn extra s) :=
  frees_of_allReleased ((loses_releaseAllOwn (ns := []) extra s).keeps.2 .cfg (by simp [lossBlocks]))
    (allReleased_releaseAllOwn extra s)

theorem frees_updateTask (f : Task → Task) : Frees s (updateTask f s) := frees_of_keeps (keeps_updateTask f s)

theorem frees_raise (n : Notice) : Frees s (raise n s) := frees_of_keeps (keeps_raise n s)

theorem frees_enterTerminal (st : TaskState) (reason : Option Reason) (notice : Notice) :
    Frees s (enterTerminal st reason notice s) :=
  ((frees_updateTask s _).trans (frees_raise _ _)).trans (frees_releaseAllOwn _ _)

theorem frees_endClaimLost (reason : Reason) (k : Task) : Frees s (endClaimLost reason k s) := by
  unfold endClaimLost
  dsimp only
  split
  · exact (frees_of_keeps ((keeps_withTracker ..).andThen (ds := [.tracker]) (keeps_raise ..))).trans (frees_enterTerminal ..)
  · exact frees_enterTerminal ..

theorem frees_tellClaimLost (reason : Reason) : Frees s (tellClaimLost reason s) := by
  unfold tellClaimLost
  split
  · exact .refl s
  · split
    · exact frees_endClaimLost ..
    · exact frees_endClaimLost ..
    · exact .refl s

theorem frees_tellTargetLost : Frees s (tellTargetLost s) := by
  unfold tellTargetLost
  split
  · exact .refl s
  · split
    · exact (frees_updateTask s _).trans (frees_endClaimLost ..)
    iterate 4 exact (frees_updateTask s _).trans (frees_raise ..)
    · exact .refl s

theorem frees_releaseOwn (ref : Ref) : Frees s (releaseOwn ref s) := by
  unfold releaseOwn
  split
  · exact .refl s
  · exact ((frees_releaseRef (fun _ h => h) ref s).trans (frees_dropFromRound ..)).trans (frees_askRelease ..)

theorem frees_closeRound (r : Round) : Frees s (closeRound r s) := by
  have hentries (es : List ClaimEntry) (u : State) : Frees u (releaseEntries r.number es u) := by
    induction es generalizing u with
    | nil => exact .refl u
    | cons e es ih =>
      exact (frees_releaseRef (p := Reservation.isOwnUnder r.number) (by simp +contextual [Reservation.isOwnUnder]) e.ref u).trans
        (ih _)
  have hrecalled (u : State) : Keeps [.link, .claims] u (recallClaim r u) := by
    unfold recallClaim
    split
    · exact keeps_withdrawClaim ..
    · exact keeps_askRelease ..
  have hended : Keeps [.claims] s (s.withClaims { s.claims with round := none }) :=
    ⟨rfl, fun b hb => by cases b <;> simp_all [SameBlock]⟩
  rw [closeRound_eq]
  exact ((frees_of_keeps hended).trans (hentries ..)).trans (frees_of_keeps (hrecalled _))

theorem frees_tellRoundLost (p : Purpose) (cause : Reason) : Frees s (tellRoundLost p cause s) := by
  cases p with
  | start => exact frees_tellClaimLost ..
  | retarget => exact frees_tellTargetLost ..
  | reassert => exact .refl s

theorem frees_loseRound (cause : Reason) : Frees s (loseRound cause s) := by
  cases hr : s.claims.round with
  | none =>
    rw [show loseRound cause s = s by simp [loseRound, hr]]
    exact .refl s
  | some r =>
    by_cases hpurpose : r.purpose = .reassert
    · rw [show loseRound cause s = s by simp [loseRound, hr, hpurpose]]
      exact .refl s
    · rw [loseRound_of_round hr hpurpose]
      exact (frees_closeRound s r).trans (frees_tellRoundLost ..)

theorem frees_lateObjection (cause : Reason) (ref : Ref) : Frees s (lateObjection cause ref s) := by
  unfold lateObjection
  split
  · exact .refl s
  · split_ifs
    · exact (frees_releaseAllOwn ..).trans (frees_tellClaimLost ..)
    · exact .refl s
    · exact (frees_releaseOwn ..).trans (frees_tellTargetLost ..)
    · exact .refl s
    · exact .refl s

theorem frees_reservationRemoved (round : Nat) (ref : Ref) : Frees s (reservationRemoved round ref s) := by
  unfold reservationRemoved
  split
  · exact .refl s
  · split_ifs
    · exact (frees_releaseAllOwn ..).trans (frees_tellClaimLost ..)
    · exact frees_askRelease ..
    · exact (frees_askRelease ..).trans (frees_tellTargetLost ..)
    · exact frees_askRelease ..
    · exact frees_askRelease ..

theorem frees_ownRemoved (ref : Ref) (v : Reservation) : Frees s (ownRemoved ref v s) := by
  unfold ownRemoved
  split
  · exact frees_reservationRemoved ..
  · split_ifs
    · exact (frees_dropFromRound ..).trans (frees_reservationRemoved ..)
    · exact frees_loseRound ..
    · exact frees_reservationRemoved ..

end

end Sys2Proof.Machine
end

section
/-! PROOFS. One own reservation lost (R136, R142, R147, R165, R166): what becomes of the round, the CLAIM in the link, the task and
the other references where a reservation is removed from its record or met by a late objection. -/

namespace Sys2Proof.Machine

section
variable {s t u : State}

/-! ### The round and its CLAIM -/

/-- The round, its counter and the CLAIM in the link are as they were. -/
structure SameRound (s t : State) : Prop where
  round : t.claims.round = s.claims.round
  counter : t.claims.counter = s.claims.counter
  sending : t.link.sending = s.link.sending
  box : ClaimBoxKept s t

theorem SameRound.trans (h : SameRound s t) (k : SameRound t u) : SameRound s u :=
  ⟨k.round.trans h.round, k.counter.trans h.counter, k.sending.trans h.sending, h.box.trans k.box⟩

theorem sameRound_of_eq (hlink : t.link = s.link) (hclaims : t.claims = s.claims) : SameRound s t :=
  ⟨by rw [hclaims], by rw [hclaims], by rw [hlink], by rw [hlink], by rw [hlink]⟩

theorem sameRound_askReleases (fs : List ReleaseFrame) (s : State) : SameRound s (askReleases fs s) := by
  obtain ⟨hlink, hclaims, -⟩ := askReleases_spec fs s
  exact ⟨by rw [hclaims], by rw [hclaims], by rw [hlink], by rw [hlink], by rw [hlink]⟩

theorem sameRound_askRelease (f : ReleaseFrame) (s : State) : SameRound s (askRelease f s) := sameRound_askReleases [f] s

/-- A REASSERT round that has ended stays so before and after steps that leave the CLAIM alone. -/
theorem ReassertEnded.before {r : Round} (h : ReassertEnded r t u) (hsending : t.link.sending = s.link.sending)
    (hbox : ClaimBoxKept s t) : ReassertEnded r s u := by
  obtain ⟨hround, hclaim⟩ := h
  refine ⟨hround, ?_⟩
  cases hstage : r.stage <;> simp only [hstage] at hclaim ⊢
  · rwa [← hsending, ← hbox.1, ← hbox.2]
  · exact hbox.trans hclaim

theorem ReassertEnded.after {r : Round} (h : ReassertEnded r s t) (hround : u.claims.round = none) (hbox : ClaimBoxKept t u) :
    ReassertEnded r s u := by
  obtain ⟨-, hclaim⟩ := h
  refine ⟨hround, ?_⟩
  cases hstage : r.stage <;> simp only [hstage] at hclaim ⊢
  · rwa [hbox.1, hbox.2]
  · exact hclaim.trans hbox

theorem reassertEnded_endReassert (r : Round) (s : State) :
    ReassertEnded r s (endReassert r s) ∧ (endReassert r s).claims.counter = s.claims.counter := by
  unfold endReassert
  cases hstage : r.stage with
  | queued =>
    refine ⟨⟨by simp, ?_⟩, by simp⟩
    simp only [hstage]
    rw [withdrawClaim_link]
    split
    next h => exact (if_pos h).symm ▸ ⟨rfl, rfl⟩
    next h => exact (if_neg h).symm ▸ ⟨rfl, rfl⟩
  | opened => exact ⟨⟨rfl, by simp only [hstage]; exact ⟨rfl, rfl⟩⟩, rfl⟩

/-- R165: the round after every own reservation is gone: a REASSERT round has ended, any other is as it was. -/
structure RoundOver (s t : State) : Prop where
  counter : t.claims.counter = s.claims.counter
  absent : s.claims.round = none → t.claims.round = none ∧ ClaimBoxKept s t
  reassert : ∀ r, s.claims.round = some r → r.purpose = .reassert → ReassertEnded r s t
  other : ∀ r, s.claims.round = some r → r.purpose ≠ .reassert → t.claims.round = some r ∧ ClaimBoxKept s t

theorem RoundOver.before (h : RoundOver t u) (k : SameRound s t) : RoundOver s u where
  counter := h.counter.trans k.counter
  absent hr := (h.absent (k.round.trans hr)).imp_right k.box.trans
  reassert r hr hp := (h.reassert r (k.round.trans hr) hp).before k.sending k.box
  other r hr hp := (h.other r (k.round.trans hr) hp).imp_right k.box.trans

theorem RoundOver.trans (h : RoundOver s t) (k : RoundOver t u) : RoundOver s u where
  counter := k.counter.trans h.counter
  absent hr := by
    obtain ⟨ht, hbox⟩ := h.absent hr
    exact (k.absent ht).imp_right hbox.trans
  reassert r hr hp := by
    have hended := h.reassert r hr hp
    obtain ⟨hu, hbox⟩ := k.absent hended.1
    exact hended.after hu hbox
  other r hr hp := by
    obtain ⟨ht, hbox⟩ := h.other r hr hp
    exact (k.other r ht hp).imp_right hbox.trans

theorem roundOver_dropReassert (s : State) : RoundOver s (dropReassert s) := by
  cases hr : s.claims.round with
  | none =>
    have hdrop : dropReassert s = s := by simp [dropReassert, hr]
    rw [hdrop]
    exact ⟨rfl, fun h => ⟨h, rfl, rfl⟩, by simp [hr], by simp [hr]⟩
  | some r =>
    by_cases hp : r.purpose = .reassert
    · have hdrop : dropReassert s = endReassert r s := by simp [dropReassert, hr, hp]
      obtain ⟨hended, hcounter⟩ := reassertEnded_endReassert r s
      rw [hdrop]
      exact ⟨hcounter, by simp [hr], fun r' hr' _ => by rwa [← Option.some.inj (hr.symm.trans hr')],
        fun r' hr' hp' => absurd (Option.some.inj (hr.symm.trans hr') ▸ hp) hp'⟩
    · have hdrop : dropReassert s = s := by simp [dropReassert, hr, hp]
      rw [hdrop]
      exact ⟨rfl, fun h => ⟨h, rfl, rfl⟩, fun r' hr' hp' => absurd hp' (Option.some.inj (hr.symm.trans hr') ▸ hp),
        fun r' hr' _ => ⟨hr', rfl, rfl⟩⟩

theorem roundOver_releaseAllOwn (extra : List ReleaseFrame) (s : State) : RoundOver s (releaseAllOwn extra s) := by
  have hfreed : SameRound s (releaseWhere Reservation.isOwn .own s) := sameRound_of_eq rfl rfl
  have hdropped := (roundOver_dropReassert (releaseWhere Reservation.isOwn .own s)).before hfreed
  unfold releaseAllOwn
  generalize dropReassert (releaseWhere Reservation.isOwn .own s) = m at hdropped ⊢
  have hasked := sameRound_askReleases ((extra ++ ownReservations s).foldl addRequest []) m
  exact ⟨hasked.counter.trans hdropped.counter,
    fun hr => ⟨hasked.round.trans (hdropped.absent hr).1, (hdropped.absent hr).2.trans hasked.box⟩,
    fun r hr hp => (hdropped.reassert r hr hp).after (hasked.round.trans (hdropped.reassert r hr hp).1) hasked.box,
    fun r hr hp => ⟨hasked.round.trans (hdropped.other r hr hp).1, (hdropped.other r hr hp).2.trans hasked.box⟩⟩

/-- A round goes on as it was where the reservation is of no REASSERT round. -/
theorem roundWithout_of_same {ref : Ref} {v : Reservation} (h : SameRound s t)
    (hnot : ∀ r, s.claims.round = some r → ¬ (r.purpose = .reassert ∧ v.round = r.number ∧ ref ∈ r.entries.map ClaimEntry.ref)) :
    RoundWithout ref v s t := by
  refine ⟨h.counter, ?_⟩
  cases hr : s.claims.round with
  | none => exact ⟨h.round.trans hr, h.box⟩
  | some r =>
    simp only [if_neg (hnot r hr)]
    exact ⟨h.round.trans hr, h.box⟩

/-- R147: a reference leaves the REASSERT round that holds it. -/
theorem roundWithout_dropFromRound {ref : Ref} {v : Reservation} {r : Round} (hr : s.claims.round = some r)
    (hp : r.purpose = .reassert) (hnumber : v.round = r.number) (hmem : ref ∈ r.entries.map ClaimEntry.ref) :
    RoundWithout ref v s (dropFromRound ref s) := by
  obtain ⟨e, he, rfl⟩ := List.mem_map.1 hmem
  have hany : r.entries.any (fun x => x.ref == e.ref) = true := List.any_eq_true.2 ⟨e, he, by simp⟩
  have hfilter : (r.entries.filter fun x => x.ref != e.ref) = r.entries.filter fun x => decide (x.ref ≠ e.ref) :=
    List.filter_congr fun x _ => by by_cases h : x.ref = e.ref <;> simp [h]
  have hdrop : dropFromRound e.ref s = if (r.entries.filter fun x => decide (x.ref ≠ e.ref)) = [] then endReassert r s
      else s.withClaims { s.claims with
        round := some { r with entries := r.entries.filter fun x => decide (x.ref ≠ e.ref) } } := by
    simp only [dropFromRound, hr, hp, hany, hfilter, and_self, if_true, List.isEmpty_iff]
  obtain ⟨hended, hcounter⟩ := reassertEnded_endReassert r s
  rw [hdrop]
  refine ⟨?_, ?_⟩
  · split
    · exact hcounter
    · rfl
  · simp only [hr, hp, hnumber, hmem, and_self, if_true]
    split
    · exact hended
    · exact ⟨rfl, rfl, rfl⟩

/-- The round without one reference, after steps that leave the round alone. -/
theorem RoundWithout.after {ref : Ref} {v : Reservation} (h : RoundWithout ref v s t) (k : SameRound t u) :
    RoundWithout ref v s u := by
  obtain ⟨hcounter, hround⟩ := h
  refine ⟨k.counter.trans hcounter, ?_⟩
  cases hr : s.claims.round with
  | none =>
    simp only [hr] at hround ⊢
    exact ⟨k.round.trans hround.1, hround.2.trans k.box⟩
  | some r =>
    simp only [hr] at hround ⊢
    split_ifs at hround ⊢
    · exact hround.after (k.round.trans hround.1) k.box
    · exact ⟨k.round.trans hround.1, hround.2.trans k.box⟩
    · exact ⟨k.round.trans hround.1, hround.2.trans k.box⟩

theorem RoundWithout.before {ref : Ref} {v : Reservation} (h : RoundWithout ref v t u) (k : SameRound s t) :
    RoundWithout ref v s u := by
  obtain ⟨hcounter, hround⟩ := h
  refine ⟨hcounter.trans k.counter, ?_⟩
  rw [k.round] at hround
  cases hr : s.claims.round with
  | none =>
    simp only [hr] at hround ⊢
    exact ⟨hround.1, k.box.trans hround.2⟩
  | some r =>
    simp only [hr] at hround ⊢
    split_ifs at hround ⊢
    · exact hround.before k.sending k.box
    · exact ⟨hround.1, k.box.trans hround.2⟩
    · exact ⟨hround.1, k.box.trans hround.2⟩

/-- A REASSERT round that has lost one reference and then ends has ended. -/
theorem RoundWithout.over {ref : Ref} {v : Reservation} (h : RoundWithout ref v s t)
    (hsending : t.link.sending = s.link.sending) (k : RoundOver t u) : RoundOver s u := by
  obtain ⟨hcounter, hround⟩ := h
  have hkept {r : Round} (ht : t.claims.round = some r) (hbox : ClaimBoxKept s t) (hr : s.claims.round = some r) : RoundOver s u :=
    k.before ⟨ht.trans hr.symm, hcounter, hsending, hbox⟩
  cases hr : s.claims.round with
  | none =>
    simp only [hr] at hround
    exact k.before ⟨hround.1.trans hr.symm, hcounter, hsending, hround.2⟩
  | some r =>
    simp only [hr] at hround
    split at hround
    next hdropped =>
      have hended : ReassertEnded r s u := by
        split at hround
        · obtain ⟨hu, hbox⟩ := k.absent hround.1
          exact hround.after hu hbox
        · exact (k.reassert _ hround.1 hdropped.1).before hsending hround.2
      exact ⟨k.counter.trans hcounter, fun h => absurd (hr.symm.trans h) nofun,
        fun r' hr' _ => by rwa [← Option.some.inj (hr.symm.trans hr')],
        fun r' hr' hp => absurd (Option.some.inj (hr.symm.trans hr') ▸ hdropped.1) hp⟩
    · exact hkept hround.1 hround.2 hr


/-! ### Steps that leave references alone -/

theorem own_none_of_noOwn (h : NoOwn s) (ref : Ref) : ownResvAt s ref = none := by
  refine Option.eq_none_iff_forall_ne_some.2 fun v hv => ?_
  obtain ⟨hresv, hown⟩ := ownResvAt_eq_some_iff.1 hv
  exact h v (mem_allReservations_of_resvAt hresv) (of_decide_eq_true hown)

/-- A reference that is kept has the own reservation that it had. -/
theorem ownResvAt_of_refKept {ref : Ref} (h : RefKept s t ref) : ownResvAt t ref = ownResvAt s ref := by
  cases ref with
  | slot row column => exact ownResvAt_slot_congr h
  | cradle bay index =>
    have hcontent (x : State) : resvAt x (.cradle bay index) = (cradleContent x bay index).bind cradleResv := by
      rw [resvAt_cradle, cradleContent, Option.bind_map]
      rfl
    exact ownResvAt_congr (by rw [hcontent, hcontent, h])

theorem RefKept.trans {ref : Ref} (h : RefKept s t ref) (k : RefKept t u ref) : RefKept s u ref := by
  cases ref with
  | slot row column => exact Eq.trans k h
  | cradle bay index => exact Eq.trans k h

/-- A reference freed before or after steps that keep it. -/
theorem RefKept.freed {ref : Ref} (h : RefKept s t ref) (k : RefFreed t u ref) : RefFreed s u ref := by
  cases ref with
  | slot row column =>
    have hslot : slotAt t row column = slotAt s row column := h
    exact ⟨by rw [k.1, contentAt_congr hslot], k.2⟩
  | cradle bay index =>
    have hcradle : cradleContent t bay index = cradleContent s bay index := h
    rw [RefFreed] at k ⊢
    rw [k, hcradle]

theorem RefFreed.kept {ref : Ref} (h : RefFreed s t ref) (k : RefKept t u ref) : RefFreed s u ref := by
  cases ref with
  | slot row column =>
    have hslot : slotAt u row column = slotAt t row column := k
    exact ⟨by rw [contentAt_congr hslot, h.1], by rw [sourceAt, hslot]; exact h.2⟩
  | cradle bay index => exact Eq.trans k h

theorem refKept_of_keeps {bs : List Block} (h : Keeps bs s t) (ref : Ref)
    (hbs : ∀ b ∈ [Block.cfg, .map, .trucks], b ∉ bs := by simp) : RefKept s t ref := by
  cases ref with
  | slot row column =>
    exact congrFun (congrFun (slotAt_congr (h.2 .cfg (hbs _ (by simp))) (h.2 .map (hbs _ (by simp)))) row) column
  | cradle bay index =>
    exact cradleContent_of_cradleAt
      (congrFun (congrFun (cradleAt_congr (bayRecord_of_keeps h (hbs _ (by simp)))) bay) index)

theorem noOwn_of_keeps {bs : List Block} (h : Keeps bs s t) (hno : NoOwn s)
    (hbs : ∀ b ∈ [Block.map, .trucks], b ∉ bs := by simp) : NoOwn t := by
  have hmap : t.map = s.map := h.2 .map (hbs _ (by simp))
  obtain ⟨hbay0, hbay1⟩ := h.2 .trucks (hbs _ (by simp))
  rw [NoOwn, allReservations] at hno ⊢
  rwa [hmap, hbay0, hbay1]

/-- A step that tells the claim engine and the tracker nothing, brings no own reservation and keeps the references named. -/
structure Still (kept : Ref → Prop) (s t : State) : Prop where
  link : t.link = s.link
  claims : t.claims = s.claims
  tracker : t.tracker = s.tracker
  raises : ∃ ns, RaisesOnly ns s t
  kept : ∀ ref, kept ref → RefKept s t ref
  own : ∀ ref v, ownResvAt t ref = some v → ownResvAt s ref = some v
  noOwn : NoOwn s → NoOwn t

theorem Still.refl (p : Ref → Prop) (s : State) : Still p s s :=
  ⟨rfl, rfl, rfl, ⟨[], raisesOnly_refl ..⟩, fun ref _ => by cases ref <;> exact rfl, fun _ _ h => h, id⟩

theorem Still.mono {p q : Ref → Prop} (h : Still p s t) (hpq : ∀ ref, q ref → p ref) : Still q s t :=
  { h with kept := fun ref hq => h.kept ref (hpq ref hq) }

theorem Still.trans {p : Ref → Prop} (h : Still p s t) (k : Still p t u) : Still p s u where
  link := k.link.trans h.link
  claims := k.claims.trans h.claims
  tracker := k.tracker.trans h.tracker
  raises := by
    obtain ⟨_, hraises⟩ := h.raises
    obtain ⟨_, kraises⟩ := k.raises
    exact ⟨_, raisesOnly_trans hraises kraises⟩
  kept ref hp := (h.kept ref hp).trans (k.kept ref hp)
  own ref v hv := h.own ref v (k.own ref v hv)
  noOwn hno := k.noOwn (h.noOwn hno)

theorem still_of_keeps {bs : List Block} {ns : List Notice} (h : Keeps bs s t) (hraises : RaisesOnly ns s t)
    (hbs : ∀ b ∈ [Block.cfg, .link, .claims, .tracker, .map, .trucks], b ∉ bs := by simp) (p : Ref → Prop) : Still p s t where
  link := h.2 .link (hbs _ (by simp))
  claims := h.2 .claims (hbs _ (by simp))
  tracker := h.2 .tracker (hbs _ (by simp))
  raises := ⟨ns, hraises⟩
  kept ref _ := refKept_of_keeps h ref fun b hb => hbs b (by simp only [List.mem_cons] at hb ⊢; tauto)
  own ref v hv := by rwa [ownResvAt_of_keeps h fun b hb => hbs b (by simp only [List.mem_cons] at hb ⊢; tauto)] at hv
  noOwn hno := noOwn_of_keeps h hno fun b hb => hbs b (by simp only [List.mem_cons] at hb ⊢; tauto)

/-- The references that the station holds, but one. -/
def OwnBut (x : Ref) (s : State) (ref : Ref) : Prop := (ownResvAt s ref).isSome = true ∧ ref ≠ x

theorem Still.inRound_iff {p : Ref → Prop} (h : Still p s t) (ref : Ref) (v : Reservation) : InRound t ref v ↔ InRound s ref v :=
  inRound_congr (by rw [h.claims]) ref v

theorem Still.sameRound {p : Ref → Prop} (h : Still p s t) : SameRound s t := sameRound_of_eq h.link h.claims

theorem Still.releaseAsked_iff {p : Ref → Prop} (h : Still p s t) (n : Nat) (ref : Ref) :
    ReleaseAsked n ref t ↔ ReleaseAsked n ref s := by rw [ReleaseAsked, ReleaseAsked, h.link, h.claims]

theorem Still.raised {p : Ref → Prop} (h : Still p t u) {n : Notice} (hn : Raised n s t) : Raised n s u := by
  obtain ⟨_, hraises⟩ := h.raises
  exact raised_trans hn hraises

theorem Still.raised_before {p : Ref → Prop} (h : Still p s t) {n : Notice} (hn : Raised n t u) : Raised n s u := by
  obtain ⟨_, hraises⟩ := h.raises
  exact Machine.raised_before hraises hn

/-- A reference that is kept holds what it held. -/
theorem Still.own_of_kept {p : Ref → Prop} (h : Still p s t) {ref : Ref} (hp : p ref) : ownResvAt t ref = ownResvAt s ref :=
  ownResvAt_of_refKept (h.kept ref hp)

/-! ### The end of the task (R165, R166) -/

/-- R165: the task ends in CLAIM_LOST with every own reservation released. -/
theorem endClaimLost_spec (reason : Reason) {k k' : Task} (hk : s.tracker.task = some k') : let t := endClaimLost reason k s
    t.tracker =
      { task := some { k' with state := .claimLost, reason := some reason, waiting := none }
        hook := if k.waiting = some .takeOut then
            s.tracker.hook.map fun h => { h with coil := none, width := none, origin := .unknown }
          else s.tracker.hook } ∧
      Raised .claimLost s t ∧ (k.waiting = some .takeOut → Raised .hookUnknown s t) ∧ NoOwn t ∧ RoundOver s t := by
  have hend (m : State) := enterTerminal_spec .claimLost (some reason) .claimLost m
  have hover (m : State) : RoundOver m (enterTerminal .claimLost (some reason) .claimLost m) :=
    (roundOver_releaseAllOwn [] _).before (sameRound_of_eq rfl rfl)
  have hraises (m : State) : RaisesOnly [.claimLost] m (enterTerminal .claimLost (some reason) .claimLost m) :=
    (loses_enterTerminal (by simp) ..).notices
  unfold endClaimLost
  by_cases hw : k.waiting = some .takeOut
  · simp only [hw, if_true]
    obtain ⟨hreleased, hraised, htracker⟩ := hend (hookUnknown s)
    have hunknown : Raised .hookUnknown s (hookUnknown s) := raise_raised .hookUnknown (setHook _ s)
    refine ⟨?_, raised_before (a := [.hookUnknown]) (raise_raisesOnly .hookUnknown (setHook _ s)) hraised,
      fun _ => raised_trans hunknown (hraises _), noOwn_of_allReleased hreleased, (hover _).before (sameRound_of_eq rfl rfl)⟩
    rw [htracker]
    simp [hookUnknown, setHook, hk]
  · simp only [hw, if_false]
    obtain ⟨hreleased, hraised, htracker⟩ := hend s
    refine ⟨?_, hraised, by simp, noOwn_of_allReleased hreleased, hover s⟩
    rw [htracker, hk]
    rfl

/-- A task that ends in CLAIM_LOST after what began at one reference. -/
theorem taskClaimLost_endClaimLost {x : Ref} {m : State} {k : Task} {target : Option Ref} (reason : Reason)
    (hm : Still (OwnBut x s) s m) (hloses : Loses lossNotices m u) (hfrees : Frees m u)
    (htracker : u.tracker = { s.tracker with task := some { k with target := target } })
    (hround : ∀ t, RoundOver u t → RoundOver s t)
    (hasked : ∀ w, ownResvAt s x = some w → ¬ InRound s x w → ReleaseAsked w.round x u) :
    TaskClaimLost k target reason x s (endClaimLost reason k u) := by
  have htask : u.tracker.task = some { k with target := target } := by rw [htracker]
  have hhook : u.tracker.hook = s.tracker.hook := by rw [htracker]
  obtain ⟨htracker', hraised, hunknown, hno, hover⟩ := endClaimLost_spec reason (k := k) htask
  have hend : Loses lossNotices u (endClaimLost reason k u) := loses_endClaimLost lossNotices_subset reason htask rfl
  have hbefore {n : Notice} (h : Raised n u (endClaimLost reason k u)) : Raised n s (endClaimLost reason k u) :=
    hm.raised_before (raised_before hloses.notices h)
  have hfreed : Frees m (endClaimLost reason k u) := hfrees.trans (frees_endClaimLost ..)
  have hover' := hround _ hover
  refine ⟨?_, hbefore hraised, fun hw => hbefore (hunknown hw), hno, fun y hy hne => ?_, fun y w hw hnot => ?_,
    hover'.counter, ?_⟩
  · rw [htracker', hhook]
  · have hkept : RefKept s m y := hm.kept y ⟨hy, hne⟩
    exact hkept.freed (hfreed.freed_of_none (by rwa [ownResvAt_of_refKept hkept]) (own_none_of_noOwn hno y))
  · by_cases hne : y = x
    · subst hne
      exact hend.asked _ _ (hasked w hw hnot)
    · have hkept : RefKept s m y := hm.kept y ⟨by simp [hw], hne⟩
      have hlost := (hloses.trans hend).own y w (by rw [ownResvAt_of_refKept hkept, hw])
      rw [hm.inRound_iff, own_none_of_noOwn hno y] at hlost
      exact (hlost.resolve_left hnot).resolve_left nofun
  · cases hr : s.claims.round with
    | none => exact hover'.absent hr
    | some r =>
      simp only
      split
      next hp => exact hover'.reassert r hr hp
      next hp => exact hover'.other r hr hp

/-! ### A late objection and a removal (R142) -/

/-- R142, R166: the target is lost from a state in which the task goes on. -/
theorem targetLost_tellTargetLost {x : Ref} {v : Reservation} {k : Task} {m : State} (hk : s.tracker.task = some k)
    (hstate : k.state = .liftPending ∨ k.state = .verifyHold ∨ k.state = .toTarget) (htracker : m.tracker = s.tracker)
    (hraises : ∃ ns, RaisesOnly ns s m) (hasked : ReleaseAsked v.round x m) (hkept : OwnKept (fun y => y = x) s m)
    (hround : RoundWithout x v s m) : TargetLost k x v s (tellTargetLost m) := by
  obtain ⟨ns, hraises⟩ := hraises
  let f (t : Task) : Task := { t with target := none, state := if k.state = .toTarget then .targetLost else t.state }
  have htell : tellTargetLost m = raise .targetLost (updateTask f m) := by
    simp only [tellTargetLost, htracker, hk]
    obtain h | h | h := hstate <;> simp [h, updateTask, f, htracker, hk]
  have hkeeps : Keeps [.tracker] m (raise .targetLost (updateTask f m)) := (keeps_updateTask f m).andThen (keeps_raise ..)
  rw [htell]
  refine ⟨?_, raised_before hraises (raise_raised .targetLost (updateTask f m)), hasked,
    fun y hy hne => (hkept y hy hne).trans (refKept_of_keeps hkeeps y), hround.after (sameRound_of_eq rfl rfl)⟩
  simp [updateTask, htracker, hk, f]

theorem beforeSetDown_iff (st : TaskState) : st.beforeSetDown = true ↔
    st = .toSource ∨ st = .liftPending ∨ st = .verifyHold ∨ st = .toTarget := by
  cases st <;> simp [TaskState.beforeSetDown]

/-- What is said of an own reservation that has been removed and is not of a running START or RETARGET round (R142). -/
def Untold (x : Ref) (v : Reservation) (s t : State) : Prop :=
  t.tracker = s.tracker ∧ OwnKept (fun y => y = x) s t ∧ RoundWithout x v s t

/-- R142, second column, by the part of the reference and the task state. -/
def RemovalTold (x : Ref) (v : Reservation) (k : Task) (s t : State) : Prop :=
  ReleaseAsked v.round x t ∧
  (k.source = x → k.state = .toSource → TaskClaimLost k k.target .removed x s t) ∧
  (k.source = x → k.state ≠ .toSource → Untold x v s t) ∧
  (k.source ≠ x → k.target = some x → k.state = .toSource → TaskClaimLost k none .targetTaken x s t) ∧
  (k.source ≠ x → k.target = some x → (k.state = .liftPending ∨ k.state = .verifyHold ∨ k.state = .toTarget) →
    TargetLost k x v s t) ∧
  (k.source ≠ x → k.target = some x → k.state.beforeSetDown = false → Untold x v s t) ∧
  (k.source ≠ x → k.target ≠ some x → Untold x v s t)

theorem tellTargetLost_of_toSource {m : State} {k : Task} (hk : m.tracker.task = some k) (hstate : k.state = .toSource) :
    tellTargetLost m = endClaimLost .targetTaken k (updateTask (fun t => { t with target := none }) m) := by
  simp [tellTargetLost, hk, hstate]

theorem tellClaimLost_of_toSource {m : State} {k : Task} {reason : Reason} (hk : m.tracker.task = some k)
    (hstate : k.state = .toSource) : tellClaimLost reason m = endClaimLost reason k m := by
  simp [tellClaimLost, hk, hstate]

/-- A removal told to the tracker, the round having gone on without the reference. -/
theorem removalTold_reservationRemoved {x : Ref} {v : Reservation} {k : Task} {m u : State} (hk : s.tracker.task = some k)
    (hv : ownResvAt s x = some v) (hm : Still (OwnBut x s) s m) (hkeeps : Keeps [.link, .claims] m u) (hloses : Loses lossNotices m u)
    (hround : RoundWithout x v s u) : RemovalTold x v k s (reservationRemoved v.round x u) := by
  have hfrees : Frees m u := frees_of_keeps hkeeps
  have htracker : u.tracker = s.tracker := (hkeeps.2 .tracker (by simp)).trans hm.tracker
  have hku : u.tracker.task = some k := htracker ▸ hk
  have hsending : u.link.sending = s.link.sending := by
    rw [hloses.link, hm.link]
  have hraisesTo {t : State} (h : Loses lossNotices u t) : ∃ ns, RaisesOnly ns s t := by
    obtain ⟨_, hraises⟩ := hm.raises
    exact ⟨_, raisesOnly_trans hraises (hloses.trans h).notices⟩
  have hkeptBy {t : State} (h : Keeps [.link, .claims] u t) : OwnKept (fun y => y = x) s t := fun y hy hne =>
    (hm.kept y ⟨hy, hne⟩).trans (refKept_of_keeps (hkeeps.andThen h (ds := [.link, .claims])) y)
  let f : ReleaseFrame := { round := v.round, refs := [x] }
  have hask : Loses lossNotices u (askRelease f u) := loses_askRelease f u
  have hasked : ReleaseAsked v.round x (askRelease f u) := (askRelease_spec f u).2.2.2 x (List.mem_singleton_self x)
  have hsame : SameRound u (askRelease f u) := sameRound_askRelease f u
  have hlet : Untold x v s (askRelease f u) :=
    ⟨(askRelease_tracker ..).trans htracker, hkeptBy (keeps_askRelease f u), hround.after hsame⟩
  have hextra : ReleaseAsked v.round x (releaseAllOwn [f] u) :=
    (askReleases_spec _ _).2.2.2 _ _ (named_foldl_addRequest [] (.inr ⟨f, by simp, rfl, List.mem_singleton_self x⟩))
  have hresolved (w : Reservation) (hw : ownResvAt s x = some w) : w = v := Option.some.inj (hw.symm.trans hv)
  have hremoved : reservationRemoved v.round x u =
      if k.source = x then
        if k.state = .toSource then tellClaimLost .removed (releaseAllOwn [f] u) else askRelease f u
      else if k.target = some x then
        if k.state.beforeSetDown then tellTargetLost (askRelease f u) else askRelease f u
      else askRelease f u := by
    simp only [reservationRemoved, hku]
    rfl
  by_cases hsource : k.source = x
  · by_cases hstate : k.state = .toSource
    · have hall : Loses lossNotices u (releaseAllOwn [f] u) := loses_releaseAllOwn ..
      have htask : (releaseAllOwn [f] u).tracker.task = some k := by rw [releaseAllOwn_tracker, hku]
      have hend := taskClaimLost_endClaimLost (s := s) (x := x) (k := k) (target := k.target) .removed hm
        (hloses.trans hall) (hfrees.trans (frees_releaseAllOwn ..)) (by rw [releaseAllOwn_tracker, htracker, ← hk])
        (fun t ht => hround.over hsending ((roundOver_releaseAllOwn [f] u).trans ht)) fun w hw _ => hresolved w hw ▸ hextra
      rw [hremoved, if_pos hsource, if_pos hstate, tellClaimLost_of_toSource htask hstate]
      refine ⟨?_, fun _ _ => hend, fun _ h => absurd hstate h, fun h => absurd hsource h, fun h => absurd hsource h,
        fun h => absurd hsource h, fun h => absurd hsource h⟩
      exact (loses_endClaimLost lossNotices_subset _ htask rfl).asked _ _ hextra
    · rw [hremoved, if_pos hsource, if_neg hstate]
      exact ⟨hasked, fun _ h => absurd h hstate, fun _ _ => hlet, fun h => absurd hsource h, fun h => absurd hsource h,
        fun h => absurd hsource h, fun h => absurd hsource h⟩
  · by_cases htarget : k.target = some x
    · by_cases hbefore : k.state.beforeSetDown = true
      · have htask : (askRelease f u).tracker.task = some k := by rw [askRelease_tracker, hku]
        rw [hremoved, if_neg hsource, if_pos htarget, if_pos hbefore]
        refine ⟨(loses_tellTargetLost lossNotices_subset _).asked _ _ hasked, fun h => absurd h hsource,
          fun h => absurd h hsource, fun _ _ hstate => ?_, fun _ _ hstate => ?_, fun _ _ h => by simp [h] at hbefore,
          fun _ h => absurd htarget h⟩
        · rw [tellTargetLost_of_toSource htask hstate]
          have hcleared : Loses lossNotices (askRelease f u) (updateTask (fun t => { t with target := none }) (askRelease f u)) :=
            loses_updateTask (f := fun t => { t with target := none }) (fun _ => rfl) (fun _ => .inl rfl) _
          refine taskClaimLost_endClaimLost (k := k) (target := none) .targetTaken hm ((hloses.trans hask).trans hcleared)
            ((hfrees.trans (frees_askRelease ..)).trans (frees_updateTask ..)) ?_ (fun t ht => ?_) fun w hw _ => ?_
          · simp [updateTask, htracker, hk]
          · have hover := ht.before (hsame.trans (sameRound_of_eq (t := updateTask _ (askRelease f u)) rfl rfl))
            exact hround.over hsending hover
          · exact hcleared.asked _ _ (hresolved w hw ▸ hasked)
        · exact targetLost_tellTargetLost hk hstate hlet.1 (hraisesTo hask) hasked hlet.2.1 hlet.2.2
      · rw [hremoved, if_neg hsource, if_pos htarget, if_neg hbefore]
        rw [beforeSetDown_iff] at hbefore
        exact ⟨hasked, fun h => absurd h hsource, fun h => absurd h hsource, fun _ _ h => absurd (.inl h) hbefore,
          fun _ _ h => absurd (.inr h) hbefore, fun _ _ _ => hlet, fun _ h => absurd htarget h⟩
    · rw [hremoved, if_neg hsource, if_neg htarget]
      exact ⟨hasked, fun h => absurd h hsource, fun h => absurd h hsource, fun _ h => absurd h htarget,
        fun _ h => absurd h htarget, fun _ h => absurd h htarget, fun _ _ => hlet⟩

/-! ### A round lost (R136) -/

/-- A round that is closed stays so after a loss. -/
theorem RoundClosed.after {r : Round} (h : RoundClosed r s t) (habsent : StaysAbsent t u)
    (hasked : ∀ n ref, ReleaseAsked n ref t → ReleaseAsked n ref u)
    (hown : ∀ ref v, ownResvAt u ref = some v → ownResvAt t ref = some v) : RoundClosed r s u := by
  obtain ⟨hround, hnone, hclosed⟩ := h
  obtain ⟨hround', hclaim, hwithdrawal⟩ := habsent.round hround
  refine ⟨hround', fun x hx w hw => hnone x hx w (hown _ _ hw), ?_⟩
  cases hstage : r.stage with
  | queued =>
    simp only [hstage] at hclosed ⊢
    rwa [hclaim, hwithdrawal]
  | opened =>
    simp only [hstage] at hclosed ⊢
    exact fun hne x hx => hasked _ _ (hclosed hne x hx)

theorem RoundClosed.before {r : Round} (h : RoundClosed r t u) (k : t.link.sending = s.link.sending) : RoundClosed r s u := by
  obtain ⟨hround, hnone, hclosed⟩ := h
  refine ⟨hround, hnone, ?_⟩
  cases hstage : r.stage with
  | queued =>
    simp only [hstage] at hclosed ⊢
    rwa [← k]
  | opened =>
    simp only [hstage] at hclosed ⊢
    exact hclosed

theorem staysAbsent_tellRoundLost (p : Purpose) (cause : Reason) (s : State) : StaysAbsent s (tellRoundLost p cause s) := by
  cases p with
  | start => exact staysAbsent_tellClaimLost cause s
  | retarget => exact staysAbsent_tellTargetLost s
  | reassert => exact .refl s

theorem loses_tellRoundLost (p : Purpose) (cause : Reason) (s : State) : Loses lossNotices s (tellRoundLost p cause s) := by
  cases p with
  | start => exact loses_tellClaimLost lossNotices_subset cause s
  | retarget => exact loses_tellTargetLost lossNotices_subset s
  | reassert => exact .refl s

/-- R136: the CLAIM of a lost round is recalled. -/
theorem roundClosed_loseRound {cause : Reason} {r : Round} (hr : s.claims.round = some r) (hp : r.purpose ≠ .reassert) :
    RoundClosed r s (loseRound cause s) := by
  rw [loseRound_of_round hr hp]
  exact (roundClosed_closeRound r s).after (staysAbsent_tellRoundLost ..) (loses_tellRoundLost ..).asked
    (sheds_tellRoundLost ..).own

/-- What a lost round held is freed. -/
theorem refFreed_loseRound {cause : Reason} {x : Ref} {w : Reservation} (hw : ownResvAt s x = some w) (hround : InRound s x w) :
    RefFreed s (loseRound cause s) x := by
  obtain ⟨r, hr, hp, hnumber, hmem⟩ := hround
  obtain ⟨e, he, rfl⟩ := List.mem_map.1 hmem
  have hfrees : Frees s (loseRound cause s) := frees_loseRound ..
  refine hfrees.freed_of_none (by simp [hw]) ?_
  obtain hsame | hnone := hfrees.own e.ref
  · exact absurd hnumber ((roundLost_loseRound hr hp).2.1 e he w (hsame.trans hw))
  · exact hnone

/-- R136, R166: a RETARGET round lost from RETARGETING takes from the station what the round held, and nothing else. -/
theorem refsFreed_loseRound_of_retargeting {cause : Reason} {r : Round} {k : Task} (hr : s.claims.round = some r)
    (hp : r.purpose = .retarget) (hk : s.tracker.task = some k) (hstate : k.state = .retargeting) :
    RefsFreed (fun x v => v.round = r.number ∧ x ∈ r.entries.map ClaimEntry.ref) s (loseRound cause s) := by
  let f (t : Task) : Task := { t with target := none, state := .targetLost }
  have htell : tellTargetLost (closeRound r s) = raise .targetLost (updateTask f (closeRound r s)) := by
    simp [tellTargetLost, closeRound_tracker, hk, hstate, f]
  have hkeeps : Keeps [.tracker] (closeRound r s) (raise .targetLost (updateTask f (closeRound r s))) :=
    (keeps_updateTask f _).andThen (keeps_raise ..)
  rw [loseRound_of_round hr (by simp [hp]), hp, tellRoundLost, htell]
  exact (refsFreed_closeRound r s).then_keeps hkeeps

theorem RefsFreed.refKept {p : Ref → Reservation → Prop} (h : RefsFreed p s t) {ref : Ref}
    (hnot : ∀ v, ownResvAt s ref = some v → ¬ p ref v) : RefKept s t ref := by
  cases ref with
  | slot row column => exact h.slots row column hnot
  | cradle bay index => exact cradleContent_of_cradleAt (h.cradles bay index hnot)

/-- A RETARGET round of one reference, lost from RETARGETING, takes nothing else from the station. -/
theorem ownKept_loseRound {cause : Reason} {r : Round} {x : Ref} {k : Task} (hr : s.claims.round = some r)
    (hp : r.purpose = .retarget) (hone : r.entries.map ClaimEntry.ref = [x]) (hk : s.tracker.task = some k)
    (hstate : k.state = .retargeting) : OwnKept (fun y => y = x) s (loseRound cause s) := fun y _ hne => by
  refine (refsFreed_loseRound_of_retargeting hr hp hk hstate).refKept fun v _ h => hne ?_
  rw [hone] at h
  exact List.mem_singleton.1 h.2

/-! ### A removal (R142, second column) -/

/-- A running RETARGET round of one reference whose task is RETARGETING. -/
def RetargetOfOne (s : State) : Prop :=
  ∃ r ∈ s.claims.round, r.purpose = .retarget ∧ r.entries.length = 1 ∧ ∃ k ∈ s.tracker.task, k.state = .retargeting

/-- The round that held a removed reference has been lost (R136). -/
structure RoundRemoved (x : Ref) (s t : State) : Prop where
  lost : ∀ r ∈ s.claims.round, RoundLost r .removed s t ∧ RoundClosed r s t
  freed : ∀ y w, ownResvAt s y = some w → y ≠ x → InRound s y w → RefFreed s t y
  kept : RetargetOfOne s → OwnKept (fun y => y = x) s t

/-- What becomes of a removed reference, by the running round, the task, and the part of the reference. -/
structure Removal (x : Ref) (v : Reservation) (s t : State) : Prop where
  link : LinkKeeps s.link.boxes.book s t
  gone : ownResvAt t x = none
  inRound : InRound s x v → RoundRemoved x s t
  taskless : ¬ InRound s x v → s.tracker.task = none → Untold x v s t
  told : ¬ InRound s x v → ∀ k, s.tracker.task = some k → RemovalTold x v k s t

/-- The statements' words for a removal. -/
theorem Removal.removed {x : Ref} {v : Reservation} (h : Removal x v s t) : Removed x v s t := by
  refine ⟨h.link, h.gone, fun hin r hr => ?_, fun hnot => ?_⟩
  · have hremoved := h.inRound hin
    obtain ⟨hlost, hclosed⟩ := hremoved.lost r hr
    exact ⟨hlost, hclosed, hremoved.freed, fun hp hone hstate => hremoved.kept ⟨r, hr, hp, hone, hstate⟩⟩
  · cases hk : s.tracker.task with
    | none => exact h.taskless hnot hk
    | some k =>
      obtain ⟨hasked, hsource, hsource', htarget, hbefore, hlate, hneither⟩ := h.told hnot k hk
      refine ⟨hasked, ?_⟩
      split_ifs with hs hstate ht
      · exact hsource hs hstate
      · exact hsource' hs hstate
      · cases hstate : k.state with
        | toSource => exact htarget hs ht hstate
        | liftPending => exact hbefore hs ht (.inl hstate)
        | verifyHold => exact hbefore hs ht (.inr (.inl hstate))
        | toTarget => exact hbefore hs ht (.inr (.inr hstate))
        | _ => exact hlate hs ht (by rw [hstate]; rfl)
      · exact hneither hs ht

/-- R136, R142, R147: an own reservation that has left its record is dealt with as removed. -/
theorem removal_ownRemoved {x : Ref} {v : Reservation} {m : State} (hv : ownResvAt s x = some v) (hm : Still (OwnBut x s) s m)
    (hgone : ownResvAt m x = none) : Removal x v s (ownRemoved x v m) := by
  have hloses : Loses lossNotices m (ownRemoved x v m) := loses_ownRemoved lossNotices_subset x v m
  have hlink : LinkKeeps s.link.boxes.book s (ownRemoved x v m) := linkKeeps_trans (linkKeeps_of_eq hm.link) hloses.link
  have hnone : ownResvAt (ownRemoved x v m) x = none := (frees_ownRemoved ..).own_none hgone
  have hnoRound (h : ∀ r, s.claims.round = some r → ¬ (r.purpose = .reassert ∧ v.round = r.number ∧ x ∈ r.entries.map ClaimEntry.ref)) :
      RoundWithout x v s m := roundWithout_of_same hm.sameRound h
  have hmem (r : Round) : r.entries.any (fun e => e.ref == x) = true ↔ x ∈ r.entries.map ClaimEntry.ref := by
    simp [List.any_eq_true, List.mem_map]
  by_cases hin : InRound s x v
  · refine ⟨hlink, hnone, fun _ => ?_, fun h => absurd hin h, fun h => absurd hin h⟩
    obtain ⟨r, hr, hp, hnumber, hx⟩ := hin
    have hmr : m.claims.round = some r := by rw [hm.claims]; exact hr
    have hlose : ownRemoved x v m = loseRound .removed m := by
      simp only [ownRemoved, hmr]
      rw [if_pos ⟨hnumber.symm, (hmem r).2 hx⟩, if_neg hp]
    rw [hlose]
    refine ⟨fun r' hr' => ?_, fun y w hw hne hy => ?_, ?_⟩
    · obtain rfl := Option.some.inj (hr.symm.trans hr')
      obtain ⟨_, hraises⟩ := hm.raises
      exact ⟨(roundLost_loseRound hmr hp).before hm.tracker hraises, (roundClosed_loseRound hmr hp).before (by rw [hm.link])⟩
    · have hkept : RefKept s m y := hm.kept y ⟨by simp [hw], hne⟩
      exact hkept.freed (refFreed_loseRound (by rw [ownResvAt_of_refKept hkept, hw]) ((hm.inRound_iff y w).2 hy))
    · rintro ⟨r', hr', hretarget, hone, k, hk, hstate⟩ y hy hne
      obtain rfl := Option.some.inj (hr.symm.trans hr')
      obtain ⟨e, he⟩ := List.length_eq_one_iff.1 hone
      have hx' : r.entries.map ClaimEntry.ref = [x] := by
        rw [he] at hx ⊢
        simp only [List.map_cons, List.map_nil, List.mem_singleton] at hx ⊢
        rw [hx]
      have hkept : RefKept s m y := hm.kept y ⟨hy, hne⟩
      exact hkept.trans (ownKept_loseRound hmr hretarget hx' (hm.tracker ▸ hk) hstate y
        (by rwa [ownResvAt_of_refKept hkept]) hne)
  · obtain ⟨u, hu, hkeeps, hlosesu, hround⟩ : ∃ u, ownRemoved x v m = reservationRemoved v.round x u ∧
        Keeps [.link, .claims] m u ∧ Loses lossNotices m u ∧ RoundWithout x v s u := by
      cases hr : s.claims.round with
      | none =>
        have hmr : m.claims.round = none := by rw [hm.claims]; exact hr
        exact ⟨m, by simp only [ownRemoved, hmr], keeps_refl .., .refl m, hnoRound (by simp [hr])⟩
      | some r =>
        have hmr : m.claims.round = some r := by rw [hm.claims]; exact hr
        by_cases hheld : r.number = v.round ∧ x ∈ r.entries.map ClaimEntry.ref
        · have hp : r.purpose = .reassert := by
            by_contra hp
            exact hin ⟨r, hr, hp, hheld.1.symm, hheld.2⟩
          refine ⟨dropFromRound x m, ?_, keeps_dropFromRound x m, loses_dropFromRound x m,
            (roundWithout_dropFromRound hmr hp hheld.1.symm hheld.2).before hm.sameRound⟩
          simp only [ownRemoved, hmr]
          rw [if_pos ⟨hheld.1, (hmem r).2 hheld.2⟩, if_pos hp]
        · refine ⟨m, ?_, keeps_refl .., .refl m, hnoRound fun r' hr' h => ?_⟩
          · simp only [ownRemoved, hmr]
            rw [if_neg fun h => hheld ⟨h.1, (hmem r).1 h.2⟩]
          · obtain rfl := Option.some.inj (hr.symm.trans hr')
            exact hheld ⟨h.2.1.symm, h.2.2⟩
    refine ⟨hlink, hnone, fun h => absurd h hin, fun _ hk => ?_, fun _ k hk => ?_⟩
    · have hku : u.tracker.task = none := by rw [hkeeps.2 .tracker (by simp), hm.tracker, hk]
      have hremoved : reservationRemoved v.round x u = u := by simp only [reservationRemoved, hku]
      rw [hu, hremoved]
      exact ⟨(hkeeps.2 .tracker (by simp)).trans hm.tracker,
        fun y hy hne => (hm.kept y ⟨hy, hne⟩).trans (refKept_of_keeps hkeeps y), hround⟩
    · rw [hu]
      exact removalTold_reservationRemoved hk hv hm hkeeps hlosesu hround

end

end Sys2Proof.Machine
end

section
/-! PROOFS. One removal among other changes (R106, R124): what is said of a removed own reservation stands through steps that leave
the other references alone. -/

namespace Sys2Proof.Machine

section
variable {s t u : State} {x : Ref} {v : Reservation}

/-! ### What stands after steps that leave the references alone -/

theorem OwnKept.after (h : OwnKept (fun y => y = x) s t) (k : Still (OwnBut x s) t u) : OwnKept (fun y => y = x) s u :=
  fun y hy hne => (h y hy hne).trans (k.kept y ⟨hy, hne⟩)

theorem TaskClaimLost.after {k : Task} {target : Option Ref} {reason : Reason} (h : TaskClaimLost k target reason x s t)
    (hu : Still (OwnBut x s) t u) : TaskClaimLost k target reason x s u := by
  obtain ⟨htracker, hraised, hunknown, hno, hfreed, hasked, hcounter, hround⟩ := h
  have hbox {z : State} (hz : ClaimBoxKept z t) : ClaimBoxKept z u := hz.trans hu.sameRound.box
  refine ⟨hu.tracker.trans htracker, hu.raised hraised, fun hw => hu.raised (hunknown hw), hu.noOwn hno,
    fun y hy hne => (hfreed y hy hne).kept (hu.kept y ⟨hy, hne⟩), fun y w hw hnot => (hu.releaseAsked_iff ..).2 (hasked y w hw hnot),
    by rw [hu.claims, hcounter], ?_⟩
  cases hr : s.claims.round with
  | none =>
    simp only [hr] at hround ⊢
    exact ⟨hu.claims ▸ hround.1, hbox hround.2⟩
  | some r =>
    simp only [hr] at hround ⊢
    split_ifs at hround ⊢
    · exact hround.after (hu.claims ▸ hround.1) hu.sameRound.box
    · exact ⟨hu.claims ▸ hround.1, hbox hround.2⟩

theorem TargetLost.after {k : Task} (h : TargetLost k x v s t) (hu : Still (OwnBut x s) t u) : TargetLost k x v s u := by
  obtain ⟨htracker, hraised, hasked, hkept, hround⟩ := h
  exact ⟨hu.tracker.trans htracker, hu.raised hraised, (hu.releaseAsked_iff ..).2 hasked, hkept.after hu,
    hround.after hu.sameRound⟩

theorem Untold.after (h : Untold x v s t) (hu : Still (OwnBut x s) t u) : Untold x v s u := by
  obtain ⟨htracker, hkept, hround⟩ := h
  exact ⟨hu.tracker.trans htracker, hkept.after hu, hround.after hu.sameRound⟩

theorem RemovalTold.after {k : Task} (h : RemovalTold x v k s t) (hu : Still (OwnBut x s) t u) : RemovalTold x v k s u := by
  obtain ⟨hasked, hsource, hsource', htarget, hbefore, hlate, hneither⟩ := h
  exact ⟨(hu.releaseAsked_iff ..).2 hasked, fun a b => (hsource a b).after hu, fun a b => (hsource' a b).after hu,
    fun a b c => (htarget a b c).after hu, fun a b c => (hbefore a b c).after hu, fun a b c => (hlate a b c).after hu,
    fun a b => (hneither a b).after hu⟩

theorem own_none_of_mono (h : ∀ ref w, ownResvAt u ref = some w → ownResvAt t ref = some w) {ref : Ref}
    (hnone : ownResvAt t ref = none) : ownResvAt u ref = none :=
  Option.eq_none_iff_forall_ne_some.2 fun w hw => by
    have hw' := h ref w hw
    rw [hnone] at hw'
    cases hw'

/-- A round that is lost stays lost after a step that brings no own reservation and leaves the task. -/
theorem RoundLost.after {r : Round} {cause : Reason} {ns : List Notice} (h : RoundLost r cause s t)
    (hround : u.claims.round = none) (hown : ∀ ref w, ownResvAt u ref = some w → ownResvAt t ref = some w)
    (hno : NoOwn t → u.tracker = t.tracker ∧ NoOwn u) (hraises : RaisesOnly ns t u)
    (htask : ∀ k, t.tracker.task = some k → k.target = none → k.state = .targetLost → u.tracker.task = some k) :
    RoundLost r cause s u := by
  obtain ⟨-, hnone, htold⟩ := h
  refine ⟨hround, fun e he w hw => hnone e he w (hown _ _ hw), fun k hk => ?_⟩
  obtain ⟨hstart, hretarget⟩ := htold k hk
  refine ⟨fun hp hstate => ?_, fun hp hstate => ?_⟩
  · obtain ⟨hlost, hraised, hnoOwn⟩ := hstart hp hstate
    obtain ⟨htracker, hnoOwn'⟩ := hno hnoOwn
    exact ⟨by rw [htracker, hlost], raised_trans hraised hraises, hnoOwn'⟩
  · obtain ⟨hlost, hraised⟩ := hretarget hp hstate
    exact ⟨htask _ hlost rfl rfl, raised_trans hraised hraises⟩

theorem Still.staysAbsent {p : Ref → Prop} (h : Still p s t) : StaysAbsent s t :=
  staysAbsent_of_tracker h.tracker fun hround => ⟨by rw [h.claims, hround], h.sameRound.box⟩

theorem RoundLost.still {p : Ref → Prop} {r : Round} {cause : Reason} (h : RoundLost r cause s t) (hu : Still p t u) :
    RoundLost r cause s u := by
  obtain ⟨_, hraises⟩ := hu.raises
  exact h.after (by rw [hu.claims]; exact h.1) hu.own (fun hno => ⟨hu.tracker, hu.noOwn hno⟩) hraises
    fun k hk _ _ => by rw [hu.tracker, hk]

theorem RoundClosed.still {p : Ref → Prop} {r : Round} (h : RoundClosed r s t) (hu : Still p t u) : RoundClosed r s u :=
  h.after hu.staysAbsent (fun n ref => (hu.releaseAsked_iff n ref).2) hu.own

theorem RoundRemoved.after (h : RoundRemoved x s t) (hu : Still (OwnBut x s) t u) : RoundRemoved x s u where
  lost r hr := by
    obtain ⟨hlost, hclosed⟩ := h.lost r hr
    exact ⟨hlost.still hu, hclosed.still hu⟩
  freed y w hw hne hin := (h.freed y w hw hne hin).kept (hu.kept y ⟨by simp [hw], hne⟩)
  kept hone := (h.kept hone).after hu

theorem Removal.after (h : Removal x v s t) (hu : Still (OwnBut x s) t u) : Removal x v s u where
  link := linkKeeps_trans h.link (linkKeeps_of_eq hu.link)
  gone := own_none_of_mono hu.own h.gone
  inRound hin := (h.inRound hin).after hu
  taskless hnot hk := (h.taskless hnot hk).after hu
  told hnot k hk := (h.told hnot k hk).after hu

/-- A reference that the station does not hold is kept. -/
theorem Frees.kept_of_none (h : Frees s t) {ref : Ref} (hnone : ownResvAt s ref = none) : RefKept s t ref :=
  (h.kept_or_freed ref).resolve_right fun hfreed => by simp [hnone] at hfreed

/-! ### At most one reference removed -/

/-- The references that the station holds. -/
def OwnRefs (s : State) (ref : Ref) : Prop := (ownResvAt s ref).isSome = true

/-- Of the references that a test names at most one has been removed, and with none nothing else of the station has changed: then
only the blocks and notices given. -/
structure Tracked (bs : List Block) (ns : List Notice) (p : Ref → Prop) (s t : State) : Prop where
  own : ∀ ref v, ownResvAt t ref = some v → ownResvAt s ref = some v
  state : Still (OwnRefs s) s t ∧ Keeps bs s t ∧ RaisesOnly ns s t ∨
    ∃ x v, p x ∧ ownResvAt s x = some v ∧ Removal x v s t

variable {bs : List Block} {ns : List Notice} {p : Ref → Prop}

theorem Tracked.refl (s : State) : Tracked bs ns p s s :=
  ⟨fun _ _ h => h, .inl ⟨.refl _ s, keeps_refl .., raisesOnly_refl ..⟩⟩

/-- A step that removes nothing. -/
theorem Tracked.still (h : Tracked bs ns p s t) (hone : ∀ x y, p x → p y → x = y) (hkeeps : Keeps bs t u) (hraises : RaisesOnly ns t u)
    (hu : Still (fun ref => OwnRefs s ref ∧ (p ref → OwnRefs t ref)) t u) : Tracked bs ns p s u := by
  refine ⟨fun ref v hv => h.own ref v (hu.own ref v hv), ?_⟩
  obtain ⟨hstill, hkeeps', hraises'⟩ | ⟨x, v, hp, hv, hremoval⟩ := h.state
  · refine .inl ⟨hstill.trans (hu.mono fun ref href => ⟨href, fun _ => ?_⟩), keeps_trans hkeeps' hkeeps,
      raisesOnly_mono (by simp) (raisesOnly_trans hraises' hraises)⟩
    rwa [OwnRefs, hstill.own_of_kept href]
  · exact .inr ⟨x, v, hp, hv, hremoval.after (hu.mono fun ref href => ⟨href.1, fun hp' => absurd (hone _ _ hp' hp) href.2⟩)⟩

/-- A step that removes one of the references named. -/
theorem Tracked.remove {y : Ref} {w : Reservation} {m : State} (h : Tracked bs ns p s t) (hone : ∀ x y, p x → p y → x = y)
    (hw : ownResvAt t y = some w) (hp : p y) (hm : Still (fun ref => ref ≠ y) t m) (hgone : ownResvAt m y = none) :
    Tracked bs ns p s (ownRemoved y w m) := by
  refine ⟨fun ref z hz => h.own ref z (hm.own ref z ((frees_ownRemoved ..).own_some hz)), .inr ?_⟩
  obtain ⟨hstill, -, -⟩ | ⟨x, v, hpx, -, hremoval⟩ := h.state
  · exact ⟨y, w, hp, h.own y w hw, removal_ownRemoved (h.own y w hw)
      ((hstill.mono fun ref href => href.1).trans (hm.mono fun ref href => href.2)) hgone⟩
  · rw [hone _ _ hp hpx, hremoval.gone] at hw
    cases hw

/-- With nothing named nothing is removed. -/
theorem Tracked.none_removed (h : Tracked bs ns p s t) (hnone : ∀ x, ¬ p x) :
    Still (OwnRefs s) s t ∧ Keeps bs s t ∧ RaisesOnly ns s t :=
  h.state.resolve_right fun ⟨x, _, hp, _⟩ => hnone x hp

/-- A named reference that the station would not hold, had nothing been removed, is the one removed. -/
theorem Tracked.removal (h : Tracked bs ns p s t) (hone : ∀ x y, p x → p y → x = y) (hp : p x) (hv : ownResvAt s x = some v)
    (hgone : Still (OwnRefs s) s t → ownResvAt t x = none) : Removal x v s t := by
  obtain ⟨hstill, -, -⟩ | ⟨y, w, hq, hw, hremoval⟩ := h.state
  · have hkept := hstill.own_of_kept (show OwnRefs s x by rw [OwnRefs, hv]; rfl)
    rw [hgone hstill, hv] at hkept
    cases hkept
  · obtain rfl := hone _ _ hp hq
    obtain rfl := Option.some.inj (hv.symm.trans hw)
    exact hremoval

end

end Sys2Proof.Machine
end

section
/-! PROOFS. Undermined targets checked one after another (R113, R124): what the checks leave of the records, the link and the task,
whatever they take from the station. -/

namespace Sys2Proof.Machine

section
variable {s t u : State}

theorem Frees.isSlot_iff (h : Frees s t) (row column : Nat) : isSlot t row column ↔ isSlot s row column := by
  unfold isSlot
  obtain h | ⟨-, h⟩ := h.slot row column
  · rw [h]
  · rw [h, Option.isSome_map]

/-! ### What removals may leave -/

/-- What removals may leave: own reservations freed; of one lost its round or a RELEASE, where there is a task. -/
structure Removes (s t : State) : Prop where
  frees : Frees s t
  keeps : Keeps lossBlocks s t
  notices : RaisesOnly lossNotices s t
  asked : ∀ n ref, ReleaseAsked n ref s → ReleaseAsked n ref t
  lost : ∀ ref v, ownResvAt s ref = some v →
    ownResvAt t ref = some v ∨ InRound s ref v ∨ ReleaseAsked v.round ref t ∨ s.tracker.task = none
  inRound : ∀ ref v, InRound t ref v → InRound s ref v
  task : t.tracker.task = none ↔ s.tracker.task = none

theorem Removes.refl (s : State) : Removes s s :=
  ⟨.refl s, keeps_refl .., raisesOnly_refl .., fun _ _ h => h, fun _ _ h => .inl h, fun _ _ h => h, Iff.rfl⟩

theorem Removes.trans (h : Removes s t) (k : Removes t u) : Removes s u where
  frees := h.frees.trans k.frees
  keeps := keeps_trans h.keeps k.keeps
  notices := raisesOnly_mono (by simp) (raisesOnly_trans h.notices k.notices)
  asked n ref ha := k.asked n ref (h.asked n ref ha)
  lost ref v hv := by
    obtain ht | hin | hasked | htask := h.lost ref v hv
    · exact (k.lost ref v ht).imp_right (Or.imp (h.inRound ref v) (Or.imp_right h.task.1))
    · exact .inr (.inl hin)
    · exact .inr (.inr (.inl (k.asked _ _ hasked)))
    · exact .inr (.inr (.inr htask))
  inRound ref v hin := h.inRound ref v (k.inRound ref v hin)
  task := k.task.trans h.task

theorem Loses.task_none (h : Loses lossNotices s t) : t.tracker.task = none ↔ s.tracker.task = none := by
  have htask := h.task
  cases hs : s.tracker.task <;> cases ht : t.tracker.task <;> simp_all

/-- A step that frees one reference and deals with it as removed. -/
theorem removes_ownRemoved {y : Ref} {w : Reservation} {m : State} (hw : ownResvAt s y = some w) (hfrees : Frees s m)
    (hm : Still (fun ref => ref ≠ y) s m) (hkeeps : Keeps [.map, .trucks] s m) (hnotices : m.notices = s.notices)
    (hgone : ownResvAt m y = none) : Removes s (ownRemoved y w m) := by
  have hloses : Loses lossNotices m (ownRemoved y w m) := loses_ownRemoved lossNotices_subset y w m
  have hremoval := removal_ownRemoved hw (hm.mono fun ref href => href.2) hgone
  refine ⟨hfrees.trans (frees_ownRemoved ..), hkeeps.andThen hloses.keeps (by simp [lossBlocks]) (by simp),
    raisesOnly_mono (by simp) (raisesOnly_trans (raisesOnly_of_eq (ns := []) hnotices) hloses.notices),
    fun n ref ha => hloses.asked n ref ((hm.releaseAsked_iff n ref).2 ha), fun ref v hv => ?_,
    fun ref v hin => (hm.inRound_iff ref v).1 (hloses.inRound ref v hin), hloses.task_none.trans (by rw [hm.tracker])⟩
  by_cases href : ref = y
  · subst href
    obtain rfl := Option.some.inj (hw.symm.trans hv)
    by_cases hin : InRound s ref w
    · exact .inr (.inl hin)
    · cases hk : s.tracker.task with
      | none => exact .inr (.inr (.inr rfl))
      | some k => exact .inr (.inr (.inl (hremoval.told hin k hk).1))
  · obtain hin | hkept | hasked := hloses.own ref v ((hm.own_of_kept href).trans hv)
    · exact .inr (.inl ((hm.inRound_iff ref v).1 hin))
    · exact .inl hkept
    · exact .inr (.inr (.inl hasked))

/-! ### A record put in one slot -/

/-- A record put in one slot brings no reservation but its own. -/
theorem noOwn_setSlot {row column : Nat} {r : SlotRecord} (hr : ∀ v, slotResv r.content = some v → v.holder ≠ .own) (hno : NoOwn s) :
    NoOwn (setSlot row column r s) := by
  intro v hv
  obtain ⟨hbay0, hbay1⟩ := (keeps_setSlot row column r s).2 .trucks (by simp)
  rw [mem_allReservations] at hv
  obtain ⟨r', hr', hv⟩ | hcradle := hv
  · have hmem : r' ∈ s.map ∨ r' = r := by
      unfold setSlot at hr'
      split at hr'
      · exact .inl hr'
      · split at hr'
        · exact .inl hr'
        · exact List.mem_or_eq_of_mem_set hr'
    obtain hmem | rfl := hmem
    · exact hno v (mem_allReservations.2 (.inl ⟨r', hmem, hv⟩))
    · exact hr v hv
  · rw [bayRecord_congr hbay0 hbay1] at hcradle
    exact hno v (mem_allReservations.2 (.inr hcradle))

/-- A record put in one slot, with no own reservation in it. -/
theorem still_setSlot {row column : Nat} {r : SlotRecord} (hr : ∀ v, slotResv r.content = some v → v.holder ≠ .own) :
    Still (fun ref => ref ≠ .slot row column) s (setSlot row column r s) := by
  have hset : Keeps [.map] s (setSlot row column r s) := keeps_setSlot row column r s
  have hkept : ∀ ref, ref ≠ .slot row column → RefKept s (setSlot row column r s) ref := by
    intro ref href
    cases ref with
    | slot row' column' => exact slotAt_setSlot_ne r s (by simpa using href)
    | cradle bay index =>
      exact cradleContent_of_cradleAt (congrFun (congrFun (cradleAt_congr (bayRecord_of_keeps hset (by simp))) bay) index)
  exact {
    link := hset.2 .link (by simp)
    claims := hset.2 .claims (by simp)
    tracker := hset.2 .tracker (by simp)
    raises := ⟨[], raisesOnly_of_eq (setSlot_notices ..)⟩
    kept := hkept
    own := fun ref v hv => by
      by_cases href : ref = .slot row column
      · subst href
        by_cases hslot : isSlot s row column
        · obtain ⟨hresv, hown⟩ := ownResvAt_eq_some_iff.1 hv
          rw [resvAt_slot, contentAt_setSlot_same r hslot] at hresv
          exact absurd (of_decide_eq_true hown) (hr v hresv)
        · rwa [setSlot_of_not_isSlot r (by simpa [isSlot] using hslot)] at hv
      · rwa [ownResvAt_of_refKept (hkept ref href)] at hv
    noOwn := noOwn_setSlot hr }

/-! ### Undermined targets checked (R124) -/

/-- An own target resting on a lower slot that is not OCCUPIED. -/
def Undermined (s : State) (row column : Nat) : Prop :=
  (ownResvAt s (.slot row column)).isSome = true ∧ holdsNothing (contentAt s row column) = true ∧ isUpper column = true ∧
    bothLowersOccupied s row column = false

/-- A slot emptied by the station. -/
def emptied (row column : Nat) (s : State) : State := setSlot row column { content := .empty, source := .own } s

/-- An own reservation in a slot that holds nothing is that of a target. -/
theorem reservedIn_of_holdsNothing {row column : Nat} {v : Reservation} (hv : ownResvAt s (.slot row column) = some v)
    (hnothing : holdsNothing (contentAt s row column) = true) : contentAt s row column = .reservedIn v := by
  obtain ⟨hresv, -⟩ := ownResvAt_eq_some_iff.1 hv
  rw [resvAt_slot] at hresv
  cases hc : contentAt s row column <;> simp_all [slotResv, holdsNothing]

theorem checkUpper_cases (row column : Nat) (s : State) :
    checkUpper row column s = s ∧ ¬ Undermined s row column ∨
    Undermined s row column ∧ ∃ v, ownResvAt s (.slot row column) = some v ∧
      checkUpper row column s = ownRemoved (.slot row column) v (emptied row column s) := by
  by_cases h : Undermined s row column
  · obtain ⟨hown, hnothing, hupper, hlower⟩ := h
    obtain ⟨v, hv⟩ := Option.isSome_iff_exists.1 hown
    have hisown := (ownResvAt_eq_some_iff.1 hv).2
    refine .inr ⟨⟨hown, hnothing, hupper, hlower⟩, v, hv, ?_⟩
    simp [checkUpper, reservedIn_of_holdsNothing hv hnothing, hisown, hupper, hlower, emptied]
  · refine .inl ⟨?_, h⟩
    unfold checkUpper
    split
    next v hc =>
      refine if_neg fun ⟨hisown, hupper, hlower⟩ => h ?_
      have hv : ownResvAt s (.slot row column) = some v := ownResvAt_eq_some_iff.2 ⟨by rw [resvAt_slot, hc]; rfl, hisown⟩
      exact ⟨by rw [hv]; rfl, by rw [hc]; rfl, hupper, by simpa using hlower⟩
    · rfl

section
variable {row column : Nat}

theorem isSlot_of_own {v : Reservation} (hv : ownResvAt s (.slot row column) = some v) : isSlot s row column := by
  obtain ⟨hresv, -⟩ := ownResvAt_eq_some_iff.1 hv
  obtain ⟨r, hr, -⟩ := slotAt_of_contentAt (s := s) (row := row) (column := column) rfl
    (by intro hempty; simp [resvAt_slot, hempty, slotResv] at hresv)
  rw [isSlot, hr]
  rfl

theorem slotAt_emptied (h : isSlot s row column) :
    slotAt (emptied row column s) row column = some { content := .empty, source := .own } := slotAt_setSlot_same _ h

theorem still_emptied (row column : Nat) (s : State) : Still (fun ref => ref ≠ .slot row column) s (emptied row column s) :=
  still_setSlot (by simp [slotResv])

theorem slot_without_of_target {v : Reservation} (hv : ownResvAt s (.slot row column) = some v)
    (hnothing : holdsNothing (contentAt s row column) = true) :
    (slotAt s row column).map (SlotRecord.without ofStation .own) = some { content := .empty, source := .own } := by
  have hcontent := reservedIn_of_holdsNothing hv hnothing
  obtain ⟨r, hr⟩ := Option.isSome_iff_exists.1 (isSlot_of_own hv)
  rw [contentAt_of_slotAt hr] at hcontent
  have hown : ofStation v = true := (ownResvAt_eq_some_iff.1 hv).2
  simp [hr, SlotRecord.without, SlotContent.without, hcontent, slotResv, hown]

theorem frees_emptied (h : Undermined s row column) : Frees s (emptied row column s) := by
  obtain ⟨hown, hnothing, -⟩ := h
  obtain ⟨v, hv⟩ := Option.isSome_iff_exists.1 hown
  have hkeeps : Keeps [.map] s (emptied row column s) := keeps_setSlot ..
  refine ⟨fun r k => ?_, fun bay index => .inl ?_, sameTruckFacts_of_keeps hkeeps⟩
  · by_cases hrk : (r, k) = (row, column)
    · obtain ⟨rfl, rfl⟩ := Prod.mk.inj hrk
      exact .inr ⟨hown, by rw [slotAt_emptied (isSlot_of_own hv), slot_without_of_target hv hnothing]⟩
    · exact .inl ((still_emptied row column s).kept (.slot r k) (by simpa using hrk))
  · exact congrFun (congrFun (cradleAt_congr (bayRecord_of_keeps hkeeps (by simp))) bay) index

theorem own_none_of_emptied (h : isSlot s row column) : ownResvAt (emptied row column s) (.slot row column) = none := by
  simp [ownResvAt, resvAt_slot, contentAt_of_slotAt (slotAt_emptied h), slotResv]

theorem removes_checkUpper (row column : Nat) (s : State) : Removes s (checkUpper row column s) := by
  obtain ⟨heq, -⟩ | ⟨hunder, v, hv, heq⟩ := checkUpper_cases row column s
  · rw [heq]
    exact .refl s
  · rw [heq]
    exact removes_ownRemoved hv (frees_emptied hunder) (still_emptied row column s) (keeps_mono (by simp) (keeps_setSlot ..))
      (setSlot_notices ..) (own_none_of_emptied (isSlot_of_own hv))

/-- After its check a target that rests on a lower slot not OCCUPIED is EMPTY. -/
theorem slotAt_checkUpper (h : Undermined s row column) :
    slotAt (checkUpper row column s) row column = some { content := .empty, source := .own } := by
  obtain ⟨-, hnot⟩ | ⟨-, v, hv, heq⟩ := checkUpper_cases row column s
  · exact absurd h hnot
  · have hslot := isSlot_of_own hv
    rw [heq, (frees_ownRemoved ..).slot_of_none (own_none_of_emptied hslot), slotAt_emptied hslot]

theorem Tracked.checkUpper {bs : List Block} {ns : List Notice} {p : Ref → Prop} (h : Tracked bs ns p s t)
    (hone : ∀ x y, p x → p y → x = y) (hp : Undermined t row column → p (.slot row column)) :
    Tracked bs ns p s (checkUpper row column t) := by
  obtain ⟨heq, -⟩ | ⟨hunder, v, hv, heq⟩ := checkUpper_cases row column t
  · rwa [heq]
  · rw [heq]
    exact h.remove hone hv (hp hunder) (still_emptied row column t) (own_none_of_emptied (isSlot_of_own hv))

end

/-- Slots checked one after another. -/
def checkAll (ps : List (Nat × Nat)) (s : State) : State := ps.foldl (fun s p => checkUpper p.1 p.2 s) s

theorem removes_checkAll (ps : List (Nat × Nat)) (s : State) : Removes s (checkAll ps s) := by
  induction ps generalizing s with
  | nil => exact .refl s
  | cons p ps ih => exact (removes_checkUpper ..).trans (ih _)

theorem frees_checkAll (ps : List (Nat × Nat)) (s : State) : Frees s (checkAll ps s) := (removes_checkAll ps s).frees

/-- Freed reservations leave what is OCCUPIED. -/
theorem Frees.occupied (h : Frees s t) {row column : Nat} (hocc : isOccupied (contentAt s row column) = true) :
    isOccupied (contentAt t row column) = true := by
  obtain h | ⟨hown, -⟩ := h.slot row column
  · rwa [contentAt_congr h]
  · cases hc : contentAt s row column <;> simp_all [ownResvAt, resvAt_slot, slotResv, isOccupied]

theorem Frees.bothLowers (h : Frees s t) {row column : Nat} (hboth : bothLowersOccupied s row column = true) :
    bothLowersOccupied t row column = true := by
  simp only [bothLowersOccupied, Bool.and_eq_true] at hboth ⊢
  exact hboth.imp h.occupied h.occupied

/-- R124: a checked target that in the end rests on a lower slot not OCCUPIED is EMPTY, with own as its source. -/
theorem slotAt_checkAll {ps : List (Nat × Nat)} {row column : Nat} (hmem : (row, column) ∈ ps) (hupper : isUpper column = true)
    {v : Reservation} (hv : ownResvAt s (.slot row column) = some v) (hnothing : holdsNothing (contentAt s row column) = true)
    (hlower : bothLowersOccupied (checkAll ps s) row column = false) :
    slotAt (checkAll ps s) row column = some { content := .empty, source := .own } := by
  induction ps generalizing s with
  | nil => cases hmem
  | cons p ps ih =>
    have hfirst := (removes_checkUpper p.1 p.2 s).frees
    have hrest := frees_checkAll ps (checkUpper p.1 p.2 s)
    have hstays (h : slotAt (checkUpper p.1 p.2 s) row column = some { content := .empty, source := .own }) :
        slotAt (checkAll (p :: ps) s) row column = some { content := .empty, source := .own } := by
      refine (hrest.slot_of_none ?_).trans h
      simp [ownResvAt, resvAt_slot, contentAt_of_slotAt h, slotResv]
    have hall := frees_checkAll (p :: ps) s
    have hunder : Undermined s row column := by
      refine ⟨by rw [hv]; rfl, hnothing, hupper, ?_⟩
      by_contra hboth
      have := hall.bothLowers (by simpa using hboth)
      rw [hlower] at this
      cases this
    obtain rfl | hmem := List.mem_cons.1 hmem
    · exact hstays (slotAt_checkUpper hunder)
    · obtain hsame | ⟨-, hfreed⟩ := hfirst.slot row column
      · exact ih hmem (by rw [ownResvAt_slot_congr hsame, hv]) (by rwa [contentAt_congr hsame]) hlower
      · exact hstays (by rw [hfreed, slot_without_of_target hv hnothing])

theorem Tracked.checkAll {bs : List Block} {ns : List Notice} {p : Ref → Prop} {ps : List (Nat × Nat)} (h : Tracked bs ns p s t)
    (hone : ∀ x y, p x → p y → x = y)
    (hp : ∀ u, Frees t u → ∀ q ∈ ps, Undermined u q.1 q.2 → p (.slot q.1 q.2)) :
    Tracked bs ns p s (checkAll ps t) := by
  induction ps generalizing t with
  | nil => exact h
  | cons q ps ih =>
    refine ih (h.checkUpper hone (hp t (.refl t) q List.mem_cons_self)) fun u hu q' hq' => ?_
    exact hp u ((removes_checkUpper ..).frees.trans hu) q' (List.mem_cons_of_mem q hq')

/-! ### What is checked, and what the statements say of it (R113, R124) -/

/-- The slots that rest on a slot are upper slots beside it in its row. -/
theorem rests_of_mem_restingOn {p q : Nat × Nat} (h : q ∈ restingOn s p) : q.1 = p.1 ∧ restsOnSlot q.2 p.2 := by
  unfold restingOn at h
  split at h
  · cases h
  next g hg =>
    obtain ⟨k, hk, rfl⟩ := List.mem_map.1 h
    refine ⟨rfl, ?_⟩
    unfold uppersOn at hk
    simp only [restsOnSlot, isUpper, decide_eq_true_eq] at hk ⊢
    split_ifs at hk <;> simp at hk <;> omega

/-- An upper slot that rests on a slot is among those checked for it. -/
theorem mem_uppersOn {g : Geometry} {row column k : Nat} (hg : s.cfg.geometry = some g) (hslot : isSlot s row k)
    (hrests : restsOnSlot k column) : k ∈ uppersOn g column := by
  have hcolumns : k < columns g := by
    by_contra hge
    have hindex : slotIndex g row k = none := if_neg fun h => hge h.2
    simp [isSlot, slotAt, hg, hindex] at hslot
  obtain ⟨hupper, hbeside⟩ := hrests
  simp only [isUpper, decide_eq_true_eq] at hupper
  unfold uppersOn
  rw [if_neg (by simp only [isUpper, decide_eq_true_eq]; omega)]
  obtain rfl | rfl := hbeside
  · simp [hcolumns]
  · simp

theorem geometry_of_isSlot {row k : Nat} (h : isSlot s row k) : ∃ g, s.cfg.geometry = some g := by
  cases hg : s.cfg.geometry with
  | none => simp [isSlot, slotAt, hg] at h
  | some g => exact ⟨g, rfl⟩

theorem mem_restingOn {row column k : Nat} (hslot : isSlot s row k) (hrests : restsOnSlot k column) :
    (row, k) ∈ restingOn s (row, column) := by
  obtain ⟨g, hg⟩ := geometry_of_isSlot hslot
  simp only [restingOn, hg]
  exact List.mem_map.2 ⟨k, mem_uppersOn hg hslot hrests, rfl⟩

/-- R124: a checked target is freed where it had to be. -/
theorem upperFreed_checkAll {ps : List (Nat × Nat)} {row k : Nat} (hmem : (row, k) ∈ ps) (hupper : isUpper k = true) :
    UpperFreed row k s (checkAll ps s) := by
  intro hnothing hlower v hv
  have hempty := slotAt_checkAll hmem hupper hv hnothing hlower
  have hnone : ownResvAt (checkAll ps s) (.slot row k) = none := by
    simp [ownResvAt, resvAt_slot, contentAt_of_slotAt hempty, slotResv]
  refine ⟨contentAt_of_slotAt hempty, by rw [sourceAt, hempty]; rfl, fun htask hnot => ?_⟩
  have hlost := (removes_checkAll ps s).lost (.slot row k) v hv
  rw [hnone] at hlost
  exact ((hlost.resolve_left nofun).resolve_left hnot).resolve_right htask

/-- What is said of a checked target stands before and after steps that leave the slots. -/
theorem UpperFreed.before {p : Ref → Prop} {row k : Nat} (h : UpperFreed row k t u) (hs : Still p s t) (hp : p (.slot row k)) :
    UpperFreed row k s u := by
  intro hnothing hlower v hv
  have hslot : slotAt t row k = slotAt s row k := hs.kept _ hp
  obtain ⟨hempty, hsource, hasked⟩ := h (by rwa [contentAt_congr hslot]) hlower v (by rw [ownResvAt_slot_congr hslot, hv])
  exact ⟨hempty, hsource, fun htask hnot => hasked (by rwa [hs.tracker]) (mt (hs.inRound_iff ..).1 hnot)⟩

theorem UpperFreed.after {row k : Nat} (h : UpperFreed row k s t) (hu : Still (fun _ => True) t u) : UpperFreed row k s u := by
  have hslot (j : Nat) : slotAt u row j = slotAt t row j := hu.kept (.slot row j) trivial
  have hcontent (j : Nat) : contentAt u row j = contentAt t row j := contentAt_congr (hslot j)
  intro hnothing hlower v hv
  obtain ⟨hempty, hsource, hasked⟩ := h hnothing (by rwa [bothLowersOccupied, hcontent, hcontent] at hlower) v hv
  exact ⟨by rw [hcontent, hempty], by rw [sourceAt_congr (hslot k), hsource],
    fun htask hnot => (hu.releaseAsked_iff ..).2 (hasked htask hnot)⟩

/-- The end of a step leaves all that is said of the station's references. -/
theorem still_settle (s : State) : Still (fun _ => True) s (settle s) :=
  still_of_keeps (keeps_settle s) (raisesOnly_settle s) (by simp) _

end

end Sys2Proof.Machine
end

section
/-! PROOFS. MAP_WRITE (R105, R107, R112, R113, R124): its checks, the slot written, the law of the tiers, and the claim about it. -/

namespace Sys2Proof.Machine

section
variable {s t : State} {row column : Nat} {content : SlotContent} {old : SlotRecord}

/-! ### The slot written -/

/-- R113: the state with what was written. -/
def written (row column : Nat) (content : SlotContent) (s : State) : State :=
  setSlot row column { content := content, source := .crane } s

theorem writeSlot_eq (row column : Nat) (content : SlotContent) (s : State) : writeSlot row column content s =
    checkAll ((row, column) :: restingOn (written row column content s) (row, column)) (written row column content s) := rfl

theorem slotResv_writtenContent {state : Nat} {coil : Option CoilId} {weight width : Option Nat}
    (h : writtenContent state coil weight width = some content) : slotResv content = none := by
  unfold writtenContent at h
  split at h <;> cases h <;> rfl

theorem keeps_written (row column : Nat) (content : SlotContent) (s : State) : Keeps [.map] s (written row column content s) :=
  keeps_setSlot ..

theorem still_written (hresv : slotResv content = none) :
    Still (fun ref => ref ≠ .slot row column) s (written row column content s) :=
  still_setSlot (by simp [hresv])

theorem slotAt_written (h : isSlot s row column) :
    slotAt (written row column content s) row column = some { content := content, source := .crane } := slotAt_setSlot_same _ h

theorem contentAt_written (h : isSlot s row column) (k : Nat) :
    contentAt (written row column content s) row k = if k = column then content else contentAt s row k := by
  split
  next heq => rw [heq, contentAt_of_slotAt (slotAt_written h)]
  next hne => exact contentAt_congr (slotAt_setSlot_ne _ s (by simpa using hne))

theorem own_none_of_written (h : isSlot s row column) (hresv : slotResv content = none) :
    ownResvAt (written row column content s) (.slot row column) = none := by
  simp [ownResvAt, resvAt_slot, contentAt_of_slotAt (slotAt_written h), hresv]

/-! ### The law of the tiers (R107) -/

theorem holdsNothing_without (p : Reservation → Bool) (c : SlotContent) : holdsNothing (c.without p) = holdsNothing c := by
  cases c with
  | reservedIn v => by_cases h : p v = true <;> simp [SlotContent.without, holdsNothing, h]
  | reservedOut i v => by_cases h : p v = true <;> simp [SlotContent.without, holdsNothing, h]
  | _ => rfl

theorem slotCoil_without (p : Reservation → Bool) (c : SlotContent) : slotCoil (c.without p) = slotCoil c := by
  cases c with
  | reservedIn v => by_cases h : p v = true <;> simp [SlotContent.without, slotCoil, h]
  | reservedOut i v => by_cases h : p v = true <;> simp [SlotContent.without, slotCoil, h]
  | _ => rfl

/-- Own reservations ended leave the law of the tiers. -/
theorem TierLaw.freed (h : TierLaw s) (hfrees : Frees s t) : TierLaw t := by
  have hcontent (r k : Nat) : contentAt t r k = contentAt s r k ∨ contentAt t r k = (contentAt s r k).without ofStation :=
    (hfrees.slot r k).imp contentAt_congr fun hf => contentAt_of_without hf.2
  have hnothing (r k : Nat) : holdsNothing (contentAt t r k) = holdsNothing (contentAt s r k) := by
    obtain heq | heq := hcontent r k
    · rw [heq]
    · rw [heq, holdsNothing_without]
  have hcoil (r k : Nat) : holdsCoil (contentAt t r k) = holdsCoil (contentAt s r k) := by
    obtain heq | heq := hcontent r k
    · rw [heq]
    · rw [heq, holdsCoil, holdsCoil, slotCoil_without]
  intro r k hslot hupper hholds
  rw [hnothing, hnothing]
  exact h r k ((hfrees.isSlot_iff r k).1 hslot) hupper (hcoil r k ▸ hholds)

/-- An upper slot that holds a coil covers both slots beneath it. -/
theorem coveredByCoil_of_holdsCoil {k : Nat} (hslot : isSlot s row k) (hrests : restsOnSlot k column)
    (hholds : holdsCoil (contentAt s row k) = true) : coveredByCoil s row column = true := by
  obtain ⟨g, hg⟩ := geometry_of_isSlot hslot
  simp only [coveredByCoil, hg]
  exact List.any_eq_true.2 ⟨k, mem_uppersOn hg hslot hrests, hholds⟩

/-- R112: what passes the check of the tiers keeps their law. -/
theorem tierLaw_written (h : TierLaw s) (hslot : isSlot s row column) (hresv : slotResv content = none)
    (hpass : breaksTier s row column content = false) : TierLaw (written row column content s) := by
  have hother (r k : Nat) (hne : (r, k) ≠ (row, column)) :
      slotAt (written row column content s) r k = slotAt s r k := slotAt_setSlot_ne _ s hne
  intro r k hrk hupper hholds
  have hodd : k % 2 = 1 := by simpa [isUpper] using hupper
  by_cases hthis : (r, k) = (row, column)
  · obtain ⟨rfl, rfl⟩ := Prod.mk.inj hthis
    rw [contentAt_of_slotAt (slotAt_written hslot)] at hholds
    rw [contentAt_congr (hother r (k - 1) (by simp; omega)), contentAt_congr (hother r (k + 1) (by simp))]
    cases content <;> simp_all [holdsCoil, slotCoil, slotResv, breaksTier, overNothing]
  · have hslot' : isSlot s r k := by rwa [isSlot, hother r k hthis] at hrk
    rw [contentAt_congr (hother r k hthis)] at hholds
    obtain ⟨hleft, hright⟩ := h r k hslot' hupper hholds
    have hlower (j : Nat) (hrests : restsOnSlot k j) (hj : holdsNothing (contentAt s r j) = false) :
        holdsNothing (contentAt (written row column content s) r j) = false := by
      by_cases hwritten : (r, j) = (row, column)
      · obtain ⟨rfl, rfl⟩ := Prod.mk.inj hwritten
        rw [contentAt_of_slotAt (slotAt_written hslot)]
        have hcovered := coveredByCoil_of_holdsCoil hslot' hrests hholds
        cases content <;> simp_all [breaksTier, holdsNothing, slotResv]
      · rwa [contentAt_congr (hother r j hwritten)]
    exact ⟨hlower (k - 1) ⟨hupper, .inl (by omega)⟩ hleft, hlower (k + 1) ⟨hupper, .inr rfl⟩ hright⟩

/-! ### What an accepted write leaves -/

/-- An own target that a write undermines. -/
def writeStrikes (s : State) (row column : Nat) (content : SlotContent) (k : Nat) : Bool :=
  let filled (k : Nat) : Bool := isOccupied (if k = column then content else contentAt s row k)
  isUpper k && (decide (k = column + 1) || decide (k + 1 = column)) &&
    (ownResvAt s (.slot row k)).isSome && holdsNothing (contentAt s row k) && !(filled (k - 1) && filled (k + 1))

theorem bothLowers_written (hslot : isSlot s row column) (k : Nat) : bothLowersOccupied (written row column content s) row k =
    (isOccupied (if k - 1 = column then content else contentAt s row (k - 1)) &&
      isOccupied (if k + 1 = column then content else contentAt s row (k + 1))) := by
  rw [bothLowersOccupied, contentAt_written hslot, contentAt_written hslot]

/-- The references that a write undermines. -/
def StruckByWrite (s : State) (row column : Nat) (content : SlotContent) (ref : Ref) : Prop :=
  ∃ k, ref = .slot row k ∧ writeStrikes s row column content k = true

/-- A write takes at most what it undermines from the station. -/
theorem tracked_writeSlot (hslot : isSlot s row column) (hfree : ownResvAt s (.slot row column) = none) (hresv : slotResv content = none)
    (hone : ∀ x y, StruckByWrite s row column content x → StruckByWrite s row column content y → x = y) :
    Tracked [.map] [] (StruckByWrite s row column content) s (writeSlot row column content s) := by
  have hstill : Still (fun ref => ref ≠ .slot row column) s (written row column content s) := still_written hresv
  have hstart : Tracked [.map] [] (StruckByWrite s row column content) s (written row column content s) := by
    refine (Tracked.refl s).still hone (keeps_written ..) (raisesOnly_of_eq (setSlot_notices ..)) (hstill.mono ?_)
    rintro ref ⟨href, -⟩ rfl
    simp [OwnRefs, hfree] at href
  rw [writeSlot_eq]
  refine hstart.checkAll hone ?_
  rintro u hu ⟨r, k⟩ hmem ⟨hown, hnothing, hupper, hlower⟩
  obtain ⟨v, hv⟩ := Option.isSome_iff_exists.1 hown
  have hv' := hu.own_some hv
  obtain hnamed | hmem := List.mem_cons.1 hmem
  · obtain ⟨rfl, rfl⟩ := Prod.mk.inj hnamed
    rw [own_none_of_written hslot hresv] at hv'
    cases hv'
  · obtain ⟨rfl, hrests⟩ := rests_of_mem_restingOn hmem
    have hne : k ≠ column := by
      obtain h | h := hrests.2 <;> omega
    have hsame : slotAt u r k = slotAt s r k :=
      (hstill.kept (.slot r k) (by simpa using hne)).trans (hu.kept_of_own (ref := .slot r k) hown)
    refine ⟨k, rfl, ?_⟩
    have hboth : bothLowersOccupied (written r column content s) r k = false := by
      by_contra hboth
      have hboth' := hu.bothLowers (by simpa using hboth)
      rw [hlower] at hboth'
      cases hboth'
    rw [bothLowers_written hslot] at hboth
    rw [ownResvAt_slot_congr hsame] at hown
    rw [contentAt_congr hsame] at hnothing
    simp only [writeStrikes, hupper, hown, hnothing, hboth, Bool.true_and, Bool.and_true, Bool.not_false, Bool.or_eq_true,
      decide_eq_true_eq]
    exact hrests.2

/-- R113, R124: the own targets that rest on the slot written are freed where they have to be. -/
theorem uppersFreed_writeSlot (hresv : slotResv content = none) : UppersFreed row column s (writeSlot row column content s) := by
  intro k hrests hnothing hlower v hv
  have hne : k ≠ column := by
    obtain h | h := hrests.2 <;> omega
  have hstill : Still (fun ref => ref ≠ .slot row column) s (written row column content s) := still_written hresv
  have hkept : slotAt (written row column content s) row k = slotAt s row k := hstill.kept (.slot row k) (by simpa using hne)
  have hmem : (row, k) ∈ restingOn (written row column content s) (row, column) :=
    mem_restingOn (by rw [isSlot, hkept]; exact isSlot_of_own hv) hrests
  have hfreed := upperFreed_checkAll (s := written row column content s) (List.mem_cons_of_mem (row, column) hmem) hrests.1
  exact hfreed.before hstill (by simpa using hne) hnothing hlower v hv

/-- R113, R124: a target that the write undermines is no longer held where nothing else has been lost. -/
theorem own_none_of_writeStrikes (hslot : isSlot s row column) (hfree : ownResvAt s (.slot row column) = none) (hresv : slotResv content = none)
    {k : Nat} (hstrikes : writeStrikes s row column content k = true)
    (hstill : Still (OwnRefs s) s (writeSlot row column content s)) :
    ownResvAt (writeSlot row column content s) (.slot row k) = none := by
  simp only [writeStrikes, Bool.and_eq_true, Bool.or_eq_true, decide_eq_true_eq, Bool.not_eq_true'] at hstrikes
  obtain ⟨⟨⟨⟨hupper, hbeside⟩, hown⟩, hnothing⟩, hlower⟩ := hstrikes
  obtain ⟨v, hv⟩ := Option.isSome_iff_exists.1 hown
  have hwritten : Still (fun ref => ref ≠ .slot row column) s (written row column content s) := still_written hresv
  have hfrees : Frees (written row column content s) (writeSlot row column content s) := frees_checkAll ..
  have hsame (j : Nat) : slotAt (writeSlot row column content s) row j = slotAt (written row column content s) row j := by
    cases hj : ownResvAt (written row column content s) (.slot row j) with
    | none => exact hfrees.slot_of_none hj
    | some w =>
      have hw := hwritten.own _ w hj
      have hne : j ≠ column := by
        rintro rfl
        rw [hfree] at hw
        cases hw
      have hkept : slotAt (written row column content s) row j = slotAt s row j := hwritten.kept (.slot row j) (by simpa using hne)
      exact Eq.trans (hstill.kept (.slot row j) (by rw [OwnRefs, hw]; rfl)) hkept.symm
  have hboth : bothLowersOccupied (writeSlot row column content s) row k = false := by
    rw [← bothLowers_written hslot] at hlower
    rw [← hlower, bothLowersOccupied, bothLowersOccupied, contentAt_congr (hsame _), contentAt_congr (hsame _)]
  obtain ⟨hempty, -⟩ := uppersFreed_writeSlot hresv k ⟨hupper, hbeside⟩ hnothing hboth v hv
  simp [ownResvAt, resvAt_slot, hempty, slotResv]

theorem slotAt_writeSlot (hslot : isSlot s row column) (hresv : slotResv content = none) :
    slotAt (writeSlot row column content s) row column = some { content := content, source := .crane } := by
  rw [writeSlot_eq, (frees_checkAll ..).slot_of_none (own_none_of_written hslot hresv), slotAt_written hslot]

theorem unreservedSlotsKept_writeSlot (hresv : slotResv content = none) :
    UnreservedSlotsKept (fun r k => (r, k) = (row, column)) s (writeSlot row column content s) := by
  refine unreservedSlotsKept_of_slotAt fun r k hne hnone => ?_
  have hwritten : Still (fun ref => ref ≠ .slot row column) s (written row column content s) := still_written hresv
  have hkept : RefKept s (written row column content s) (.slot r k) := hwritten.kept (.slot r k) (by simpa using hne)
  have hfrees : Frees (written row column content s) (writeSlot row column content s) := frees_checkAll ..
  exact (hfrees.slot_of_none (by rw [ownResvAt_of_refKept hkept, hnone])).trans hkept

theorem within_writeSlot (row column : Nat) (content : SlotContent) (s : State) : Within lossNotices s (writeSlot row column content s) := by
  have hset : RaisesOnly [] s (written row column content s) := raisesOnly_of_eq (setSlot_notices ..)
  have hremoves : Removes (written row column content s) (writeSlot row column content s) := removes_checkAll ..
  exact ⟨(keeps_written ..).andThen hremoves.keeps (by simp [lossBlocks]) (by simp),
    raisesOnly_mono (by simp) (raisesOnly_trans hset hremoves.notices)⟩

end

/-! ### The request -/

theorem mapWrite_answers {ref : Ref} {state : Nat} {coil : Option CoilId} {weight width : Option Nat} {s : State} {st : Status}
    (hrun : Running s) (h : mapWrite ref state coil weight width s = (s, .err st)) (hr : st ≠ .ok) :
    Answers (.mapWrite ref state coil weight width) (.err st) s := by
  rw [Answers, exec, execMapWrite, request_of_answer hrun h hr]

/-- R112: the check of the tiers, as the statement says it. -/
theorem breaksTier_iff (s : State) (row column : Nat) (content : SlotContent) : breaksTier s row column content = true ↔
    (isOccupied content = true ∧ isUpper column = true ∧
      (holdsNothing (contentAt s row (column - 1)) = true ∨ holdsNothing (contentAt s row (column + 1)) = true)) ∨
    (content = .empty ∧ coveredByCoil s row column = true) := by
  cases content <;> simp [breaksTier, overNothing, isOccupied]

/-- R112: the check of the coil, as the statement says it. -/
theorem breaksUnique_eq (s : State) {row column : Nat} {content : SlotContent} (hresv : slotResv content = none) :
    breaksUnique s row column content = (slotCoil content).any (fun i => onHook i.coil s || inCradles i.coil s ||
      (slotsHolding i.coil s).any fun p => decide (p ≠ (row, column))) := by
  cases content with
  | reservedIn _ | reservedOut _ _ => cases hresv
  | _ => rfl

/-- R113: an accepted write. -/
theorem mapWrite_accepted {state row column : Nat} {coil : Option CoilId} {weight width : Option Nat} {s : State}
    (hrun : Running s) (h : mapWrite (.slot row column) state coil weight width s = (writeSlot row column content s, .okWith [])) :
    exec (.mapWrite (.slot row column) state coil weight width) s =
      .next (respond (.okWith []) (settle (writeSlot row column content s))) := by
  rw [exec, execMapWrite, request_of_acceptance hrun h]

/-- Settles O41: the checks one after the other; an accepted write, then the own targets that rest on the slot. -/
theorem mapWriteChecksAndWrites : Obligations.MapWriteChecksAndWrites := by
  intro ref state coil weight width s hrun
  cases ref with
  | cradle bay index => exact mapWrite_answers hrun rfl nofun
  | slot row column =>
    dsimp only
    cases hold : slotAt s row column with
    | none => exact mapWrite_answers hrun (by simp only [mapWrite, hold]) nofun
    | some old =>
      cases hcontent : writtenContent state coil weight width with
      | none => exact mapWrite_answers hrun (by simp only [mapWrite, hold, hcontent]) nofun
      | some content =>
        have hresv := slotResv_writtenContent hcontent
        have hbody : mapWrite (.slot row column) state coil weight width s =
            if mapValuesBad weight width then (s, .err .badArg) else mapWriteSlot row column old content s := by
          simp only [mapWrite, hold, hcontent]
        dsimp only
        by_cases hbad : 12000 < weight.getD 0 ∨ 7 < width.getD 0
        · rw [if_pos hbad]
          exact mapWrite_answers hrun (by rw [hbody, if_pos (by simpa [mapValuesBad] using hbad)]) nofun
        rw [if_neg hbad]
        rw [if_neg (by simpa [mapValuesBad] using hbad)] at hbody
        by_cases hreserved : (slotResv old.content).isSome = true
        · rw [if_pos hreserved]
          exact mapWrite_answers hrun (by rw [hbody, mapWriteSlot, if_pos hreserved]) nofun
        rw [if_neg hreserved]
        rw [mapWriteSlot, if_neg hreserved] at hbody
        by_cases htier : breaksTier s row column content = true
        · rw [if_pos ((breaksTier_iff ..).1 htier)]
          exact mapWrite_answers hrun (by rw [hbody, if_pos htier]) nofun
        rw [if_neg (mt (breaksTier_iff ..).2 htier)]
        rw [if_neg htier] at hbody
        rw [← breaksUnique_eq s hresv]
        by_cases hunique : breaksUnique s row column content = true
        · rw [if_pos hunique]
          exact mapWrite_answers hrun (by rw [hbody, if_pos hunique]) nofun
        rw [if_neg hunique]
        rw [if_neg hunique] at hbody
        have hslot : isSlot s row column := by rw [isSlot, hold]; rfl
        have hfree : ownResvAt s (.slot row column) = none := by
          have hnone : slotResv old.content = none := by simpa using hreserved
          simp [ownResvAt, resvAt_slot, contentAt_of_slotAt hold, hnone]
        have hfinal : Still (fun _ => True) (writeSlot row column content s)
            (respond (.okWith []) (settle (writeSlot row column content s))) :=
          (still_settle _).trans (still_of_keeps (keeps_withPort ..) (raisesOnly_refl [] _) (by simp) _)
        obtain ⟨hkeeps, hraises⟩ := within_writeSlot row column content s
        have hport : (writeSlot row column content s).port = s.port := hkeeps.2 .port (by simp [lossBlocks])
        have hkept (r k : Nat) : slotAt (respond (.okWith []) (settle (writeSlot row column content s))) r k =
            slotAt (writeSlot row column content s) r k := hfinal.kept (.slot r k) trivial
        refine ⟨_, mapWrite_accepted hrun hbody, (hkept ..).trans (slotAt_writeSlot hslot hresv), fun r k hne hnone => ?_,
          fun hlaw => ?_, fun k hrests => (uppersFreed_writeSlot hresv k hrests).after hfinal, fun hnone => ?_,
          fun k v hv hk hother => ?_, accepts_settle hkeeps (notices_of_raisesOnly hraises) hport⟩
        · rw [contentAt_congr (hkept r k), sourceAt_congr (hkept r k)]
          exact unreservedSlotsKept_writeSlot hresv r k hne hnone
        · have hlaw' := (tierLaw_written hlaw hslot hresv (by simpa using htier)).freed
            (frees_checkAll ((row, column) :: restingOn (written row column content s) (row, column)) _)
          intro r k
          rw [isSlot, hkept, contentAt_congr (hkept r k), contentAt_congr (hkept r (k - 1)), contentAt_congr (hkept r (k + 1))]
          exact hlaw' r k
        · have hnothing (ref : Ref) : ¬ StruckByWrite s row column content ref := fun ⟨k, _, hk⟩ => by
            have hk' : writeStrikes s row column content k = false := hnone k
            rw [hk'] at hk
            cases hk
          obtain ⟨hstill, hkeeps', hraises'⟩ := (tracked_writeSlot hslot hfree hresv fun x _ hx _ =>
            absurd hx (hnothing x)).none_removed hnothing
          refine ⟨fun r k hne => ?_, accepts_settle hkeeps' (notices_of_raisesOnly hraises') hport⟩
          rw [contentAt_congr (hkept r k), sourceAt_congr (hkept r k)]
          cases hown : ownResvAt s (.slot r k) with
          | none => exact unreservedSlotsKept_writeSlot hresv r k hne hown
          | some w =>
            have hsame : slotAt (writeSlot row column content s) r k = slotAt s r k :=
              hstill.kept (.slot r k) (by rw [OwnRefs, hown]; rfl)
            exact ⟨contentAt_congr hsame, sourceAt_congr hsame⟩
        · have hone : ∀ x y, StruckByWrite s row column content x → StruckByWrite s row column content y → x = y := by
            rintro _ _ ⟨i, rfl, hi⟩ ⟨j, rfl, hj⟩
            have honly (i : Nat) (hi : writeStrikes s row column content i = true) : i = k := by
              by_contra hne
              have hfalse : writeStrikes s row column content i = false := hother i hne
              rw [hi] at hfalse
              cases hfalse
            rw [honly i hi, honly j hj]
          have hremoval := (tracked_writeSlot hslot hfree hresv hone).removal hone ⟨k, rfl, hk⟩ hv
            (own_none_of_writeStrikes hslot hfree hresv hk)
          exact (hremoval.after (hfinal.mono fun _ _ => trivial)).removed

end Sys2Proof.Machine
end

section
/-! PROOFS. A peer's CLAIM that beats the station's round (R136, R138, R139, R142, R147): what the station meets it with, the
reference lost, and the claim recorded over what was freed. -/

namespace Sys2Proof.Machine

section
variable {s t u : State} {ref : Ref} {v : Reservation}

/-! ### A late objection (R142, first column) -/

/-- A late objection that the task does not heed. -/
def Ignored (s t : State) : Prop :=
  t.tracker = s.tracker ∧ t.claims = s.claims ∧ OwnKept (fun _ => False) s t ∧ ClaimBoxKept s t ∧
    t.link.boxes.release = s.link.boxes.release

/-- R142, first column, by the part of the reference and the task state. -/
structure ObjectionTold (cause : Reason) (ref : Ref) (v : Reservation) (k : Task) (s t : State) : Prop where
  source : k.source = ref → k.state = .toSource → TaskClaimLost k k.target cause ref s t
  sourceLate : k.source = ref → k.state ≠ .toSource → Ignored s t
  target : k.source ≠ ref → k.target = some ref → k.state = .toSource → TaskClaimLost k none .targetTaken ref s t
  targetBefore : k.source ≠ ref → k.target = some ref → (k.state = .liftPending ∨ k.state = .verifyHold ∨ k.state = .toTarget) →
    TargetLost k ref v s t ∧ ownResvAt t ref = none
  targetLate : k.source ≠ ref → k.target = some ref → k.state.beforeSetDown = false → Ignored s t
  neither : k.source ≠ ref → k.target ≠ some ref → Ignored s t

/-- What becomes of a reference met by a late objection. -/
structure Objection (cause : Reason) (ref : Ref) (v : Reservation) (s t : State) : Prop where
  taskless : s.tracker.task = none → Ignored s t
  told : ∀ k, s.tracker.task = some k → ObjectionTold cause ref v k s t

/-- The statements' words for a late objection. -/
theorem Objection.objected {cause : Reason} (h : Objection cause ref v s t) : Objected cause ref v s t := by
  unfold Objected
  cases hk : s.tracker.task with
  | none => exact h.taskless hk
  | some k =>
    have htold := h.told k hk
    dsimp only
    split_ifs with hs hstate ht
    · exact htold.source hs hstate
    · exact htold.sourceLate hs hstate
    · cases hstate : k.state with
      | toSource => exact htold.target hs ht hstate
      | liftPending => exact htold.targetBefore hs ht (.inl hstate)
      | verifyHold => exact htold.targetBefore hs ht (.inr (.inl hstate))
      | toTarget => exact htold.targetBefore hs ht (.inr (.inr hstate))
      | _ => exact htold.targetLate hs ht (by rw [hstate]; rfl)
    · exact htold.neither hs ht

theorem Ignored.refl (s : State) : Ignored s s :=
  ⟨rfl, rfl, fun _ _ _ => (Still.refl (fun _ => True) s).kept _ trivial, ⟨rfl, rfl⟩, rfl⟩

/-- What is left alone stays so through steps that keep the references still held. -/
theorem Ignored.after (h : Ignored s t) (hu : Still (fun x => OwnRefs s x ∧ (x ≠ ref ∨ OwnRefs t x)) t u) : Ignored s u := by
  obtain ⟨htracker, hclaims, hkept, hbox, hrelease⟩ := h
  refine ⟨hu.tracker.trans htracker, hu.claims.trans hclaims, fun x hx _ => ?_, hbox.trans hu.sameRound.box, by rw [hu.link, hrelease]⟩
  have hkept' := hkept x hx not_false
  exact hkept'.trans (hu.kept x ⟨hx, .inr (by rwa [OwnRefs, ownResvAt_of_refKept hkept'])⟩)

theorem Objection.after {cause : Reason} (h : Objection cause ref v s t)
    (hu : Still (fun x => OwnRefs s x ∧ (x ≠ ref ∨ OwnRefs t x)) t u) : Objection cause ref v s u := by
  have hbut : Still (OwnBut ref s) t u := hu.mono fun x hx => ⟨hx.1, .inl hx.2⟩
  refine ⟨fun hk => (h.taskless hk).after hu, fun k hk => ?_⟩
  have htold := h.told k hk
  exact {
    source := fun a b => (htold.source a b).after hbut
    sourceLate := fun a b => (htold.sourceLate a b).after hu
    target := fun a b c => (htold.target a b c).after hbut
    targetBefore := fun a b c => (htold.targetBefore a b c).imp (fun hlost => hlost.after hbut) (own_none_of_mono hu.own)
    targetLate := fun a b c => (htold.targetLate a b c).after hu
    neither := fun a b => (htold.neither a b).after hu }

/-- An own reservation released from its record. -/
theorem still_releaseRef (hv : ownResvAt s ref = some v) :
    Still (OwnBut ref s) s (releaseRef Reservation.isOwn .own ref s) ∧
      ownResvAt (releaseRef Reservation.isOwn .own ref s) ref = none := by
  have hfrees : Frees s (releaseRef Reservation.isOwn .own ref s) := frees_releaseRef (fun _ h => h) ref s
  have hkeeps := keeps_releaseRef Reservation.isOwn .own ref s
  have hgone : ownResvAt (releaseRef Reservation.isOwn .own ref s) ref = none := by
    rw [ownResvAt_eq_filter, resvAt_releaseRef_same, Option.filter_filter]
    cases resvAt s ref <;> simp
  refine ⟨⟨hkeeps.2 .link (by simp), by simp, hkeeps.2 .tracker (by simp), ⟨[], raisesOnly_of_eq (by simp)⟩,
    fun x hx => hfrees.kept_of_own ?_, fun x w hw => hfrees.own_some hw, fun hno => ?_⟩, hgone⟩
  · rw [ownResvAt_releaseRef_ne _ _ s hx.2]
    exact hx.1
  · rw [own_none_of_noOwn hno ref] at hv
    cases hv

/-- R142, R147: an own reservation met by a late objection; one of a REASSERT round leaves the round where it is lost. -/
theorem objection_lateObjection {cause : Reason} {r : Round} (hv : ownResvAt s ref = some v) (hr : s.claims.round = some r)
    (hp : r.purpose = .reassert) (hnumber : v.round = r.number) : Objection cause ref v s (lateObjection cause ref s) := by
  refine ⟨fun hk => ?_, fun k hk => ?_⟩
  · have hnone : lateObjection cause ref s = s := by simp only [lateObjection, hk]
    rw [hnone]
    exact .refl s
  obtain ⟨hm, hgone⟩ := still_releaseRef hv
  have hlate : lateObjection cause ref s =
      if k.source = ref then
        if k.state = .toSource then tellClaimLost cause (releaseAllOwn [] s) else s
      else if k.target = some ref then
        if k.state.beforeSetDown then tellTargetLost (releaseOwn ref s) else s
      else s := by
    simp only [lateObjection, hk]
  by_cases hsource : k.source = ref
  · by_cases hstate : k.state = .toSource
    · rw [hlate, if_pos hsource, if_pos hstate]
      refine ⟨fun _ _ => ?_, fun _ h => absurd hstate h, fun h => absurd hsource h, fun h => absurd hsource h,
        fun h => absurd hsource h, fun h => absurd hsource h⟩
      have htask : (releaseAllOwn [] s).tracker.task = some k := by rw [releaseAllOwn_tracker, hk]
      have hall : Loses lossNotices s (releaseAllOwn [] s) := loses_releaseAllOwn ..
      rw [tellClaimLost_of_toSource htask hstate]
      refine taskClaimLost_endClaimLost (target := k.target) cause (.refl _ s) hall (frees_releaseAllOwn ..)
        (by rw [releaseAllOwn_tracker, ← hk]) (fun t ht => (roundOver_releaseAllOwn [] s).trans ht) fun w hw hnot => ?_
      have hnone : ownResvAt (releaseAllOwn [] s) ref = none :=
        ownResvAt_of_allReleased (hall.keeps.2 .cfg (by simp [lossBlocks])) (allReleased_releaseAllOwn [] s) ref
      have hlost := hall.own ref w hw
      rw [hnone] at hlost
      exact (hlost.resolve_left hnot).resolve_left nofun
    · rw [hlate, if_pos hsource, if_neg hstate]
      exact ⟨fun _ h => absurd h hstate, fun _ _ => .refl s, fun h => absurd hsource h, fun h => absurd hsource h,
        fun h => absurd hsource h, fun h => absurd hsource h⟩
  · by_cases htarget : k.target = some ref
    · by_cases hbefore : k.state.beforeSetDown = true
      · let m := releaseRef Reservation.isOwn .own ref s
        have hround : RoundWithout ref v s (dropFromRound ref m) := by
          have hmr : m.claims.round = some r := by rw [hm.claims]; exact hr
          by_cases hmem : ref ∈ r.entries.map ClaimEntry.ref
          · exact (roundWithout_dropFromRound hmr hp hnumber hmem).before hm.sameRound
          · have hany : ¬ r.entries.any (fun e => e.ref == ref) = true := by
              simpa [List.any_eq_true, List.mem_map] using hmem
            have hdrop : dropFromRound ref m = m := by
              simp only [dropFromRound, hmr]
              exact if_neg fun h => hany h.2
            rw [hdrop]
            exact roundWithout_of_same hm.sameRound fun r' hr' h =>
              hmem (Option.some.inj (hr.symm.trans hr') ▸ h.2.2)
        have hremoved : lateObjection cause ref s = reservationRemoved v.round ref (dropFromRound ref m) := by
          have htask : (dropFromRound ref m).tracker.task = some k := by
            rw [(keeps_dropFromRound ref m).2 .tracker (by simp), hm.tracker, hk]
          rw [hlate, if_neg hsource, if_pos htarget, if_pos hbefore]
          simp only [releaseOwn, hv, reservationRemoved, htask]
          rw [if_neg hsource, if_pos htarget, if_pos hbefore]
        obtain ⟨-, -, -, hend, hlost, -, -⟩ := removalTold_reservationRemoved hk hv hm (keeps_dropFromRound ref m)
          (loses_dropFromRound ref m) hround
        have hnone : ownResvAt (lateObjection cause ref s) ref = none := by
          rw [hremoved]
          exact (frees_reservationRemoved ..).own_none ((frees_dropFromRound ..).own_none hgone)
        rw [← hremoved] at hend hlost
        exact ⟨fun h => absurd h hsource, fun h => absurd h hsource, hend, fun a b c => ⟨hlost a b c, hnone⟩,
          fun _ _ h => by simp [h] at hbefore, fun _ h => absurd htarget h⟩
      · rw [hlate, if_neg hsource, if_pos htarget, if_neg hbefore]
        rw [beforeSetDown_iff] at hbefore
        exact ⟨fun h => absurd h hsource, fun h => absurd h hsource, fun _ _ h => absurd (.inl h) hbefore,
          fun _ _ h => absurd (.inr h) hbefore, fun _ _ _ => .refl s, fun _ h => absurd htarget h⟩
    · rw [hlate, if_neg hsource, if_neg htarget]
      exact ⟨fun h => absurd h hsource, fun h => absurd h hsource, fun _ h => absurd h htarget, fun _ h => absurd h htarget,
        fun _ h => absurd h htarget, fun _ _ => .refl s⟩

end

end Sys2Proof.Machine
end

section
/-! PROOFS. The references of a peer's CLAIM met one after the other, and the claim about a CLAIM that beats the station's round
(R136, R138, R139, R142, R147). -/

namespace Sys2Proof.Machine

section
variable {s t u : State} {sender round priority : Nat}

/-! ### What meeting a claim may leave -/

/-- Of the link the OBJECT, CLAIM and RELEASE mailboxes and a withdrawal alone have changed (R45 to R48). -/
def MetLink (s t : State) : Prop :=
  t.link = { s.link with
    boxes := { s.link.boxes with
      objects := t.link.boxes.objects, claim := t.link.boxes.claim, release := t.link.boxes.release }
    withdrawal := t.link.withdrawal }

/-- What the station's answer to a peer's claim may do: own reservations freed, and the loss told. -/
structure Met (s t : State) : Prop where
  keeps : Keeps lossBlocks s t
  notices : RaisesOnly (.objectionDropped :: lossNotices) s t
  link : MetLink s t
  frees : Frees s t

theorem MetLink.trans (h : MetLink s t) (k : MetLink t u) : MetLink s u := by
  unfold MetLink at *
  rw [k, h]

theorem Met.refl (s : State) : Met s s := ⟨keeps_refl .., raisesOnly_refl .., rfl, .refl s⟩

theorem Met.trans (h : Met s t) (k : Met t u) : Met s u :=
  ⟨keeps_trans h.keeps k.keeps, raisesOnly_mono (by simp +contextual [or_imp]) (raisesOnly_trans h.notices k.notices),
    h.link.trans k.link, h.frees.trans k.frees⟩

theorem metLink_of_linkKeeps (h : LinkKeeps s.link.boxes.book s t) : MetLink s t := by
  obtain ⟨c, r, w, h⟩ := linkKeeps_iff.1 h
  rw [MetLink, h]

theorem Loses.met (h : Loses lossNotices s t) (hfrees : Frees s t) : Met s t :=
  ⟨h.keeps, raisesOnly_mono (by simp +contextual) h.notices, metLink_of_linkKeeps h.link, hfrees⟩

theorem metLink_askObjects (fs : List ObjectFrame) (s : State) : MetLink s (askObjects fs s) := by
  rw [MetLink, (linkStep_askObjects fs s).link]

theorem met_askObjects (fs : List ObjectFrame) (s : State) : Met s (askObjects fs s) := by
  obtain ⟨-, hkeeps, -, hraises⟩ := linkStep_askObjects fs s
  refine ⟨keeps_mono (by simp [lossBlocks]) hkeeps, raisesOnly_mono (fun n hn => ?_) hraises, metLink_askObjects fs s,
    frees_of_keeps hkeeps⟩
  split at hn
  · cases hn
  · simp only [List.append_nil, List.mem_singleton] at hn
    exact List.mem_cons.2 (.inl hn)

theorem met_objectTo (ref : Ref) (s : State) : Met s (objectTo sender round ref s) :=
  met_askObjects [{ claimant := sender, round := round, ref := ref }] s

theorem met_outranked (r : Round) (ref : Ref) (s : State) : Met s (outranked r ref s) := by
  unfold outranked
  split
  · exact (loses_lateObjection ..).met (frees_lateObjection ..)
  · exact (loses_loseRound lossNotices_subset ..).met (frees_loseRound ..)

theorem met_meetOwn (ref : Ref) (v : Reservation) (s : State) : Met s (meetOwn sender round priority ref v s) := by
  unfold meetOwn
  split
  · exact met_objectTo ..
  · split
    · exact .refl s
    · split
      · split
        · exact met_outranked ..
        · exact met_objectTo ..
      · exact .refl s

/-- One reference of the frame, met where the station holds it. -/
def meetEntry (sender round priority : Nat) (e : ClaimEntry) (s : State) : State :=
  match ownResvAt s e.ref with
  | none => s
  | some v => meetOwn sender round priority e.ref v s

theorem meetOwns_cons (e : ClaimEntry) (es : List ClaimEntry) (s : State) : meetOwns sender round priority (e :: es) s =
    meetOwns sender round priority es (meetEntry sender round priority e s) := rfl

theorem meetEntry_of_none {e : ClaimEntry} (h : ownResvAt s e.ref = none) : meetEntry sender round priority e s = s := by
  simp only [meetEntry, h]

theorem meetEntry_of_own {e : ClaimEntry} {v : Reservation} (h : ownResvAt s e.ref = some v) :
    meetEntry sender round priority e s = meetOwn sender round priority e.ref v s := by simp only [meetEntry, h]

theorem met_meetOwns (entries : List ClaimEntry) (s : State) : Met s (meetOwns sender round priority entries s) := by
  induction entries generalizing s with
  | nil => exact .refl s
  | cons e es ih =>
    rw [meetOwns_cons]
    refine .trans ?_ (ih _)
    cases hv : ownResvAt s e.ref with
    | none =>
      rw [meetEntry_of_none hv]
      exact .refl s
    | some v =>
      rw [meetEntry_of_own hv]
      exact met_meetOwn ..

/-! ### A REASSERT round loses one reference -/

theorem meetOwns_of_none {entries : List ClaimEntry} (h : ∀ x ∈ entries, ownResvAt s x.ref = none) :
    meetOwns sender round priority entries s = s := by
  induction entries with
  | nil => rfl
  | cons e es ih =>
    rw [meetOwns_cons, meetEntry_of_none (h e List.mem_cons_self), ih fun x hx => h x (List.mem_cons_of_mem e hx)]

theorem meetOwn_of_beaten {ref : Ref} {v : Reservation} {r : Round} (hphase : v.phase = .pending) (hr : s.claims.round = some r)
    (hnumber : v.round = r.number) (hkey : keyBeats priority sender r.priority (ownId s) = true) :
    meetOwn sender round priority ref v s = outranked r ref s := by
  simp only [meetOwn, hphase, hr, hnumber, hkey, if_true]

/-- Of a frame that names one reference of the station, that one alone is met. -/
theorem meetOwns_of_one {entries : List ClaimEntry} {e : ClaimEntry} {v : Reservation} (he : e ∈ entries)
    (hv : ownResvAt s e.ref = some v) (hothers : ∀ x ∈ entries, x ≠ e → ownResvAt s x.ref = none)
    (hdistinct : (entries.map ClaimEntry.ref).Nodup) :
    meetOwns sender round priority entries s = meetOwn sender round priority e.ref v s := by
  induction entries with
  | nil => cases he
  | cons x es ih =>
    rw [meetOwns_cons]
    obtain ⟨hhead, htail⟩ := List.nodup_cons.1 hdistinct
    by_cases hx : x = e
    · subst hx
      rw [meetEntry_of_own hv]
      refine meetOwns_of_none fun y hy => (met_meetOwn ..).frees.own_none ?_
      refine hothers y (List.mem_cons_of_mem x hy) ?_
      rintro rfl
      exact hhead (List.mem_map_of_mem hy)
    · rw [meetEntry_of_none (hothers x List.mem_cons_self hx)]
      exact ih ((List.mem_cons.1 he).resolve_left fun h => hx h.symm) (fun y hy => hothers y (List.mem_cons_of_mem x hy)) htail

/-! ### A START or RETARGET round is lost -/

/-- The station holds a reference HELD. -/
def heldAt (s : State) (ref : Ref) : Bool := (ownResvAt s ref).any fun u => decide (u.phase = .held)

/-- R138: the OBJECTs against the references of a CLAIM that the station holds HELD. -/
def heldObjections (sender round : Nat) (entries : List ClaimEntry) (s : State) : List ObjectFrame :=
  (entries.filter fun x => heldAt s x.ref).map fun x => { claimant := sender, round := round, ref := x.ref }

theorem heldObjections_cons_of_held {e : ClaimEntry} (es : List ClaimEntry) (h : heldAt s e.ref = true) :
    heldObjections sender round (e :: es) s =
      { claimant := sender, round := round, ref := e.ref } :: heldObjections sender round es s := by
  simp [heldObjections, h]

theorem heldObjections_cons_of_not {e : ClaimEntry} (es : List ClaimEntry) (h : heldAt s e.ref = false) :
    heldObjections sender round (e :: es) s = heldObjections sender round es s := by
  simp [heldObjections, h]

theorem heldObjections_congr {entries : List ClaimEntry} (h : ∀ x ∈ entries, heldAt t x.ref = heldAt s x.ref) :
    heldObjections sender round entries t = heldObjections sender round entries s := by
  rw [heldObjections, heldObjections, List.filter_congr h]

theorem keeps_objectTo (ref : Ref) (s : State) : Keeps [.link] s (objectTo sender round ref s) := keeps_askObject _ s

/-- An OBJECT asked for leaves what the station holds, and the round. -/
theorem heldObjections_objectTo (es : List ClaimEntry) (ref : Ref) :
    heldObjections sender round es (objectTo sender round ref s) = heldObjections sender round es s :=
  heldObjections_congr fun x _ => by rw [heldAt, heldAt, ownResvAt_of_keeps (keeps_objectTo ref s)]

theorem meetEntry_of_held {e : ClaimEntry} (h : heldAt s e.ref = true) :
    meetEntry sender round priority e s = objectTo sender round e.ref s := by
  unfold heldAt at h
  cases hv : ownResvAt s e.ref with
  | none => simp [hv] at h
  | some v =>
    rw [hv, Option.any_some, decide_eq_true_eq] at h
    simp only [meetEntry_of_own hv, meetOwn, h]

/-- A reference not HELD, nor PENDING in the round, is left. -/
theorem meetEntry_of_other {e : ClaimEntry} (h : heldAt s e.ref = false)
    (hnot : ∀ v r, ownResvAt s e.ref = some v → s.claims.round = some r → v.round ≠ r.number) :
    meetEntry sender round priority e s = s := by
  unfold heldAt at h
  cases hv : ownResvAt s e.ref with
  | none => exact meetEntry_of_none hv
  | some v =>
    rw [hv, Option.any_some, decide_eq_false_iff_not] at h
    have hphase : v.phase = .pending := by cases hp : v.phase <;> simp_all
    rw [meetEntry_of_own hv]
    simp only [meetOwn, hphase]
    cases hr : s.claims.round with
    | none => rfl
    | some r => exact if_neg (hnot v r hv hr)

/-- With no round the references HELD are met with OBJECTs, and nothing else happens. -/
theorem meetOwns_of_no_round {entries : List ClaimEntry} (hr : s.claims.round = none) :
    meetOwns sender round priority entries s = askObjects (heldObjections sender round entries s) s := by
  induction entries generalizing s with
  | nil => rfl
  | cons e es ih =>
    rw [meetOwns_cons]
    by_cases hheld : heldAt s e.ref = true
    · have hround : (objectTo sender round e.ref s).claims.round = none := by
        rw [(keeps_objectTo e.ref s).2 .claims (by simp), hr]
      rw [meetEntry_of_held hheld, ih hround, heldObjections_objectTo, heldObjections_cons_of_held es hheld]
      rfl
    · have hheld : heldAt s e.ref = false := by simpa using hheld
      rw [meetEntry_of_other hheld (fun v r _ h => by simp [hr] at h), ih hr, heldObjections_cons_of_not es hheld]

/-- R138: the references before the one that loses the round are met with OBJECTs where they are HELD, and those after it too. -/
theorem meetOwns_of_beaten {entries : List ClaimEntry} {r : Round} (hr : s.claims.round = some r) (hp : r.purpose ≠ .reassert)
    (hkey : keyBeats priority sender r.priority (ownId s) = true)
    (hbeaten : ∃ e ∈ entries, ∃ v, ownResvAt s e.ref = some v ∧ v.phase = .pending ∧ v.round = r.number) :
    ∃ es x es', entries = es ++ x :: es' ∧ heldAt s x.ref = false ∧
      let m := loseRound .outranked (askObjects (heldObjections sender round es s) s)
      meetOwns sender round priority entries s = askObjects (heldObjections sender round es' m) m := by
  induction entries generalizing s with
  | nil => simp at hbeaten
  | cons e es ih =>
    rw [meetOwns_cons]
    by_cases hlost : ∃ v, ownResvAt s e.ref = some v ∧ v.phase = .pending ∧ v.round = r.number
    · obtain ⟨v, hv, hphase, hnumber⟩ := hlost
      refine ⟨[], e, es, rfl, by simp [heldAt, hv, hphase], ?_⟩
      have hlose : meetEntry sender round priority e s = loseRound .outranked s := by
        rw [meetEntry_of_own hv, meetOwn_of_beaten hphase hr hnumber hkey, outranked, if_neg hp]
      exact hlose ▸ meetOwns_of_no_round (hlose ▸ (roundLost_loseRound hr hp).1)
    · have hrest : ∃ x ∈ es, ∃ v, ownResvAt s x.ref = some v ∧ v.phase = .pending ∧ v.round = r.number := by
        obtain ⟨x, hx, h⟩ := hbeaten
        obtain rfl | hx := List.mem_cons.1 hx
        · exact absurd h hlost
        · exact ⟨x, hx, h⟩
      by_cases hheld : heldAt s e.ref = true
      · have hkeeps : Keeps [.link] s (objectTo sender round e.ref s) := keeps_objectTo e.ref s
        have hown : ownResvAt (objectTo sender round e.ref s) = ownResvAt s := ownResvAt_of_keeps hkeeps
        have hcfg : (objectTo sender round e.ref s).cfg = s.cfg := hkeeps.2 .cfg (by simp)
        have hid : ownId (objectTo sender round e.ref s) = ownId s := by rw [ownId, ownId, hcfg]
        obtain ⟨es₁, x, es₂, rfl, hx, hmet⟩ := ih (by rw [hkeeps.2 .claims (by simp), hr]) (by rw [hid]; exact hkey)
          (by rw [hown]; exact hrest)
        rw [heldAt, hown] at hx
        rw [heldObjections_objectTo] at hmet
        refine ⟨e :: es₁, x, es₂, rfl, hx, ?_⟩
        rw [meetEntry_of_held hheld, heldObjections_cons_of_held es₁ hheld]
        exact hmet
      · have hheld : heldAt s e.ref = false := by simpa using hheld
        obtain ⟨es₁, x, es₂, rfl, hx, hmet⟩ := ih hr hkey hrest
        refine ⟨e :: es₁, x, es₂, rfl, hx, ?_⟩
        rw [meetEntry_of_other hheld ?_, heldObjections_cons_of_not es₁ hheld]
        · exact hmet
        · intro v r' hv hr' hnumber
          obtain rfl := Option.some.inj (hr.symm.trans hr')
          refine hlost ⟨v, hv, ?_, hnumber⟩
          have hnot : v.phase ≠ .held := by simpa [heldAt, hv] using hheld
          cases hphase : v.phase with
          | held => exact absurd hphase hnot
          | pending => rfl

end

end Sys2Proof.Machine
end

section
/-! PROOFS. A peer's claim recorded over what the station has lost (R105, R136, R138, R139), and the claim about a CLAIM that beats
the station's round. -/

namespace Sys2Proof.Machine

section
variable {s t u b m : State} {sender round priority : Nat} {v : Reservation} {source : ChangeSource}

/-! ### The recording leaves what the station holds -/

theorem SlotRecord.claimed_of_own {r : SlotRecord} {w : Reservation} (hw : slotResv r.content = some w) (hne : w.holder ≠ v.holder)
    (dir : ClaimDir) : r.claimed v source dir = r := by
  obtain ⟨content, src⟩ := r
  cases content <;> simp_all [slotResv, SlotRecord.claimed, SlotContent.claimed]

theorem CradleContent.claimed_of_own {c : CradleContent} {w : Reservation} (hw : cradleResv c = some w) (hne : w.holder ≠ v.holder)
    (loading : Bool) : c.claimed v loading = c := by
  cases c <;> simp_all [cradleResv, CradleContent.claimed]

theorem ClaimsRecorded.kept {entries : List ClaimEntry} (h : ClaimsRecorded v source entries s t) (hv : v.holder ≠ .own) {ref : Ref}
    (hkept : OwnRefs s ref ∨ ref ∉ entries.map ClaimEntry.ref) : RefKept s t ref := by
  by_cases hnamed : ref ∈ entries.map ClaimEntry.ref
  · obtain ⟨w, hw⟩ := Option.isSome_iff_exists.1 (hkept.resolve_right (not_not.2 hnamed))
    obtain ⟨hresv, hown⟩ := ownResvAt_eq_some_iff.1 hw
    have hne : w.holder ≠ v.holder := fun heq => hv (heq ▸ of_decide_eq_true hown)
    obtain ⟨e, he, href⟩ := List.mem_map.1 hnamed
    cases ref with
    | slot row column =>
      obtain ⟨r, hr⟩ := Option.isSome_iff_exists.1 (isSlot_of_own hw)
      rw [resvAt_slot, contentAt_of_slotAt hr] at hresv
      exact (h.slot e he row column href).trans (by rw [hr, Option.map_some, SlotRecord.claimed_of_own hresv hne])
    | cradle bay index =>
      rw [resvAt_cradle] at hresv
      obtain ⟨k, hk, hk'⟩ := Option.bind_eq_some_iff.1 hresv
      refine (h.cradleContent he href).trans ?_
      rw [Machine.cradleContent, hk, Option.map_some, Option.map_some, CradleContent.claimed_of_own hk' hne]
  · cases ref with
    | slot row column => exact h.otherSlot row column hnamed
    | cradle bay index => exact h.otherCradleContent hnamed

/-- A content put in one cradle brings no reservation but its own. -/
theorem noOwn_setCradle {bay index : Nat} {c : CradleContent} (hc : ∀ v, cradleResv c = some v → v.holder ≠ .own) (hno : NoOwn s) :
    NoOwn (setCradle bay index c s) := by
  intro v hv
  obtain ⟨r, hr, hv⟩ | ⟨bay', b, hb, k, hk, hv⟩ := mem_allReservations.1 hv
  · rw [setCradle_map] at hr
    exact hno v (mem_allReservations.2 (.inl ⟨r, hr, hv⟩))
  · obtain ⟨i, hi⟩ := List.mem_iff_getElem?.1 hk
    have hcradle : cradleAt (setCradle bay index c s) bay' i = some k := cradleAt_eq_some_iff.2 ⟨b, hb, hi⟩
    have hkept (h : cradleAt s bay' i = some k) : v.holder ≠ .own := by
      obtain ⟨b', hb', hi'⟩ := cradleAt_eq_some_iff.1 h
      exact hno v (mem_allReservations.2 (.inr ⟨bay', b', hb', k, List.mem_of_getElem? hi', hv⟩))
    by_cases hplace : (bay', i) = (bay, index)
    · obtain ⟨rfl, rfl⟩ := Prod.mk.inj hplace
      cases hold : cradleAt s bay' i with
      | none =>
        have hsame : cradleAt (setCradle bay' i c s) bay' i = none := by
          unfold setCradle
          split
          · exact hold
          next b₀ hb₀ =>
            have hempty : b₀.cradles[i]? = none := by simpa [cradleAt, hb₀] using hold
            simp [cradleAt, bayRecord_setBay_same _ s (bay_le_of_bayRecord hb₀), Truck.setCradle, hempty]
        rw [hsame] at hcradle
        cases hcradle
      | some k₀ =>
        rw [cradleAt_setCradle_same c hold] at hcradle
        obtain rfl := Option.some.inj hcradle
        exact hc v hv
    · rw [cradleAt_setCradle_ne c s hplace] at hcradle
      exact hkept hcradle

/-- A claim recorded on a slot leaves its reservation there, or the one that stood. -/
theorem slotResv_claimed {c : SlotContent} {dir : ClaimDir} {w : Reservation} (h : slotResv (c.claimed v dir) = some w) :
    w = v ∨ slotResv c = some w := by
  cases c with
  | reservedIn z | reservedOut _ z =>
    by_cases hz : z.holder = v.holder
    · simp only [SlotContent.claimed, hz, if_true, slotResv, Option.some.injEq] at h
      exact .inl h.symm
    · simp only [SlotContent.claimed, hz, if_false, slotResv] at h
      exact .inr h
  | empty | occupied _ =>
    cases dir <;> simp only [SlotContent.claimed, slotResv, Option.some.injEq, reduceCtorEq] at h
    exact .inl h.symm
  | _ => cases h

theorem cradleResv_claimed {c : CradleContent} {loading : Bool} {w : Reservation} (h : cradleResv (c.claimed v loading) = some w) :
    w = v ∨ cradleResv c = some w := by
  cases c with
  | reserved z =>
    by_cases hz : z.holder = v.holder
    · simp only [CradleContent.claimed, hz, if_true, cradleResv, Option.some.injEq] at h
      exact .inl h.symm
    · simp only [CradleContent.claimed, hz, if_false, cradleResv] at h
      exact .inr h
  | free =>
    cases loading <;> simp only [CradleContent.claimed, cradleResv, if_true, Option.some.injEq, reduceCtorEq, Bool.false_eq_true,
      if_false] at h
    exact .inl h.symm
  | occupied _ _ _ => cases h

theorem noOwn_recordClaim {e : ClaimEntry} (hdir : refIsCradle e.ref = true → e.dir = .inward) (hno : NoOwn s) :
    NoOwn (recordClaim sender round priority e s) := by
  have hpeer : (peerReservation sender round priority s).holder ≠ .own := Holder.noConfusion
  cases href : e.ref with
  | slot row column =>
    rw [recordClaim_slot sender round priority href, claimSlot]
    split
    · exact hno
    next r hr =>
      refine noOwn_setSlot (fun w hw => ?_) hno
      obtain rfl | hw := slotResv_claimed hw
      · exact hpeer
      · exact hno w (mem_allReservations_of_resvAt (ref := .slot row column) (by rw [resvAt_slot, contentAt_of_slotAt hr, hw]))
  | cradle bay index =>
    rw [recordClaim_cradle sender round priority href (hdir (by rw [href]; rfl)), claimCradle]
    split
    · exact hno
    next k hk =>
      refine noOwn_setCradle (fun w hw => ?_) hno
      obtain rfl | hw := cradleResv_claimed hw
      · exact hpeer
      · exact hno w (mem_allReservations_of_resvAt (ref := .cradle bay index) (by rw [resvAt_cradle, hk]; exact hw))

/-- The claim entries of a peer recorded one after the other. -/
def recordClaims (sender round priority : Nat) (entries : List ClaimEntry) (s : State) : State :=
  entries.foldl (fun s e => recordClaim sender round priority e s) s

theorem noOwn_recordClaims {entries : List ClaimEntry} (hdir : ∀ e ∈ entries, refIsCradle e.ref = true → e.dir = .inward)
    (hno : NoOwn s) : NoOwn (recordClaims sender round priority entries s) := by
  induction entries generalizing s with
  | nil => exact hno
  | cons e es ih =>
    exact ih (fun x hx => hdir x (List.mem_cons_of_mem e hx)) (noOwn_recordClaim (hdir e List.mem_cons_self) hno)

/-- R138: the recording tells the claim engine and the tracker nothing, and leaves what the station holds. -/
theorem still_recordClaims {entries : List ClaimEntry} (hok : EntriesOk entries) (s : State) :
    Still (fun ref => OwnRefs s ref ∨ ref ∉ entries.map ClaimEntry.ref) s (recordClaims sender round priority entries s) := by
  have hrecorded : Recorded (peerReservation sender round priority s) (.peer sender) entries s
      (recordClaims sender round priority entries s) := recorded_recordClaims sender round priority hok s
  exact {
    link := hrecorded.keeps.2 .link (by simp)
    claims := hrecorded.keeps.2 .claims (by simp)
    tracker := hrecorded.keeps.2 .tracker (by simp)
    raises := ⟨[], raisesOnly_of_eq hrecorded.notices⟩
    kept := fun ref => hrecorded.toClaimsRecorded.kept Holder.noConfusion
    own := fun ref v hv => by rwa [hrecorded.toClaimsRecorded.ownResvAt Holder.noConfusion ref] at hv
    noOwn := noOwn_recordClaims hok.1 }

/-! ### What the records show of a claim over what was freed -/

/-- The station held a reference and no longer does. -/
def goneAt (s t : State) (ref : Ref) : Bool := (ownResvAt s ref).isSome && (ownResvAt t ref).isNone

theorem Frees.kept_of_not_gone (h : Frees s t) {ref : Ref} (hgone : goneAt s t ref = false) : RefKept s t ref := by
  cases ht : ownResvAt t ref with
  | some v => exact h.kept_of_own (by rw [ht]; rfl)
  | none =>
    refine h.kept_of_none ?_
    simpa [goneAt, ht] using hgone

theorem Frees.freed_of_gone (h : Frees s t) {ref : Ref} (hgone : goneAt s t ref = true) : RefFreed s t ref := by
  simp only [goneAt, Bool.and_eq_true, Option.isNone_iff_eq_none] at hgone
  exact h.freed_of_none hgone.1 hgone.2

theorem Frees.contentAt_eq (h : Frees s t) (row column : Nat) : contentAt t row column =
    if goneAt s t (.slot row column) = true then (contentAt s row column).without ofStation else contentAt s row column := by
  split
  next hgone => exact (h.freed_of_gone hgone).1
  next hgone => exact contentAt_congr (h.kept_of_not_gone (ref := .slot row column) (by simpa using hgone))

theorem Frees.sourceAt_eq (h : Frees s t) (row column : Nat) : sourceAt t row column =
    if goneAt s t (.slot row column) = true then some .own else sourceAt s row column := by
  split
  next hgone => exact (h.freed_of_gone hgone).2
  next hgone => exact sourceAt_congr (h.kept_of_not_gone (ref := .slot row column) (by simpa using hgone))

theorem Frees.cradleContent_eq (h : Frees s t) (bay index : Nat) : cradleContent t bay index =
    if goneAt s t (.cradle bay index) = true then (cradleContent s bay index).map (CradleContent.without ofStation)
    else cradleContent s bay index := by
  split
  next hgone => exact h.freed_of_gone hgone
  next hgone => exact h.kept_of_not_gone (by simpa using hgone)

/-- R136, R138, R139: what a frame names after it, over what the station has lost. -/
structure ClaimedOver (w : Reservation) (sender : Nat) (may : Bool) (entries : List ClaimEntry) (s t : State) : Prop where
  slot : ∀ x ∈ entries, ∀ row column, x.ref = .slot row column → isSlot s row column →
    let freed := if goneAt s t x.ref = true then (contentAt s row column).without ofStation else contentAt s row column
    contentAt t row column = (if may = true then freed.claimed w x.dir else freed) ∧
    sourceAt t row column =
      if slotResv freed = none ∧ contentAt t row column ≠ freed then some (.peer sender)
      else if goneAt s t x.ref = true then some .own else sourceAt s row column
  cradle : ∀ x ∈ entries, ∀ bay index, x.ref = .cradle bay index →
    let freed := if goneAt s t x.ref = true then (cradleContent s bay index).map (CradleContent.without ofStation)
      else cradleContent s bay index
    cradleContent t bay index = if may = true then freed.map (CradleContent.claimed w (bayLoading s bay)) else freed
  otherSlot : UnreservedSlotsKept (fun row column => .slot row column ∈ entries.map ClaimEntry.ref) s t
  otherCradle : ∀ bay index, .cradle bay index ∉ entries.map ClaimEntry.ref → ownResvAt s (.cradle bay index) = none →
    cradleContent t bay index = cradleContent s bay index
  facts : SameTruckFacts s t

theorem claimedOver_of_recorded {w : Reservation} {may : Bool} {entries : List ClaimEntry} (hw : w.holder ≠ .own)
    (hfrees : Frees s m) (h : ClaimsRecorded w (.peer sender) (if may = true then entries else []) m t) :
    ClaimedOver w sender may entries s t := by
  have hgone (ref : Ref) : goneAt s t ref = goneAt s m ref := by rw [goneAt, goneAt, h.ownResvAt hw]
  have hunnamed {ref : Ref} (hne : ref ∉ entries.map ClaimEntry.ref) :
      ref ∉ (if may = true then entries else []).map ClaimEntry.ref := by
    split
    · exact hne
    · exact List.not_mem_nil
  refine ⟨fun x hx row column href hslot => ?_, fun x hx bay index href => ?_, ?_, fun bay index hne hnone => ?_,
    hfrees.facts.trans h.facts⟩
  · have hslot' : isSlot m row column := (hfrees.isSlot_iff row column).2 hslot
    dsimp only
    rw [hgone, href, ← hfrees.contentAt_eq row column, ← hfrees.sourceAt_eq row column]
    refine ⟨?_, h.sourceAt row column⟩
    split
    next hmay =>
      rw [if_pos hmay] at h
      exact h.contentAt hx href hslot'
    next hmay =>
      rw [if_neg hmay] at h
      exact h.otherContent (List.not_mem_nil)
  · dsimp only
    rw [hgone, href, ← hfrees.cradleContent_eq bay index, ← hfrees.facts.bayLoading bay]
    split
    next hmay =>
      rw [if_pos hmay] at h
      exact h.cradleContent hx href
    next hmay =>
      rw [if_neg hmay] at h
      exact h.otherCradleContent (List.not_mem_nil)
  · refine unreservedSlotsKept_of_slotAt fun row column hne hnone => ?_
    rw [h.otherSlot row column (hunnamed hne), hfrees.slot_of_none hnone]
  · rw [h.otherCradleContent (hunnamed hne)]
    exact hfrees.kept_of_none hnone

/-! ### The round lost, between objections -/

theorem sameRound_askObjects (fs : List ObjectFrame) (s : State) : SameRound s (askObjects fs s) := by
  have hlink := (linkStep_askObjects fs s).link
  have hclaims : (askObjects fs s).claims = s.claims := (linkStep_askObjects fs s).keeps.2 .claims (by simp)
  exact ⟨by rw [hclaims], by rw [hclaims], by rw [hlink], by rw [hlink], by rw [hlink]⟩

/-- OBJECTs asked for before and after the loss of a round leave what is said of it. -/
theorem roundLost_between {cause : Reason} {r : Round} (fs gs : List ObjectFrame) (hr : s.claims.round = some r)
    (hp : r.purpose ≠ .reassert) : let t := askObjects gs (loseRound cause (askObjects fs s))
    RoundLost r cause s t ∧ RoundClosed r s t := by
  obtain ⟨hlinkf, hkeepsf, -, hraisesf⟩ := linkStep_askObjects fs s
  have hrf : (askObjects fs s).claims.round = some r := by rw [hkeepsf.2 .claims (by simp), hr]
  have hlost := (roundLost_loseRound (cause := cause) hrf hp).before (hkeepsf.2 .tracker (by simp)) hraisesf
  have hclosed := (roundClosed_loseRound (cause := cause) hrf hp).before (s := s) (by rw [hlinkf])
  generalize loseRound cause (askObjects fs s) = n at hlost hclosed
  obtain ⟨hlink, hkeeps, -, hraises⟩ := linkStep_askObjects gs n
  have hclaims : (askObjects gs n).claims = n.claims := hkeeps.2 .claims (by simp)
  have htracker : (askObjects gs n).tracker = n.tracker := hkeeps.2 .tracker (by simp)
  have hown (ref : Ref) (w : Reservation) (hw : ownResvAt (askObjects gs n) ref = some w) : ownResvAt n ref = some w := by
    rwa [ownResvAt_of_keeps hkeeps] at hw
  refine ⟨hlost.after (by rw [hclaims]; exact hlost.1) hown (fun hno => ⟨htracker, noOwn_of_keeps hkeeps hno⟩) hraises
    fun k hk _ _ => by rw [htracker, hk], hclosed.after ?_ (fun n' ref ha => ?_) hown⟩
  · exact staysAbsent_of_tracker htracker fun hround => ⟨by rw [hclaims, hround], (sameRound_askObjects gs n).box⟩
  · rw [ReleaseAsked, hlink, hclaims]
    exact ha

theorem objectsAfter_append (w : List ObjectFrame) (fs gs : List ObjectFrame) :
    objectsAfter w (fs ++ gs) = objectsAfter (objectsAfter w fs) gs := List.foldl_append

/-- R166: what a RETARGET round lost from RETARGETING leaves HELD. -/
theorem ownResvAt_loseRound_of_retargeting {cause : Reason} {r : Round} {k : Task} {ref : Ref} {v : Reservation}
    (hr : s.claims.round = some r) (hp : r.purpose = .retarget) (hk : s.tracker.task = some k) (hstate : k.state = .retargeting)
    (hv : ownResvAt s ref = some v) (hnot : ¬ InRound s ref v) : ownResvAt (loseRound cause s) ref = some v := by
  rw [(refsFreed_loseRound_of_retargeting hr hp hk hstate).kept, hv]
  rintro w hw ⟨hnumber, hmem⟩
  obtain rfl := Option.some.inj (hv.symm.trans hw)
  exact hnot ⟨r, hr, by simp [hp], hnumber, hmem⟩

/-- R48, R138: the objections of a frame in which one reference loses the round, where the loss leaves what is HELD. -/
theorem objects_between {entries es es' : List ClaimEntry} {x : ClaimEntry} (hsplit : entries = es ++ x :: es')
    (hx : heldAt s x.ref = false)
    (hheld : let n := loseRound .outranked (askObjects (heldObjections sender round es s) s)
      ∀ y ∈ es', heldAt n y.ref = heldAt s y.ref) :
    let n := loseRound .outranked (askObjects (heldObjections sender round es s) s)
    let t := askObjects (heldObjections sender round es' n) n
    let fs := heldObjections sender round entries s
    t.link.boxes.objects = objectsAfter s.link.boxes.objects fs ∧
      ((∃ f ∈ fs, f ∉ objectsAfter s.link.boxes.objects fs) → Raised .objectionDropped s t) := by
  have hfs : heldObjections sender round entries s = heldObjections sender round es s ++ heldObjections sender round es' s := by
    rw [hsplit]
    simp [heldObjections, hx]
  dsimp only at hheld ⊢
  rw [heldObjections_congr hheld, hfs, objectsAfter_append]
  generalize heldObjections sender round es s = fs
  generalize heldObjections sender round es' s = gs
  obtain ⟨hlinkf, -, hraisedf, hraisesf⟩ := linkStep_askObjects fs s
  have hloses : Loses lossNotices (askObjects fs s) (loseRound .outranked (askObjects fs s)) :=
    loses_loseRound lossNotices_subset ..
  have hobjects : (loseRound .outranked (askObjects fs s)).link.boxes.objects = objectsAfter s.link.boxes.objects fs := by
    rw [hloses.link, hlinkf]
  generalize loseRound .outranked (askObjects fs s) = n at hloses hobjects
  obtain ⟨hlinkg, -, hraisedg, hraisesg⟩ := linkStep_askObjects gs n
  rw [hobjects] at hlinkg hraisedg
  refine ⟨by rw [hlinkg], fun ⟨f, hf, hdropped⟩ => ?_⟩
  obtain hf | hf := List.mem_append.1 hf
  · have hfirst : f ∉ objectsAfter s.link.boxes.objects fs := fun h => hdropped (mem_objectsAfter_of_mem h gs)
    rw [if_neg fun h => hfirst (h f hf)] at hraisedf
    exact raised_trans (raised_trans (hraisedf _ (List.mem_singleton_self _)) hloses.notices) hraisesg
  · rw [if_neg fun h => hdropped (h f hf)] at hraisedg
    exact raised_before hraisesf (raised_before hloses.notices (hraisedg _ (List.mem_singleton_self _)))

/-- R138: what a RETARGET round leaves HELD when it is lost from RETARGETING, and nothing where nothing is HELD. -/
theorem heldAt_of_lost {fs : List ObjectFrame} {r : Round} {ref : Ref} (hr : s.claims.round = some r)
    (h : ∀ v, ownResvAt s ref = some v → v.phase = .held →
      ¬ InRound s ref v ∧ r.purpose = .retarget ∧ ∃ k ∈ s.tracker.task, k.state = .retargeting) :
    heldAt (loseRound .outranked (askObjects fs s)) ref = heldAt s ref := by
  have hkeeps := (linkStep_askObjects fs s).keeps
  have hown : ownResvAt (askObjects fs s) ref = ownResvAt s ref := by rw [ownResvAt_of_keeps hkeeps]
  have hclaims : (askObjects fs s).claims = s.claims := hkeeps.2 .claims (by simp)
  by_cases hheld : heldAt s ref = true
  · cases hv : ownResvAt s ref with
    | none => simp [heldAt, hv] at hheld
    | some v =>
      obtain ⟨hnot, hp, k, hk, hstate⟩ := h v hv (by simpa [heldAt, hv] using hheld)
      have hkept := ownResvAt_loseRound_of_retargeting (s := askObjects fs s) (cause := .outranked) (by rw [hclaims, hr]) hp
        (by rw [hkeeps.2 .tracker (by simp)]; exact hk) hstate (hown.trans hv) (mt (inRound_congr (by rw [hclaims]) ref v).1 hnot)
      rw [heldAt, heldAt, hkept, hv]
  · have hfrees : Frees (askObjects fs s) (loseRound .outranked (askObjects fs s)) := frees_loseRound ..
    obtain hsame | hnone := hfrees.own ref
    · rw [heldAt, heldAt, hsame, hown]
    · rw [heldAt, hnone]
      simpa using hheld

end

/-- The station after it has met the references of a frame. -/
theorem takeClaim_eq (sender round priority : Nat) (entries : List ClaimEntry) (s : State) :
    takeClaim sender round priority entries s =
      if mayReserve (meetOwns sender round priority entries s) sender = true then
        recordClaims sender round priority entries (meetOwns sender round priority entries s)
      else meetOwns sender round priority entries s := rfl

/-- R138, R139: a frame met, and what is recorded after it. -/
theorem takeClaim_spec {sender round priority : Nat} {entries : List ClaimEntry} {s : State} (hok : EntriesOk entries) :
    let m := meetOwns sender round priority entries s
    let t := takeClaim sender round priority entries s
    Met s m ∧ Keeps [.map, .trucks] m t ∧ t.notices = m.notices ∧
      Still (fun ref => OwnRefs m ref ∨ ref ∉ entries.map ClaimEntry.ref) m t ∧
      ClaimsRecorded (peerReservation sender round priority s) (.peer sender) (if mayReserve s sender = true then entries else []) m t := by
  have hmet : Met s (meetOwns sender round priority entries s) := met_meetOwns entries s
  rw [takeClaim_eq]
  generalize meetOwns sender round priority entries s = m at hmet ⊢
  have htable : m.table = s.table := hmet.keeps.2 .table (by simp [lossBlocks])
  have hclock : m.clock = s.clock := hmet.keeps.2 .clock (by simp [lossBlocks])
  have hmay : mayReserve m sender = mayReserve s sender := by rw [mayReserve, entryOf, htable]; rfl
  have hpeer : peerReservation sender round priority m = peerReservation sender round priority s := by
    rw [peerReservation, hclock]
    rfl
  rw [hmay]
  by_cases h : mayReserve s sender = true
  · simp only [if_pos h]
    have hrecorded : Recorded (peerReservation sender round priority m) (.peer sender) entries m
        (recordClaims sender round priority entries m) := recorded_recordClaims sender round priority hok m
    rw [hpeer] at hrecorded
    exact ⟨hmet, hrecorded.keeps, hrecorded.notices, still_recordClaims hok m, hrecorded.toClaimsRecorded⟩
  · simp only [if_neg h]
    exact ⟨hmet, keeps_refl .., trivial, .refl _ m, (Recorded.nil m).toClaimsRecorded⟩

/-- Settles O37: the references of the frame are met in their order, the first that loses the round ending it, and the claim is
recorded over what was freed. -/
theorem stationLosesToTheHigherKey : Obligations.StationLosesToTheHigherKey := by
  intro sender round priority entries s e v r hrun hdelivered he hv hphase hr hnumber hkey w base named objections waiting recorded
  obtain ⟨hok, hexec⟩ := exec_of_delivered hrun hdelivered
  have hentries := entriesOk_of_claimOk hok
  obtain ⟨hmet, hkeeps, hnotices, hstill, hrecorded⟩ := takeClaim_spec (sender := sender) (round := round) (priority := priority)
    (s := endReception s) hentries
  have hmeet : meetOwns sender round priority entries base = meetOwns sender round priority entries (endReception s) := rfl
  have hbeaten : ∃ x ∈ entries, ∃ u, ownResvAt base x.ref = some u ∧ u.phase = .pending ∧ u.round = r.number :=
    ⟨e, he, v, hv, hphase, hnumber⟩
  generalize meetOwns sender round priority entries (endReception s) = m at hmet hkeeps hnotices hstill hrecorded hmeet
  generalize takeClaim sender round priority entries (endReception s) = t at hexec hkeeps hnotices hstill hrecorded
  have hfinal := hstill.trans ((still_settle t).mono fun _ _ => trivial)
  have halike := alike_settle t
  have hover := claimedOver_of_recorded (s := endReception s) Holder.noConfusion hmet.frees
    (hrecorded.between rfl rfl halike.slotAt halike.bayRecord)
  refine ⟨settle t, hexec, ?_, ?_, fun x hx => ?_, hover.otherSlot, hover.otherCradle, hover.facts, ?_⟩
  · have hb : Keeps [.link] s (endReception s) := (linkStep_endReception s).keeps
    have hm : Keeps lossBlocks s m := hb.andThen hmet.keeps (by simp [lossBlocks]) (by simp)
    have hraises : RaisesOnly (.objectionDropped :: lossNotices) s t :=
      raisesOnly_mono (by simp) (raisesOnly_trans (raisesOnly_trans (raisesOnly_of_eq (ns := []) rfl) hmet.notices)
        (raisesOnly_of_eq (ns := []) hnotices))
    exact acts_settle (hm.andThen hkeeps (by simp) (by simp [lossBlocks])) (notices_of_raisesOnly hraises)
  · rw [hfinal.link]
    exact hmet.link
  · intro gone
    cases href : x.ref with
    | slot row column => exact fun hslot => hover.slot x hx row column href hslot
    | cradle bay index => exact hover.cradle x hx bay index href
  · by_cases hp : r.purpose = .reassert
    · rw [if_pos hp]
      intro hothers
      have hone : m = lateObjection .outranked e.ref base := by
        rw [← hmeet, meetOwns_of_one (s := base) he hv hothers hentries.2, meetOwn_of_beaten (s := base) hphase hr hnumber hkey,
          outranked, if_pos hp]
      have hmetOne : Objection .outranked e.ref v base m := hone ▸ objection_lateObjection (s := base) hv hr hp hnumber
      refine ⟨(hmetOne.after (hfinal.mono fun x hx => ?_)).objected, ?_⟩
      · by_cases hnamed : x ∈ entries.map ClaimEntry.ref
        · obtain ⟨y, hy, rfl⟩ := List.mem_map.1 hnamed
          refine .inl (hx.2.resolve_left (not_not.2 ?_))
          by_contra hne
          have hnone := hothers y hy fun heq => hne (heq ▸ rfl)
          have hown : (ownResvAt s y.ref).isSome = true := hx.1
          rw [hnone] at hown
          cases hown
        · exact .inr hnamed
      · rw [hfinal.link, hone, (loses_lateObjection .outranked e.ref base).link]
        rfl
    · rw [if_neg hp]
      obtain ⟨es, x, es', hsplit, hx, hm⟩ := meetOwns_of_beaten (sender := sender) (round := round) (priority := priority)
        (s := base) hr hp hkey hbeaten
      rw [hmeet] at hm
      obtain ⟨hlost, hclosed⟩ := roundLost_between (s := base) (cause := .outranked) (heldObjections sender round es base)
        (heldObjections sender round es' (loseRound .outranked (askObjects (heldObjections sender round es base) base))) hr hp
      rw [← hm] at hlost hclosed
      refine ⟨hlost.still hfinal, hclosed.still hfinal, fun hheld => ?_⟩
      obtain ⟨hobjects, hdropped⟩ := objects_between (sender := sender) (round := round) (s := base) hsplit hx fun y hy =>
        heldAt_of_lost hr fun u hu => hheld y (hsplit ▸ List.mem_append_right es (List.mem_cons_of_mem x hy)) u hu
      rw [← hm] at hobjects hdropped
      exact ⟨by rw [hfinal.link]; exact hobjects, fun h => hfinal.raised (hdropped h)⟩

end Sys2Proof.Machine
end

section
/-! PROOFS. PICKED and PLACED of a slot that the map has not got (R102, R117, R124). The claims about them count a reference that
is no slot among the places that change, and so fail on a map that is shorter than its geometry: the target that rests on the
missing slot is called undermined, and no check reaches it, since nothing has changed. A map with every slot of its geometry has no
such target: both slots beneath an upper slot are slots then. -/

namespace Sys2Proof.Machine

/-! ### A map shorter than its geometry -/

/-- The reservation of the target (0, 1), HELD. -/
def heldTarget : Reservation := { holder := .own, round := 40, priority := 4, phase := .held, since := 0 }

/-- A station in ACTIVE with one row of two lower positions, of which the map has no slot (0, 2): slot (0, 0) is EMPTY and the
upper slot (0, 1) a target of the station; the hook record is given. -/
def shortYard (hook : Option Hook) : State :=
  let geometry : Geometry := { rows := 1, lower := 2, rowBase := 5000, rowPitch := 3200, posBase := 1800, posPitch := 2400 }
  let s := (State.reset.withCfg { Cfg.reset with stationId := some 6, geometry := some geometry }).withLink
    { Link.reset with state := .active }
  (s.withTracker { task := none, hook := hook }).withMap
    [{ content := .empty, source := .crane }, { content := .reservedIn heldTarget, source := .own }]

/-- A hook record with coil 1004. -/
def coilOnHook : Hook := { coil := some 1004, weight := 1510, width := none, origin := .task }

theorem running_shortYard (hook : Option Hook) : Running (shortYard hook) := rfl

/-- The station holds the target alone. -/
theorem ownResvAt_shortYard_ne (hook : Option Hook) {ref : Ref} (h : ref ≠ .slot 0 1) : ownResvAt (shortYard hook) ref = none := by
  match ref with
  | .slot 0 0 | .slot 0 2 => rfl
  | .slot 0 1 => exact absurd rfl h
  | .slot 0 (column + 3) =>
    have hcontent : contentAt (shortYard hook) 0 (column + 3) = .empty := by
      simp [contentAt, slotAt, shortYard, slotIndex, columns]
    simp [ownResvAt, resvAt_slot, hcontent, slotResv]
  | .slot (row + 1) column =>
    have hcontent : contentAt (shortYard hook) (row + 1) column = .empty := by
      simp [contentAt, slotAt, shortYard, slotIndex]
    simp [ownResvAt, resvAt_slot, hcontent, slotResv]
  | .cradle 0 _ | .cradle 1 _ | .cradle (_ + 2) _ => rfl

/-- The own reservation of the target after a command. -/
def targetAfter (c : Instr) (s : State) : Option Reservation :=
  match exec c s with
  | .next t => ownResvAt t (.slot 0 1)
  | _ => none

theorem targetAfter_of_exec {c : Instr} {s t : State} (h : exec c s = .next t) : targetAfter c s = ownResvAt t (.slot 0 1) := by
  rw [targetAfter, h]

/-- A PICKED of the missing slot, its coil on the station's hook, leaves the target. -/
theorem targetAfter_picked : targetAfter (.pickedReceived 3 40 (.slot 0 2) 1004) (shortYard (some coilOnHook)) = some heldTarget := by
  rfl

/-- A PLACED of the missing slot leaves the target. -/
theorem targetAfter_placed : targetAfter (.placedReceived 3 40 (.slot 0 2) 1004 1510 none) (shortYard none) = some heldTarget := by
  rfl

/-! ### The refutations -/

/-- Refutes O42: the missing slot counts as one that becomes DISPUTED, its coil being on the hook, and the target over it as
removed; the station still holds it. -/
theorem not_pickedReceivedMovesTheCoil : ¬ Obligations.PickedReceivedMovesTheCoil := by
  intro h
  have hdelivered : Delivered (.pickedReceived 3 40 (.slot 0 2) 1004) (shortYard (some coilOnHook)) :=
    ⟨_, rfl, by decide, rfl, rfl, by decide, fun _ => rfl⟩
  obtain ⟨t, hexec, -, hremoved, -⟩ := h 3 40 0 2 1004 (shortYard (some coilOnHook)) (running_shortYard _) hdelivered
  obtain ⟨-, hgone, -⟩ := hremoved (.slot 0 1) heldTarget rfl rfl fun y hy => by
    cases y with
    | slot row column => simp [ownResvAt_shortYard_ne _ hy]
    | cradle => rfl
  rw [← targetAfter_of_exec hexec, targetAfter_picked] at hgone
  cases hgone

/-- Refutes O43: the missing slot counts as one that becomes OCCUPIED, and the target over it, whose other lower slot is EMPTY, as
removed; the station still holds it. -/
theorem not_placedReceivedPutsTheCoil : ¬ Obligations.PlacedReceivedPutsTheCoil := by
  intro h
  have hdelivered : Delivered (.placedReceived 3 40 (.slot 0 2) 1004 1510 none) (shortYard none) :=
    ⟨_, rfl, by decide, rfl, rfl, by decide, fun _ => rfl⟩
  obtain ⟨t, hexec, -, hremoved, -⟩ := h 3 40 (.slot 0 2) 1004 1510 none (shortYard none) (running_shortYard _) hdelivered
  obtain ⟨-, hgone, -⟩ := hremoved (.slot 0 1) heldTarget rfl rfl fun y hy => by
    cases y with
    | slot row column => simp [ownResvAt_shortYard_ne _ hy]
    | cradle bay index => simp [ownResvAt_shortYard_ne _ hy]
  rw [← targetAfter_of_exec hexec, targetAfter_placed] at hgone
  cases hgone

end Sys2Proof.Machine
end
